-- ==== Sys2Proof/Word.lean ====
section
/-! DEFINITION. The byte and word types of the two serial lines and of the tables (00_scope.md 5.4). -/

namespace Sys2Proof

/-- One byte of a frame, a message, a card response or a plane. -/
abbrev Byte := BitVec 8

/-- A 16-bit register or word, as the CRC register of R2. -/
abbrev Word16 := BitVec 16

end Sys2Proof
end

