-- ==== Sys2Proof/Syntax.lean ====
section
/-! DEFINITION. The commands of the FZ-4120: one constructor per row of spec/opcode_table.json. The requests of the order
link take no operand, because their tag and arguments stand at the head of the control request queue (R8, log entry 1);
an event carries what comes in from outside. Times `ms` are milliseconds of the part's time base (log entry 5). -/

namespace Sys2Proof

/-- The two print engines (00_scope.md 5.5). -/
inductive EngineId where
  | A
  | B
  deriving DecidableEq, Repr

/-- The ENGINE_COUNT strap (R31). -/
inductive Strap where
  | one
  | two
  deriving DecidableEq, Repr

/-- A change of one of an engine's four sensor inputs (R165); `on` is whether the condition is now reported. -/
inductive SensorReport where
  | paperJam (on : Bool)
  | ribbonBreak (on : Bool)
  | doorOpen (on : Bool)
  | media (kind : Fin 16)
  deriving DecidableEq, Repr

/-- One constructor per row of spec/opcode_table.json, in the table's order. -/
inductive Instr where
  /-- POWER_ON_RESET (R18): RESETN low or power-up. -/
  | powerOnReset
  /-- RESET_RELEASE (R31): the strap as sampled and the first temperature samples (R162). -/
  | resetRelease (ms : Nat) (strap : Strap) (tempA tempB : Int)
  /-- FRAME_HEADER_TAKEN (R3): the second payload length byte. -/
  | frameHeaderTaken (b : Byte)
  /-- FRAME_TAKEN (R3): the second CRC byte. -/
  | frameTaken (b : Byte)
  /-- LINK_GAP_EXPIRY (R4). -/
  | linkGapExpiry
  /-- UNKNOWN_REQUEST (R8). -/
  | unknownRequest
  /-- REPLY_HANDOVER (R10). -/
  | replyHandover
  /-- FRAME_TRANSMIT_DONE (R11). -/
  | frameTransmitDone
  /-- TABLE_WRITE (R13), taken at time `ms`. -/
  | tableWrite (ms : Nat)
  /-- TABLE_READ (R14). -/
  | tableRead
  /-- STATUS_READ (R17). -/
  | statusRead
  /-- EVENT_MASK (R16). -/
  | eventMask
  /-- GO_LIVE (R20). -/
  | goLive
  /-- DRAIN (R22). -/
  | drain
  /-- RESUME (R22). -/
  | resume
  /-- PARK (R23). -/
  | park
  /-- WAKE_SET (R27). -/
  | wakeSet
  /-- PATH_RESET (R12). -/
  | pathReset
  /-- PATH_RESET_EFFECTS (R32). -/
  | pathResetEffects
  /-- GRACE_EXPIRY (R24). -/
  | graceExpiry
  /-- SERVICE_KEY_ASSERT (R26). -/
  | serviceKeyAssert
  /-- SERVICE_KEY_DEASSERT (R30). -/
  | serviceKeyDeassert
  /-- DEBOUNCE_EXPIRY (R30): sources 0..3 are the slots, 4 the service key. -/
  | debounceExpiry (src : Fin 5)
  /-- CARD_DETECT_ASSERT (R35). -/
  | cardDetectAssert (i : Fin 4)
  /-- CARD_REMOVAL (R42). -/
  | cardRemoval (i : Fin 4)
  /-- SETTLING_EXPIRY (R36). -/
  | settlingExpiry (i : Fin 4)
  /-- IDENTIFY_RESPONSE (R39): status byte, response data and check byte (R37). -/
  | identifyResponse (i : Fin 4) (status : Byte) (data : List Byte) (check : Byte)
  /-- IDENTIFY_LIMIT_EXPIRY (R40). -/
  | identifyLimitExpiry (i : Fin 4)
  /-- CARD_RESPONSE_TIMEOUT (R38). -/
  | cardResponseTimeout (i : Fin 4)
  /-- BUSY_RETRY_EXPIRY (R39). -/
  | busyRetryExpiry (i : Fin 4)
  /-- READ_BLOCK_RESPONSE (R58): status byte and check byte. -/
  | readBlockResponse (i : Fin 4) (status check : Byte)
  /-- DATA_PHASE_COMPLETE (R58): the 512 bytes, then the two bytes of the data check as they come, the
  low one first (R37). -/
  | dataPhaseComplete (i : Fin 4) (data check : List Byte)
  /-- DATA_PHASE_TIMEOUT (R38). -/
  | dataPhaseTimeout (i : Fin 4)
  /-- READ_BUSY_LIMIT (R58). -/
  | readBusyLimit (i : Fin 4)
  /-- STOP_RESPONSE (R38): status byte and check byte. -/
  | stopResponse (i : Fin 4) (status check : Byte)
  /-- STOP_BUSY_LIMIT (R38). -/
  | stopBusyLimit (i : Fin 4)
  /-- SLOT_UNBIND (R47). -/
  | slotUnbind
  /-- SECTOR_READ (R54). -/
  | sectorRead
  /-- READ_CANCEL (R64). -/
  | readCancel
  /-- SECTOR_ATTEMPT_START (R58). -/
  | sectorAttemptStart
  /-- ORDER_OPEN (R75). -/
  | orderOpen
  /-- ITEM_ADD (R76, R77). -/
  | itemAdd
  /-- ITEM_WITHDRAW (R78). -/
  | itemWithdraw
  /-- ORDER_COMMIT (R79). -/
  | orderCommit
  /-- ORDER_CANCEL (R80). -/
  | orderCancel
  /-- ORDER_RESUME (R82). -/
  | orderResume
  /-- ORDER_READ (R83). -/
  | orderRead
  /-- ORDER_RELEASE (R84). -/
  | orderRelease
  /-- PULSE_ASSERT (R108). -/
  | pulseAssert (ch : Fin 6) (ms : Nat)
  /-- PULSE_END (R109). -/
  | pulseEnd (ch : Fin 6) (ms : Nat)
  /-- PULSE_JAM (R109). -/
  | pulseJam (ch : Fin 6)
  /-- TRAIN_GAP_EXPIRY (R112). -/
  | trainGapExpiry (ch : Fin 6)
  /-- FOCUS_SET (R116). -/
  | focusSet
  /-- FOCUS_CLEAR (R116). -/
  | focusClear
  /-- CHANNEL_RESET (R118), taken at time `ms`. -/
  | channelReset (ms : Nat)
  /-- POOL_APPLY (R121). -/
  | poolApply
  /-- POOL_PAYOUT (R122). -/
  | poolPayout
  /-- TALLY_READ (R123). -/
  | tallyRead
  /-- TALLY_CLEAR (R124). -/
  | tallyClear
  /-- CARD_AUTHORIZE (R130). -/
  | cardAuthorize
  /-- CASHLESS_MESSAGE_SENT (R126). -/
  | cashlessMessageSent
  /-- APPROVED (R131): the check byte that ends the message. -/
  | approved (b : Byte)
  /-- DECLINED (R132): the check byte that ends the message. -/
  | declined (b : Byte)
  /-- CAPTURED (R134): the check byte that ends the message. -/
  | captured (b : Byte)
  /-- RELEASED (R134): the check byte that ends the message. -/
  | released (b : Byte)
  /-- UNKNOWN_TERMINAL_MESSAGE (R193): the check byte that ends the message. -/
  | unknownTerminalMessage (b : Byte)
  /-- CASHLESS_CHECK_DISCARD (R127): a check byte that differs from the sum. -/
  | cashlessCheckDiscard (b : Byte)
  /-- CASHLESS_GAP_EXPIRY (R127). -/
  | cashlessGapExpiry
  /-- CASHLESS_STOP_BIT_ERROR (R127). -/
  | cashlessStopBitError
  /-- AUTHORIZE_TIMEOUT (R133). -/
  | authorizeTimeout
  /-- SETTLEMENT_OP_TIMEOUT (R134). -/
  | settlementOpTimeout
  /-- LATE_RELEASE_TIMEOUT (R135). -/
  | lateReleaseTimeout
  /-- BAND_TAKE (R140). -/
  | bandTake
  /-- REGION_OPEN (R155). -/
  | regionOpen
  /-- REGION_CLOSE (R156). -/
  | regionClose
  /-- SPOOL_GRANT (R159): `pick` chooses among the plane writes of the band when RIN is served (log entry 13). -/
  | spoolGrant (pick : Nat)
  /-- SPOOL_ACCESS_DONE (R159). -/
  | spoolAccessDone
  /-- ENGINE_ONLINE (R174). -/
  | engineOnline
  /-- ENGINE_OFFLINE (R175). -/
  | engineOffline
  /-- ENGINE_CLEAR (R177). -/
  | engineClear
  /-- MEDIA_SET (R176). -/
  | mediaSet
  /-- DRAW_COMPLETE (R167). -/
  | drawComplete (e : EngineId)
  /-- PANEL_MOTION_COMPLETE (R168): the panel-start sample and line 0's line-start sample (log entry 14). -/
  | panelMotionComplete (e : EngineId) (panelTemp lineTemp : Int)
  /-- MOTION_TIMEOUT (R165). -/
  | motionTimeout (e : EngineId)
  /-- SENSOR_FAULT_CONDITION (R171): a sensor input changes (log entry 11). -/
  | sensorFaultCondition (e : EngineId) (report : SensorReport)
  /-- THERMISTOR_SAMPLE (R165). -/
  | thermistorSample (e : EngineId) (temp : Int)
  /-- STROBE_PASS_DONE (R188): the sample of the next line start, used when this pass ends a line that has a next one. -/
  | strobePassDone (e : EngineId) (lineTemp : Int)
  /-- EJECT_COMPLETE (R170). -/
  | ejectComplete (e : EngineId)
  /-- LINK_BYTE_RECEIVED (R3). -/
  | linkByteReceived (b : Byte)
  /-- CASHLESS_BYTE_RECEIVED (R127). -/
  | cashlessByteReceived (b : Byte)
  /-- ABORT_EJECT_COMPLETE (R178). -/
  | abortEjectComplete (e : EngineId)
  deriving DecidableEq, Repr

end Sys2Proof
end

