-- ==== Sys2Proof/Decode.lean ====
section
/-! DEFINITION. The reading of a command from the table's bits. No row of spec/opcode_table.json gives bits ("fields" is
empty in each, "n_rows_with_fixed" is 0 in 98_reader.md), so no word spells a command (log entry 3). The bytes of the two
serial lines are read by the receivers of LNK and CLC (R3, R127), in Machine/Link.lean and Machine/Cashless.lean. -/

namespace Sys2Proof

/-- The command that the bits `w` spell by the table: none, as no row of the table gives bits. -/
def decodeTableWord (_nbits _w : Nat) : Option Instr := none

end Sys2Proof
end

