-- ==== Sys2Proof/Config.lean ====
section
/-! DEFINITION. The capacities, limits and times that the spec fixes for the part (00_scope.md 2.1: "Capacities in this
table are fixed by the part"). Times are in milliseconds. -/

namespace Sys2Proof.Config

/-- Entries of the control request queue (R7). -/
def ctrlQueueRoom : Nat := 16
/-- Entries of the reply queue (R10). -/
def replyQueueRoom : Nat := 8
/-- Longest payload of a link frame (R1). -/
def maxPayload : Nat := 4096
/-- Top of the link error count, where it stays (R5). -/
def errorCountTop : Nat := 65535
/-- Read requests and waiting endings of one slot (R53). -/
def readQueueRoom : Nat := 8
/-- Sectors of one turn of the transfer path (R60). -/
def turnSectors : Nat := 8
/-- Item IDs of one order (R71). -/
def orderItemRoom : Nat := 16
/-- Largest order total (R71, R76). -/
def totalTop : Nat := 9999999
/-- Largest value of an order money field (R71, R94). -/
def moneyTop : Nat := 16777215
/-- Largest value of a tally field (R115, R119). -/
def tallyTop : Nat := 4294967295
/-- Pulses that end a bill train (R112). -/
def trainTop : Nat := 100
/-- Entries of the cashless operation queue and of the late-release list (R129, R133). -/
def cashlessRoom : Nat := 8
/-- Entries of the band queue (R139). -/
def bandQueueRoom : Nat := 4
/-- Items of one engine queue (R164). -/
def engineQueueRoom : Nat := 8
/-- Bytes of the spool memory (R153, R155). -/
def spoolBytes : Nat := 268435456
/-- Bytes of one MiB (00_scope.md 5.1). -/
def mib : Nat := 1048576
/-- Prints remaining at which MEDIA_LOW is captured (R167). -/
def mediaLowAt : Nat := 20
/-- Largest strobe code (R180, R185). -/
def codeTop : Nat := 1023

/-- Gap limit between two bytes of a link frame (R4). -/
def linkGap : Nat := 5
/-- Park grace (R23, R24). -/
def graceTime : Nat := 10000
/-- Wake debounce (R29, R30). -/
def debounceTime : Nat := 250
/-- Settling hold of a card slot (R35). -/
def settleTime : Nat := 250
/-- Identify limit (R39). -/
def identifyLimit : Nat := 1000
/-- Limit of a run of BUSY answers to READ_BLOCK or STOP (R38, R58). -/
def busyLimit : Nat := 1000
/-- Timeout of an AUTHORIZE (R129). -/
def authorizeTime : Nat := 60000
/-- Timeout of a CAPTURE, RELEASE or LATE_RELEASE (R129). -/
def settlementTime : Nat := 15000
/-- Gap limit between two bytes of a terminal message (R127). -/
def cashlessGap : Nat := 50

/-- What a byte of the spool memory reads as while nothing has written it. DESIGN CHOICE, unsafe (log entry 9): R160 says
that the contents after power-up are not defined. -/
def unwrittenByte : BitVec 8 := 0

end Sys2Proof.Config
end

