-- ==== Sys2Proof/Machine/State.lean ====
section
/-! DEFINITION. The state of the part, block by block (00_scope.md 2.1), as plain data, its value after reset, and the
reasons a command can stop. INVENTORY.md lists every field with its rule. -/

namespace Sys2Proof.Machine

/-- A timer: stopped (`none`), or running toward a limit in milliseconds. Its expiry is a command (log entry 5). -/
abbrev Timer := Option Nat

/-! ### Order Link Port and Service Controller -/

/-- The device modes, in the order of R18's table. -/
inductive Mode where
  | setup
  | live
  | drain
  | parkPending
  | parked
  | waking
  deriving DecidableEq, Repr

/-- The 27 capture kinds, in the order of the table of 01_the_order_link.md 1.6. -/
inductive CaptureKind where
  | cardIn | cardOut | cardForeign | slotFault
  | credit | poolCredit | channelJam | noisePulse | uncountedPulse
  | authResult | cashlessDone | cashlessUnconfirmed | lateApproval | strayMessage
  | itemSpooled | itemDone | itemFailed | orderFunded | orderClosed
  | engineFault | heatHold | mediaLow | mediaOut | budgetClip
  | bandDiscard | linkError | wake
  deriving DecidableEq, Repr

/-- A set of capture kinds, one bit each (R15, R16, R191). -/
abbrev CaptureSet := BitVec 27

/-- A set of wake sources: bits 0..3 the slots, bit 4 the pulse source, bit 5 the service key (R191). -/
abbrev WakeSet := BitVec 6

/-- The reply statuses, in the order of the status table of R9. -/
inductive Status where
  | ok | queueFull | unknownRequest | badArgument | notLive | draining | wrongState | noRoom | inUse | overlap
  | misaligned | noProduct | amountLimit | allowanceSpent | cardForeign | outOfRange | checkMismatch | busy | wakePending
  deriving DecidableEq, Repr

/-- States of the receive frame assembler (R3). -/
inductive AsmState where
  | hunt
  | header
  | payload
  | check
  deriving DecidableEq, Repr

/-- The receive frame assembler (R3, R4). -/
structure Assembler where
  state : AsmState
  /-- the last byte examined in HUNT was a 0xC3 -/
  sawStart : Bool
  /-- the bytes since the start marker: class, flags, tag, length, payload, first CRC byte -/
  bytes : List Byte
  gap : Timer
  deriving DecidableEq, Repr

/-- An entry of the control request queue (R7). -/
structure CtrlEntry where
  tag : Nat
  payload : List Byte
  deriving DecidableEq, Repr

/-- A REPLY: the request's tag, the request code, the status and the result (R9). -/
structure Reply where
  tag : Nat
  code : Byte
  status : Status
  result : List Byte
  deriving DecidableEq, Repr

/-- What takes place when a REPLY is handed over (R17, R20, R22, R23, R12). -/
inductive Handover where
  | plain
  | goLive
  | drain
  | resume
  | park
  | status (clearCount : Bool)
  | pathReset
  deriving DecidableEq, Repr

/-- The control handler (R8, R10, R12): idle, serving a request whose REPLY waits for hand-over, waiting for the
PATH_RESET REPLY to be sent, or waiting for PATH_RESET's effects after it was sent. -/
inductive Handler where
  | idle
  | serving (reply : Reply) (atHandover : Handover)
  | resetSending
  | resetDue
  deriving DecidableEq, Repr

/-- A frame in transmission (R1, R11). -/
structure TxFrame where
  cls : Byte
  flags : Byte
  tag : Nat
  payload : List Byte
  crc : Word16
  deriving DecidableEq, Repr

/-- Order Link Port. -/
structure Link where
  asm : Assembler
  errorCount : Nat
  /-- discards since the STATUS_READ snapshot (R5) -/
  discards : Nat
  ctrl : List CtrlEntry
  handler : Handler
  replies : List Reply
  tx : Option TxFrame
  deriving DecidableEq, Repr

/-- Service Controller. -/
structure Service where
  mode : Mode
  grace : Timer
  request : WakeSet
  enable : WakeSet
  /-- slots 0..3 and, at 4, the service key -/
  debounce : Vector Timer 5
  strap : Strap
  captureSet : CaptureSet
  alertMask : CaptureSet
  snapshot : Option CaptureSet
  again : CaptureSet
  deriving DecidableEq, Repr

/-! ### Card Slot Unit -/

/-- A card identity (R33). -/
structure Identity where
  serial : Nat
  capacity : Nat
  deriving DecidableEq, Repr

/-- The eight slot states, in the order of R34. -/
inductive SlotState where
  | empty
  | settling
  | identifying
  | ready
  | bound
  | absentBound
  | foreign
  | fault
  deriving DecidableEq, Repr

/-- The state a slot held before a park (R33, R50). -/
inductive ResumeState where
  | ready
  | bound
  | foreign
  deriving DecidableEq, Repr

/-- The five commands of the card bus (R37). -/
inductive CardCmd where
  | resetCard
  | identify
  | select
  | readBlock
  | stop
  deriving DecidableEq, Repr

/-- What a slot's card bus is doing (R38): nothing, a command awaiting its response, 20 ms between a BUSY and the same
command again, or the data phase of a sector. -/
inductive BusPhase where
  | idle
  | awaiting (cmd : CardCmd) (arg : Nat)
  | retryWait (cmd : CardCmd) (arg : Nat)
  | data
  deriving DecidableEq, Repr

/-- A slot's card bus. -/
structure CardBus where
  phase : BusPhase
  /-- runs toward 1 s once a READ_BLOCK or a STOP has been answered BUSY (R38, R58) -/
  busyRun : Timer
  /-- the read on the bus outlived its request at PATH_RESET (R51) -/
  orphan : Bool
  deriving DecidableEq, Repr

/-- An identify in progress (R39). -/
structure IdentifyRun where
  limit : Timer
  /-- the identity read, kept apart from the slot's own -/
  read : Option Identity
  deriving DecidableEq, Repr

/-- A read request (R53). -/
structure ReadReq where
  /-- the model's own identity of the request (log entry 26) -/
  uid : Nat
  tag : Nat
  first : Nat
  count : Nat
  next : Nat
  produced : Nat
  owner : Nat
  preview : Bool
  cancelPending : Bool
  retried : Bool
  deriving DecidableEq, Repr

/-- The outcomes of a read request (R53), in the order of the SECTOR header's codes (13.3). -/
inductive ReadOutcome where
  | ok
  | readError
  | cardGone
  | cancelled
  deriving DecidableEq, Repr

/-- A SECTOR frame (R61); `data` is empty in an ending that carries no sector. -/
structure SectorFrame where
  uid : Nat
  tag : Nat
  slot : Fin 4
  preview : Bool
  retried : Bool
  last : Bool
  outcome : ReadOutcome
  sector : Nat
  owner : Nat
  data : List Byte
  deriving DecidableEq, Repr

/-- A slot record (R33) with the timers of its settling and identify and its card bus. -/
structure Slot where
  state : SlotState
  identity : Option Identity
  bound : Option Nat
  allowance : Nat
  delivered : Nat
  holdComplete : Bool
  resume : Option ResumeState
  queue : List ReadReq
  settling : Timer
  identify : Option IdentifyRun
  bus : CardBus
  deriving DecidableEq, Repr

/-- The turn of the transfer path (R56). -/
structure Turn where
  slot : Fin 4
  count : Nat
  deriving DecidableEq, Repr

/-- Card Slot Unit. -/
structure Cards where
  slots : Vector Slot 4
  turn : Option Turn
  lastServed : Fin 4
  buffer : Option SectorFrame
  offered : Option SectorFrame
  endings : List SectorFrame
  nextUid : Nat
  /-- the slot parameters table (R48) -/
  previewAllowance : Nat
  deriving DecidableEq, Repr

/-! ### Order Table -/

/-- Funding modes (R71). -/
inductive Funding where
  | prepay
  | perItem
  deriving DecidableEq, Repr

/-- Order states, in the order of R72. -/
inductive OrderState where
  | opened
  | committed
  | settling
  | closed
  | halted
  deriving DecidableEq, Repr

/-- Cashless states, in the order of R128. -/
inductive CashlessState where
  | none
  | pending
  | approved
  | declined
  | timedOut
  | capturing
  | captured
  | releasing
  | released
  | unconfirmed
  deriving DecidableEq, Repr

/-- The cashless record of an order (R128). -/
structure Cashless where
  state : CashlessState
  requested : Nat
  approved : Nat
  reason : Option Nat
  lateSeen : Bool
  deriving DecidableEq, Repr

/-- A live order record (R71). -/
structure Order where
  number : Nat
  state : OrderState
  funding : Funding
  slot : Option (Fin 4)
  locked : Option Identity
  items : List (Fin 64)
  total : Nat
  cashIn : Nat
  cardAuth : Nat
  consumed : Nat
  cancel : Bool
  change : Option Nat
  captured : Option Nat
  cashless : Cashless
  deriving DecidableEq, Repr

/-- Item states, in the order of R74. -/
inductive ItemState where
  | defined
  | receiving
  | spooled
  | queued
  | printing
  | done
  | failed
  | withdrawn
  deriving DecidableEq, Repr

/-- Finish modes (R68, 13.4). -/
inductive Finish where
  | gloss
  | matte
  | pattern
  deriving DecidableEq, Repr

/-- Failure reasons (R73). -/
inductive FailReason where
  | engineFaultTwice
  | pathReset
  deriving DecidableEq, Repr

/-- An item entry in use (R73). -/
structure Item where
  order : Fin 32
  sequence : Nat
  code : Nat
  price : Nat
  maskA : Bool
  maskB : Bool
  media : Nat
  finish : Finish
  tone : Fin 4
  copies : Nat
  copiesDone : Nat
  width : Nat
  length : Nat
  region : Fin 16
  received : Nat
  state : ItemState
  debited : Bool
  reprintUsed : Bool
  engine : Option EngineId
  reason : Option FailReason
  deriving DecidableEq, Repr

/-- A row of the product table, each field as the link entry's bytes give it (R68, 13.4). -/
structure ProductRow where
  valid : Bool
  p1 : Nat
  p2 : Nat
  p3 : Nat
  t2 : Nat
  t3 : Nat
  mask : Byte
  media : Nat
  finish : Nat
  tone : Nat
  deriving DecidableEq, Repr

/-- An entry of the release list (R85). -/
structure ReleaseEntry where
  item : Fin 64
  marked : Bool
  deriving DecidableEq, Repr

/-- Kinds of cashless operation (R129). -/
inductive OpKind where
  | authorize
  | capture
  | release
  | lateRelease
  deriving DecidableEq, Repr

/-- A cashless operation (R129). -/
structure CashlessOp where
  kind : OpKind
  ref : Nat
  amount : Nat
  deriving DecidableEq, Repr

/-- Order Table. -/
structure OrderTable where
  orders : Vector (Option Order) 32
  items : Vector (Option Item) 64
  admission : Nat
  products : Vector ProductRow 32
  priceKey : Nat
  release : List ReleaseEntry
  /-- settlement operations waiting for room in the cashless operation queue (R101) -/
  waiting : List CashlessOp
  deriving DecidableEq, Repr

/-! ### Payment Unit -/

/-- Acceptor groups (R107). -/
inductive Group where
  | coin
  | bill
  deriving DecidableEq, Repr

/-- An entry of the pulse channel table (R107). -/
structure ChannelEntry where
  enabled : Bool
  group : Group
  value : Nat
  minWidth : Nat
  maxWidth : Nat
  gap : Nat
  deriving DecidableEq, Repr

/-- A pulse under way (R108): when its line asserted, and whether it is the pulse that jammed the channel (R110). -/
structure Pulse where
  since : Nat
  jammer : Bool
  deriving DecidableEq, Repr

/-- An open bill train (R108): the gap timer is stopped (`none`) or runs since the time given. -/
structure Train where
  n : Nat
  value : Nat
  gapSince : Option Nat
  deriving DecidableEq, Repr

/-- A channel record (R108). -/
structure Channel where
  jammed : Bool
  pulse : Option Pulse
  train : Option Train
  deriving DecidableEq, Repr

/-- Payment Unit. -/
structure Payment where
  table : Vector ChannelEntry 6
  chans : Vector Channel 6
  focus : Option Nat
  counted : Nat
  kept : Nat
  pool : Nat
  deriving DecidableEq, Repr

/-! ### Cashless Line Controller -/

/-- States of the cashless receiver (R127). -/
inductive RxState where
  | hunt
  | header
  | body
  | sum
  deriving DecidableEq, Repr

/-- The receiver of the cashless line (R127); `bytes` are the type, the body length and the body so far. -/
structure Receiver where
  state : RxState
  bytes : List Byte
  gap : Timer
  deriving DecidableEq, Repr

/-- The outstanding operation (R129); its timer is stopped until its message has left (R126). -/
structure Outstanding where
  op : CashlessOp
  timer : Timer
  deriving DecidableEq, Repr

/-- Cashless Line Controller. -/
structure CashlessLine where
  queue : List CashlessOp
  outstanding : Option Outstanding
  late : List Nat
  rx : Receiver
  deriving DecidableEq, Repr

/-! ### Raster Intake and Spool Controller -/

/-- A run of bytes to be written into one quarter of a region (R150, R159). -/
structure PlaneWrite where
  addr : Nat
  bytes : List Byte
  deriving DecidableEq, Repr

/-- The band in conversion, with the plane writes the port has not yet granted (R140, R150). -/
structure BandConv where
  item : Fin 64
  row : Nat
  half : Nat
  writes : List PlaneWrite
  deriving DecidableEq, Repr

/-- An intake record (R142). -/
structure Intake where
  segments : List (Nat × Nat)
  receiving : Bool
  deriving DecidableEq, Repr

/-- Raster Intake; a tone set is its 777 words (R145). -/
structure RasterIntake where
  tones : Vector (List Nat) 4
  queue : List (List Byte)
  conv : Option BandConv
  intake : Vector (Option Intake) 64
  deriving DecidableEq, Repr

/-- A region record (R153); the size is in MiB. -/
structure Region where
  valid : Bool
  base : Nat
  size : Nat
  holder : Option (Fin 64)
  deriving DecidableEq, Repr

/-- The requesters of the spool port (R159). -/
inductive Requester where
  | intake
  | engine (e : EngineId)
  deriving DecidableEq, Repr

/-- A granted access (R159): a write of `bytes` at `addr` for RIN, or a read of `len` bytes for an engine. `live` is
cleared when the requester abandons the work the access belongs to. -/
structure Access where
  who : Requester
  addr : Nat
  len : Nat
  bytes : List Byte
  live : Bool
  deriving DecidableEq, Repr

/-- Spool Controller. `mem` lists the bytes that differ from what an unlisted byte reads as, addresses rising. -/
structure Spool where
  regions : Vector Region 16
  mem : List Host.Cell
  port : Option Access
  lastServed : Requester
  deriving DecidableEq, Repr

/-! ### Engine Controllers and Head Drive Units -/

/-- Engine states, in the order of R162. -/
inductive EngineState where
  | absent
  | offline
  | idle
  | loading
  | panel
  | heatHold
  | ejecting
  | needsMedia
  | fault
  deriving DecidableEq, Repr

/-- The four panels (R168). -/
inductive Panel where
  | Y
  | M
  | C
  | F
  deriving DecidableEq, Repr

/-- Fault kinds, in the order of R162. -/
inductive FaultKind where
  | paperJam
  | ribbonBreak
  | headHot
  | doorOpen
  | mediaMismatch
  deriving DecidableEq, Repr

/-- A mechanism motion with its 5 s limit (R165), the aborting eject of R178 included. -/
inductive Motion where
  | draw
  | panelStart (p : Panel)
  | eject
  | abortEject
  deriving DecidableEq, Repr

/-- Engine parameters (R181). -/
structure EngineParams where
  tref : Nat
  kT : Nat
  kH : Nat
  budget : Nat
  hold : Nat
  stop : Nat
  deriving DecidableEq, Repr

/-- The line in drive (R188): final codes, group count, and how many passes have been fired. -/
structure Drive where
  codes : List Nat
  groups : Nat
  fired : Nat
  deriving DecidableEq, Repr

/-- Head Drive Unit: 1024 energy words, the previous-line record and the line in drive. -/
structure Head where
  energy : List Nat
  prev : Option (List Nat)
  drive : Option Drive
  deriving DecidableEq, Repr

/-- Engine Controller (R162). -/
structure Engine where
  state : EngineState
  panel : Option Panel
  line : Option Nat
  offlinePending : Bool
  fault : Option FaultKind
  temperature : Int
  mediaKind : Nat
  prints : Nat
  queue : List (Fin 64)
  motion : Option Motion
  /-- a line read waits at the spool port (R159, R169) -/
  readWaiting : Bool
  params : EngineParams
  hdu : Head
  deriving DecidableEq, Repr

/-- The four sensor inputs of an engine (R165). -/
structure Sensors where
  paperJam : Bool
  ribbonBreak : Bool
  doorOpen : Bool
  media : Fin 16
  deriving DecidableEq, Repr

/-- The input levels that outlive a reset. -/
structure Pins where
  detect : Vector Bool 4
  pulse : Vector Bool 6
  key : Bool
  sensorsA : Sensors
  sensorsB : Sensors
  deriving DecidableEq, Repr

/-! ### The part and the machine -/

/-- The part: its ten blocks, its input levels, the reset line and its time base in milliseconds. -/
structure Part where
  now : Nat
  inReset : Bool
  pins : Pins
  lnk : Link
  svc : Service
  csu : Cards
  ord : OrderTable
  pay : Payment
  clc : CashlessLine
  rin : RasterIntake
  spl : Spool
  engA : Engine
  engB : Engine
  deriving DecidableEq, Repr

/-- The machine: the part and the commands that wait, first in, first out. -/
structure State extends Part where
  pending : List Instr
  deriving DecidableEq, Repr

/-! ### Values after reset -/

/-- A slot record after power-on reset (R33). -/
def Slot.reset : Slot :=
  { state := .empty, identity := none, bound := none, allowance := 0, delivered := 0, holdComplete := false
    resume := none, queue := [], settling := none, identify := none
    bus := { phase := .idle, busyRun := none, orphan := false } }

/-- The assembler after power-on reset (R3). -/
def Assembler.hunt : Assembler := { state := .hunt, sawStart := false, bytes := [], gap := none }

/-- LNK after power-on reset (R3, R5, R7, R10, R11). -/
def Link.reset : Link :=
  { asm := Assembler.hunt, errorCount := 0, discards := 0, ctrl := [], handler := .idle, replies := [], tx := none }

/-- SVC after power-on reset (R15, R18). The strap is latched at reset release (R31). -/
def Service.reset (strap : Strap) : Service :=
  { mode := .setup, grace := none, request := 0, enable := 0, debounce := Vector.replicate 5 none, strap := strap
    captureSet := 0, alertMask := 0, snapshot := none, again := 0 }

/-- CSU after power-on reset (R21, R33, R56). -/
def Cards.reset : Cards :=
  { slots := Vector.replicate 4 Slot.reset, turn := none, lastServed := 3, buffer := none, offered := none
    endings := [], nextUid := 0, previewAllowance := 8192 }

/-- A product row after power-on reset (R21, R68). -/
def ProductRow.reset : ProductRow :=
  { valid := false, p1 := 0, p2 := 0, p3 := 0, t2 := 0, t3 := 0, mask := 0, media := 0, finish := 0, tone := 0 }

/-- ORD after power-on reset (R91). -/
def OrderTable.reset : OrderTable :=
  { orders := Vector.replicate 32 none, items := Vector.replicate 64 none, admission := 0
    products := Vector.replicate 32 ProductRow.reset, priceKey := 0, release := [], waiting := [] }

/-- A pulse channel entry after power-on reset (R21, R107). -/
def ChannelEntry.reset : ChannelEntry :=
  { enabled := false, group := .coin, value := 0, minWidth := 20, maxWidth := 120, gap := 300 }

/-- A channel record after power-on reset (R108). -/
def Channel.reset : Channel := { jammed := false, pulse := none, train := none }

/-- PAY after a power-on reset that found `counted` and `pool` in the tally (R119). -/
def Payment.reset (counted pool : Nat) : Payment :=
  { table := Vector.replicate 6 ChannelEntry.reset, chans := Vector.replicate 6 Channel.reset, focus := none
    counted := counted, kept := counted - pool, pool := pool }

/-- The receiver in HUNT (R127). -/
def Receiver.hunt : Receiver := { state := .hunt, bytes := [], gap := none }

/-- CLC after power-on reset (R129, R138). -/
def CashlessLine.reset : CashlessLine := { queue := [], outstanding := none, late := [], rx := Receiver.hunt }

/-- A tone set after power-on reset (R145): 256 on the diagonal of the mix and three identity curves. -/
def toneReset : List Nat :=
  [256, 0, 0, 0, 256, 0, 0, 0, 256] ++ List.range 256 ++ List.range 256 ++ List.range 256

/-- RIN after power-on reset (R152). -/
def RasterIntake.reset : RasterIntake :=
  { tones := Vector.replicate 4 toneReset, queue := [], conv := none, intake := Vector.replicate 64 none }

/-- A region record after power-on reset (R153). -/
def Region.reset : Region := { valid := false, base := 0, size := 4, holder := none }

/-- SPL after power-on reset over the memory contents `mem` (R153, R160: the part does not initialise the memory). -/
def Spool.reset (mem : List Host.Cell) : Spool :=
  { regions := Vector.replicate 16 Region.reset, mem := mem, port := none, lastServed := .engine .B }

/-- Engine parameters after power-on reset (R181). -/
def EngineParams.reset : EngineParams := { tref := 25, kT := 0, kH := 0, budget := 1964160, hold := 55, stop := 70 }

/-- An HDU after power-on reset (R180, R190). -/
def Head.reset : Head := { energy := List.replicate 1024 0, prev := none, drive := none }

/-- An engine controller after power-on reset (R162, R179). -/
def Engine.reset (state : EngineState) (temperature : Int) : Engine :=
  { state := state, panel := none, line := none, offlinePending := false, fault := none, temperature := temperature
    mediaKind := 0, prints := 0, queue := [], motion := none, readWaiting := false
    params := EngineParams.reset, hdu := Head.reset }

/-- Sensor inputs that report nothing. DESIGN CHOICE (log entry 7). -/
def Sensors.clear : Sensors := { paperJam := false, ribbonBreak := false, doorOpen := false, media := 0 }

/-- Input lines that are all deasserted. DESIGN CHOICE (log entry 6). -/
def Pins.clear : Pins :=
  { detect := Vector.replicate 4 false, pulse := Vector.replicate 6 false, key := false
    sensorsA := Sensors.clear, sensorsB := Sensors.clear }

/-- The machine right after reset: the reset has been released with all lines deasserted, two engines strapped and both
heads at 25 °C (DESIGN CHOICE, log entries 6 and 7), a tally as supplied, and nothing written to the spool. -/
def State.reset : State :=
  { now := 0, inReset := false, pins := Pins.clear, lnk := Link.reset, svc := Service.reset .two, csu := Cards.reset
    ord := OrderTable.reset, pay := Payment.reset 0 0, clc := CashlessLine.reset, rin := RasterIntake.reset
    spl := Spool.reset [], engA := Engine.reset .offline 25, engB := Engine.reset .offline 25, pending := [] }

/-! ### Why a command can stop -/

/-- The one fault. -/
inductive Fault where
  /-- Raised by SPOOL_ACCESS_DONE when the granted access names an address outside the 256 MiB of the spool memory, which
  the spec says do not exist (R153, R155). Safe: the region checks keep every access of a run from reset inside
  (log entry 10). -/
  | spoolAddress
  deriving DecidableEq, Repr

/-- The refusals. -/
inductive Refusal where
  /-- Raised by exec's arm of a command that has no meaning yet; no arm raises it. Safe: the machine stops. -/
  | notModelled (mnemonic : String)
  deriving DecidableEq, Repr

end Sys2Proof.Machine
end

