-- ==== Sys2Proof/Machine/Operands.lean ====
section
/-! DEFINITION. The byte forms of Chapter 13: little-endian fields (00_scope.md 5.4), the CRC of R2, the sums of the card
bus and the cashless line (R37, R126), the encodings of named values (R191), and the byte strings the part sends. -/

namespace Sys2Proof.Machine

/-! ### Fields -/

/-- A one-byte field. -/
def byte (n : Nat) : Byte := BitVec.ofNat 8 n

/-- A two-byte field, low byte first. -/
def le2 (n : Nat) : List Byte := [byte n, byte (n / 256)]

/-- A four-byte field, low byte first. -/
def le4 (n : Nat) : List Byte := [byte n, byte (n / 256), byte (n / 65536), byte (n / 16777216)]

/-- The one-byte field at offset `o`. -/
def u8 (bs : List Byte) (o : Nat) : Nat := (bs.getD o 0).toNat

/-- The two-byte field at offset `o`. -/
def u16 (bs : List Byte) (o : Nat) : Nat := u8 bs o + 256 * u8 bs (o + 1)

/-- The four-byte field at offset `o`. -/
def u32 (bs : List Byte) (o : Nat) : Nat := u16 bs o + 65536 * u16 bs (o + 2)

/-- A 16-bit word read in two's complement (13.4). -/
def signed16 (w : Nat) : Int := if w < 32768 then w else (w : Int) - 65536

/-- A flag as a byte (R191). -/
def flagByte (b : Bool) : Byte := if b then 1 else 0

/-- An optional one-byte field, all ones when absent (R191). -/
def optByte : Option Nat → Byte
  | some n => byte n
  | none => 0xFF

/-- An optional four-byte amount, all ones when absent (R191). -/
def optAmount : Option Nat → List Byte
  | some n => le4 n
  | none => le4 0xFFFFFFFF

/-- An optional order number, 0 when absent (R191). -/
def optOrder : Option Nat → List Byte
  | some n => le2 n
  | none => le2 0

/-- An optional card identity, eight zero bytes when absent (R191). -/
def optIdentity : Option Identity → List Byte
  | some c => le4 c.serial ++ le4 c.capacity
  | none => le4 0 ++ le4 0

/-- A temperature in two's complement (R191). -/
def tempByte (t : Int) : Byte := BitVec.ofInt 8 t

/-! ### Checks -/

/-- One shift of the CRC register (R2). -/
def crcShift (c : Word16) : Word16 := if c.msb then (c <<< 1) ^^^ 0x1021 else c <<< 1

/-- One byte taken into the CRC register (R2). -/
def crcByte (c : Word16) (b : Byte) : Word16 :=
  crcShift (crcShift (crcShift (crcShift (crcShift (crcShift (crcShift (crcShift (c ^^^ (b.setWidth 16 <<< 8)))))))))

/-- The CRC of a string of bytes (R2), also the data check of a sector (R37). -/
def crc16 (bs : List Byte) : Word16 := bs.foldl crcByte 0xFFFF

/-- The sum of a string of bytes modulo 256 (R37, R126). -/
def sum8 (bs : List Byte) : Byte := bs.foldl (· + ·) 0

/-! ### Named values: the position in the table that first lists them (R191) -/

def Status.code : Status → Byte
  | .ok => 0x00 | .queueFull => 0x01 | .unknownRequest => 0x02 | .badArgument => 0x03 | .notLive => 0x04
  | .draining => 0x05 | .wrongState => 0x06 | .noRoom => 0x07 | .inUse => 0x08 | .overlap => 0x09
  | .misaligned => 0x0A | .noProduct => 0x0B | .amountLimit => 0x0C | .allowanceSpent => 0x0D | .cardForeign => 0x0E
  | .outOfRange => 0x0F | .checkMismatch => 0x10 | .busy => 0x11 | .wakePending => 0x12

def Mode.code : Mode → Byte
  | .setup => 0 | .live => 1 | .drain => 2 | .parkPending => 3 | .parked => 4 | .waking => 5

def SlotState.code : SlotState → Byte
  | .empty => 0 | .settling => 1 | .identifying => 2 | .ready => 3 | .bound => 4 | .absentBound => 5 | .foreign => 6
  | .fault => 7

def ReadOutcome.code : ReadOutcome → Byte
  | .ok => 0 | .readError => 1 | .cardGone => 2 | .cancelled => 3

def OrderState.code : OrderState → Byte
  | .opened => 0 | .committed => 1 | .settling => 2 | .closed => 3 | .halted => 4

def Funding.code : Funding → Byte
  | .prepay => 0 | .perItem => 1

def CashlessState.code : CashlessState → Byte
  | .none => 0 | .pending => 1 | .approved => 2 | .declined => 3 | .timedOut => 4 | .capturing => 5 | .captured => 6
  | .releasing => 7 | .released => 8 | .unconfirmed => 9

def ItemState.code : ItemState → Byte
  | .defined => 0 | .receiving => 1 | .spooled => 2 | .queued => 3 | .printing => 4 | .done => 5 | .failed => 6
  | .withdrawn => 7

def FailReason.code : FailReason → Nat
  | .engineFaultTwice => 0 | .pathReset => 1

def EngineState.code : EngineState → Byte
  | .absent => 0 | .offline => 1 | .idle => 2 | .loading => 3 | .panel => 4 | .heatHold => 5 | .ejecting => 6
  | .needsMedia => 7 | .fault => 8

def Panel.code : Panel → Nat
  | .Y => 0 | .M => 1 | .C => 2 | .F => 3

def FaultKind.code : FaultKind → Nat
  | .paperJam => 0 | .ribbonBreak => 1 | .headHot => 2 | .doorOpen => 3 | .mediaMismatch => 4

def engineCode : EngineId → Nat
  | .A => 0 | .B => 1

def Strap.code : Strap → Byte
  | .one => 1 | .two => 2

/-! ### Strings of bytes the part sends -/

/-- The payload of a REPLY: request code, status, result (R9, 13.1). -/
def Reply.payload (r : Reply) : List Byte := r.code :: r.status.code :: r.result

/-- The payload of a SECTOR frame: the header of 13.3, then the sector when there is one. -/
def SectorFrame.payload (f : SectorFrame) : List Byte :=
  byte f.slot.val
    :: (flagByte f.preview ||| (flagByte f.retried <<< 1) ||| (flagByte f.last <<< 2))
    :: f.outcome.code :: 0 :: (le4 f.sector ++ le2 f.owner ++ [0, 0] ++ f.data)

/-- The bytes the CRC of a frame covers: class, flags, tag, payload length, payload (R1, R2). -/
def coveredBytes (cls flags : Byte) (tag : Nat) (payload : List Byte) : List Byte :=
  cls :: flags :: (le2 tag ++ le2 payload.length ++ payload)

/-- All bytes of a frame in transmission (R1): start marker, covered bytes, CRC low byte first. -/
def TxFrame.bytes (f : TxFrame) : List Byte :=
  [0xC3, 0x3C] ++ coveredBytes f.cls f.flags f.tag f.payload ++ le2 f.crc.toNat

/-- The code of a card bus command (R37). -/
def CardCmd.code : CardCmd → Byte
  | .resetCard => 0x4C | .identify => 0x49 | .select => 0x53 | .readBlock => 0x52 | .stop => 0x50

/-- The six bytes of a card bus command (R37). -/
def cardCommandBytes (cmd : CardCmd) (arg : Nat) : List Byte :=
  let body := cmd.code :: le4 arg
  body ++ [sum8 body]

/-- The bytes of the message of a cashless operation (R126, 13.5). A LATE_RELEASE is sent as a RELEASE (R129). -/
def CashlessOp.message (op : CashlessOp) : List Byte :=
  let body := match op.kind with
    | .authorize | .capture => le2 op.ref ++ le4 op.amount
    | .release | .lateRelease => le2 op.ref
  let type : Byte := match op.kind with
    | .authorize => 0x01
    | .capture => 0x02
    | .release | .lateRelease => 0x03
  let summed := type :: byte body.length :: body
  0xA5 :: summed ++ [sum8 summed]

/-! ### Reading the arguments of requests (13.1) -/

/-- A slot argument of 0..3. -/
def slotArg (n : Nat) : Option (Fin 4) := if h : n < 4 then some ⟨n, h⟩ else none

/-- An engine argument: 0 A, 1 B (R191). -/
def engineArg (n : Nat) : Option EngineId :=
  match n with
  | 0 => some .A
  | 1 => some .B
  | _ => none

/-- A channel argument of 0..5. -/
def channelArg (n : Nat) : Option (Fin 6) := if h : n < 6 then some ⟨n, h⟩ else none

/-- An item ID of 0..63. -/
def itemArg (n : Nat) : Option (Fin 64) := if h : n < 64 then some ⟨n, h⟩ else none

/-- A region index of 0..15. -/
def regionArg (n : Nat) : Option (Fin 16) := if h : n < 16 then some ⟨n, h⟩ else none

/-- A funding mode: 0 PREPAY, 1 PER_ITEM (R191). -/
def fundingArg (n : Nat) : Option Funding :=
  match n with
  | 0 => some .prepay
  | 1 => some .perItem
  | _ => none

/-- A finish mode: 0 GLOSS, 1 MATTE, 2 PATTERN (13.4). -/
def finishArg (n : Nat) : Option Finish :=
  match n with
  | 0 => some .gloss
  | 1 => some .matte
  | 2 => some .pattern
  | _ => none

end Sys2Proof.Machine
end

