-- ==== Sys2Proof/Machine/Flags.lean ====
section
/-! DEFINITION. The sets of flags and the output levels: the capture set with its captured-again marks, the alert mask and
ALERT (R15 to R17), the wake flags (R26), the inhibit outputs (R117), card power, head power and self-refresh. The outputs
are functions of the state, so each follows its inputs at once (log entry 27). -/

namespace Sys2Proof.Machine

/-- Position of a capture kind in the table of 1.6 (R191: CARD_IN is bit 0 and WAKE bit 26). -/
def CaptureKind.index : CaptureKind → Nat
  | .cardIn => 0 | .cardOut => 1 | .cardForeign => 2 | .slotFault => 3
  | .credit => 4 | .poolCredit => 5 | .channelJam => 6 | .noisePulse => 7 | .uncountedPulse => 8
  | .authResult => 9 | .cashlessDone => 10 | .cashlessUnconfirmed => 11 | .lateApproval => 12 | .strayMessage => 13
  | .itemSpooled => 14 | .itemDone => 15 | .itemFailed => 16 | .orderFunded => 17 | .orderClosed => 18
  | .engineFault => 19 | .heatHold => 20 | .mediaLow => 21 | .mediaOut => 22 | .budgetClip => 23
  | .bandDiscard => 24 | .linkError => 25 | .wake => 26

/-- The capture set that holds one kind. -/
def CaptureKind.bit (k : CaptureKind) : CaptureSet := 1 <<< k.index

/-- Whether a kind is in a set. -/
def CaptureSet.has (c : CaptureSet) (k : CaptureKind) : Bool := c.getLsbD k.index

/-- A capture (R15): the kind joins the set, and a kind in an outstanding snapshot is marked as captured again (R17). -/
def Service.capture (v : Service) (k : CaptureKind) : Service :=
  { v with
    captureSet := v.captureSet ||| k.bit
    again := match v.snapshot with
      | some sn => if sn.has k then v.again ||| k.bit else v.again
      | none => v.again }

/-- A capture raised by a block. -/
def Part.capture (p : Part) (k : CaptureKind) : Part := { p with svc := p.svc.capture k }

/-- The ALERT output (R15): some kind is in both the capture set and the alert mask. -/
def Part.alert (p : Part) : Bool := p.svc.captureSet &&& p.svc.alertMask != 0

/-- The wake sources (R26). -/
inductive WakeSource where
  | slot (i : Fin 4)
  | pulse
  | key
  deriving DecidableEq, Repr

/-- Bit of a wake source (R191). -/
def WakeSource.index : WakeSource → Nat
  | .slot i => i.val
  | .pulse => 4
  | .key => 5

/-- The wake set that holds one source. -/
def WakeSource.bit (w : WakeSource) : WakeSet := 1 <<< w.index

/-- A wake condition holds for a source while both its flags are set (02_service_states.md 2.6). -/
def Service.wakeHolds (v : Service) (w : WakeSource) : Bool := v.request.getLsbD w.index && v.enable.getLsbD w.index

/-- A wake condition holds for some source. -/
def Service.anyWake (v : Service) : Bool := v.request &&& v.enable != 0

/-- The debounce timer of a slot or of the service key (R30). -/
def slotTimer (i : Fin 4) : Fin 5 := ⟨i.val, by omega⟩

/-- The service key's debounce timer. -/
def keyTimer : Fin 5 := 4

/-- Some debounce timer runs. -/
def Service.debouncing (v : Service) : Bool := v.debounce.toList.any Option.isSome

/-- PARKED and WAKING, in which the blocks are powered down (R25). -/
def Mode.dark : Mode → Bool
  | .parked | .waking => true
  | _ => false

/-- The live record that holds an order number. -/
def Part.orderIdx (p : Part) (number : Nat) : Option (Fin 32) :=
  (List.finRange 32).find? fun i =>
    match p.ord.orders[i] with
    | some o => o.number == number
    | none => false

/-- Due: total - cash_in - card_auth (R92). -/
def Order.due (o : Order) : Int := (o.total : Int) - o.cashIn - o.cardAuth

/-- Available: cash_in + card_auth - consumed (R92). -/
def Order.available (o : Order) : Int := (o.cashIn : Int) + o.cardAuth - o.consumed

/-- The focus order's record (R116). -/
def Part.focusIdx (p : Part) : Option (Fin 32) :=
  match p.pay.focus with
  | some n => p.orderIdx n
  | none => none

/-- The focus order exists and its due is above 0 (R117 condition 2). -/
def Part.focusOwes (p : Part) : Bool :=
  match p.focusIdx with
  | some i =>
    match p.ord.orders[i] with
    | some o => decide (0 < o.due)
    | none => false
  | none => false

/-- Some channel whose entry names the group is JAMMED, enabled or not (R117 condition 3). -/
def Part.groupJammed (p : Part) (g : Group) : Bool :=
  (List.finRange 6).any fun c => p.pay.table[c].group == g && p.pay.chans[c].jammed

/-- The inhibit output of a group: `true` is asserted (R117). -/
def Part.inhibit (p : Part) (g : Group) : Bool :=
  !(p.svc.mode == .live && p.focusOwes && !p.groupJammed g)

/-- Card power of a slot (R34, R49). -/
def Part.cardPower (p : Part) (i : Fin 4) : Bool :=
  !p.inReset && !p.svc.mode.dark &&
    (match p.csu.slots[i].state with
    | .identifying | .ready | .bound | .foreign => true
    | .empty | .settling | .absentBound | .fault => false)

/-- The record of an engine. -/
def Part.eng (p : Part) : EngineId → Engine
  | .A => p.engA
  | .B => p.engB

/-- Head power of an engine (R162, R171, R178, R179, R25). -/
def Part.headPower (p : Part) (e : EngineId) : Bool :=
  !p.inReset && !p.svc.mode.dark && (p.eng e).motion != some .abortEject &&
    (match (p.eng e).state with
    | .absent | .fault => false
    | _ => true)

/-- Self-refresh of the spool memory (R161): in PARKED and WAKING, while no access is granted or waits. -/
def Part.selfRefresh (p : Part) : Bool :=
  p.svc.mode.dark && p.spl.port.isNone &&
    (match p.rin.conv with
    | some b => b.writes.isEmpty
    | none => true)

end Sys2Proof.Machine
end

