-- ==== Sys2Proof/Machine/Ops.lean ====
section
/-! DEFINITION. Named operations over the records of the part, the spool memory, and the transmitting side of the order
link (R10, R11, R62), which every block's rules use. -/

namespace Sys2Proof.Machine

/-! ### Records -/

/-- Change one slot record. -/
def Part.modSlot (p : Part) (i : Fin 4) (f : Slot → Slot) : Part :=
  { p with csu := { p.csu with slots := p.csu.slots.set i (f p.csu.slots[i]) } }

/-- Change one slot's card bus. -/
def Part.modBus (p : Part) (i : Fin 4) (f : CardBus → CardBus) : Part :=
  p.modSlot i fun s => { s with bus := f s.bus }

/-- Change a live order record; a free record stays free. -/
def Part.modOrder (p : Part) (i : Fin 32) (f : Order → Order) : Part :=
  { p with ord := { p.ord with orders := p.ord.orders.set i (p.ord.orders[i].map f) } }

/-- Change an item entry in use; a free entry stays free. -/
def Part.modItem (p : Part) (i : Fin 64) (f : Item → Item) : Part :=
  { p with ord := { p.ord with items := p.ord.items.set i (p.ord.items[i].map f) } }

/-- Change one engine's record. -/
def Part.modEng (p : Part) (e : EngineId) (f : Engine → Engine) : Part :=
  match e with
  | .A => { p with engA := f p.engA }
  | .B => { p with engB := f p.engB }

/-- Change one channel record. -/
def Part.modChan (p : Part) (c : Fin 6) (f : Channel → Channel) : Part :=
  { p with pay := { p.pay with chans := p.pay.chans.set c (f p.pay.chans[c]) } }

/-- Change one region record. -/
def Part.modRegion (p : Part) (r : Fin 16) (f : Region → Region) : Part :=
  { p with spl := { p.spl with regions := p.spl.regions.set r (f p.spl.regions[r]) } }

/-- Set one item's intake record. -/
def Part.setIntake (p : Part) (i : Fin 64) (x : Option Intake) : Part :=
  { p with rin := { p.rin with intake := p.rin.intake.set i x } }

/-- The sensor inputs of an engine. -/
def Part.sensors (p : Part) : EngineId → Sensors
  | .A => p.pins.sensorsA
  | .B => p.pins.sensorsB

/-- The part's time base moves on to `ms`; it never goes back (log entry 5). -/
def Part.advance (p : Part) (ms : Nat) : Part := { p with now := max p.now ms }

/-- The mode changes, with the report to the other blocks that the caller applies. -/
def Part.setMode (p : Part) (m : Mode) : Part := { p with svc := { p.svc with mode := m } }

/-! ### The spool memory (R153, R154) -/

/-- The byte at an address. -/
def memRead : List Host.Cell → Nat → Byte
  | [], _ => Config.unwrittenByte
  | (a, b) :: rest, x =>
    if x = a then b else if x < a then Config.unwrittenByte else memRead rest x

/-- One byte written, keeping the canonical form. -/
def memWrite : List Host.Cell → Nat → Byte → List Host.Cell
  | [], x, v => if v = Config.unwrittenByte then [] else [(x, v)]
  | (a, b) :: rest, x, v =>
    if x < a then if v = Config.unwrittenByte then (a, b) :: rest else (x, v) :: (a, b) :: rest
    else if x = a then if v = Config.unwrittenByte then rest else (x, v) :: rest
    else (a, b) :: memWrite rest x v

/-- A run of bytes written from `addr` on. -/
def memWriteRun (mem : List Host.Cell) (addr : Nat) : List Byte → List Host.Cell
  | [] => mem
  | b :: bs => memWriteRun (memWrite mem addr b) (addr + 1) bs

/-- The run of `len` bytes from `addr` on. -/
def memReadRun (mem : List Host.Cell) (addr len : Nat) : List Byte :=
  (List.range len).map fun k => memRead mem (addr + k)

/-- The canonical form from address `lo` on: addresses rise, stay inside the spool, and no entry holds what an unlisted
byte reads as. -/
def memWfFrom (lo : Nat) : List Host.Cell → Bool
  | [] => true
  | (a, b) :: rest =>
    decide (lo ≤ a) && decide (a < Config.spoolBytes) && (b != Config.unwrittenByte) && memWfFrom (a + 1) rest

/-- The canonical form of the spool memory. -/
def Memory.wf (mem : List Host.Cell) : Bool := memWfFrom 0 mem

/-! ### The transmitting side of the link -/

/-- A discard (R4, R5, R10): LINK_ERROR is captured and the link error count rises, staying at 65,535; a discard while a
STATUS_READ snapshot is outstanding is counted for R5's clear. -/
def Part.linkDiscard (p : Part) : Part :=
  let p := p.capture .linkError
  { p with lnk := { p.lnk with
      errorCount := min (p.lnk.errorCount + 1) Config.errorCountTop
      discards := if p.svc.snapshot.isSome then min (p.lnk.discards + 1) Config.errorCountTop else p.lnk.discards } }

/-- The transmitter begins a frame (R11): it fills in ALERT_ACTIVE as ALERT stands and the CRC. A frame that an event makes
ready begins after the captures of that event: a DESIGN CHOICE (log entry 45). -/
def Part.startFrame (p : Part) (cls : Byte) (tag : Nat) (payload : List Byte) : Part :=
  let flags : Byte := flagByte p.alert
  { p with lnk := { p.lnk with
      tx := some { cls := cls, flags := flags, tag := tag, payload := payload
                   crc := crc16 (coveredBytes cls flags tag payload) } } }

/-- An idle transmitter chooses the next frame (R11): the head of the reply queue, otherwise the offered SECTOR frame. -/
def Part.kick (p : Part) : Part :=
  match p.lnk.tx with
  | some _ => p
  | none =>
    match p.lnk.replies with
    | r :: rs => { p with lnk := { p.lnk with replies := rs } }.startFrame 0x81 r.tag r.payload
    | [] =>
      match p.csu.offered with
      | some f => { p with csu := { p.csu with offered := none } }.startFrame 0x82 f.tag f.payload
      | none => p

/-- The offered position is refilled when it is empty (R62): from the ending list, otherwise from the transfer buffer. -/
def Part.refill (p : Part) : Part :=
  match p.csu.offered with
  | some _ => p
  | none =>
    match p.csu.endings with
    | f :: fs => { p with csu := { p.csu with offered := some f, endings := fs } }
    | [] => { p with csu := { p.csu with offered := p.csu.buffer, buffer := none } }

/-- Refill, let the transmitter take, and refill again: the places between the transfer path and the line are as full as
R11 and R62 let them be. -/
def Part.feed (p : Part) : Part := p.refill.kick.refill

/-- A REPLY handed to the tail of the reply queue (R10). -/
def Part.pushReply (p : Part) (r : Reply) : Part :=
  { p with lnk := { p.lnk with replies := p.lnk.replies ++ [r] } }.kick

end Sys2Proof.Machine
end

