-- ==== Sys2Proof/Machine/Head.lean ====
section
/-! DEFINITION. The strobe code arithmetic of the Head Drive Unit (R183 to R187): temperature factor, heat history, strobe
groups and the clip to the budget. -/

namespace Sys2Proof.Machine

/-- Start of a panel's 256 entries in the energy tables (R180). -/
def Panel.tableBase (p : Panel) : Nat := 256 * p.code

/-- The temperature factor F (R184): 1024 - kT * (T - Tref), clamped to 512..1536. -/
def tempFactor (q : EngineParams) (t : Int) : Nat :=
  (max 512 (min 1536 (1024 - (q.kT : Int) * (t - q.tref)))).toNat

/-- The temperature-corrected energy E1 of a tone byte (R184). -/
def correctedEnergy (energy : List Nat) (q : EngineParams) (panel : Panel) (t : Int) (tone : Byte) : Nat :=
  energy.getD (panel.tableBase + tone.toNat) 0 * tempFactor q t / 1024

/-- The heat history H at dot `i` from the previous-line record (R185), the edge dots standing in for the missing
neighbour. -/
def heatHistory (prev : List Nat) (w i : Nat) : Nat :=
  let left := if i = 0 then prev.getD 0 0 else prev.getD (i - 1) 0
  let right := if i + 1 = w then prev.getD i 0 else prev.getD (i + 1) 0
  (left + 2 * prev.getD i 0 + right) / 4

/-- The code S1 of dot `i` (R185). -/
def dotCode (energy : List Nat) (q : EngineParams) (panel : Panel) (t : Int) (prev tones : List Nat) (w i : Nat) : Nat :=
  let e1 := correctedEnergy energy q panel t (byte (tones.getD i 0))
  min Config.codeTop (e1 - q.kH * heatHistory prev w i / 256)

/-- The codes S1 of a line (R184, R185). -/
def lineCodes (energy : List Nat) (q : EngineParams) (panel : Panel) (t : Int) (prev : List Nat) (row : List Byte) :
    List Nat :=
  let tones := row.map BitVec.toNat
  (List.range row.length).map fun i => dotCode energy q panel t prev tones row.length i

/-- The sum of the codes of group `k` of `g` (R186). -/
def groupSum (codes : List Nat) (g k : Nat) : Nat :=
  (codes.zipIdx.map fun x => if x.2 % g = k then x.1 else 0).sum

/-- Every group of `g` meets the budget (R186). -/
def groupsFit (codes : List Nat) (budget g : Nat) : Bool :=
  (List.range g).all fun k => decide (groupSum codes g k ≤ budget)

/-- The group count of a line (R186). -/
def groupCount (codes : List Nat) (budget : Nat) : Nat :=
  if groupsFit codes budget 1 then 1 else if groupsFit codes budget 2 then 2 else 4

/-- The line is clipped: no count of 1, 2 and 4 meets the budget (R187). -/
def lineClipped (codes : List Nat) (budget : Nat) : Bool :=
  !groupsFit codes budget 1 && !groupsFit codes budget 2 && !groupsFit codes budget 4

/-- The final codes S of a line (R186, R187). -/
def finalCodes (codes : List Nat) (budget : Nat) : List Nat :=
  if lineClipped codes budget then
    codes.zipIdx.map fun x =>
      let sum := groupSum codes 4 (x.2 % 4)
      if budget < sum then x.1 * budget / sum else x.1
  else codes

/-- The head data of the pass that is being fired (R188): the passes go in ascending group order from group 0, so it is the
pass of group `fired`; a dot of that group carries its final code and every other dot 0. -/
def Drive.headData (d : Drive) : List Nat := d.codes.zipIdx.map fun x => if x.2 % d.groups = d.fired then x.1 else 0

/-- The head data of an engine (R188): that of the line in drive; with no line in drive nothing is strobed. An output,
computed and not stored (log entry 27). -/
def Part.headData (p : Part) (e : EngineId) : Option (List Nat) := (p.eng e).hdu.drive.map Drive.headData

end Sys2Proof.Machine
end

