-- ==== Sys2Proof/Machine/CardOps.lean ====
section
/-! DEFINITION. Shared operations of the Card Slot Unit: the card bus (R37, R38), the identify (R39 to R41), the turns of
the transfer path (R57, R60), the ending of read requests (R63, R65), binding (R44, R46), removal (R42), and what a slot
does on entry to PARKED and at the return to LIVE (R49, R50). -/

namespace Sys2Proof.Machine

/-- An idle card bus. -/
def CardBus.quiet : CardBus := { phase := .idle, busyRun := none, orphan := false }

/-- A command is sent on a slot's bus and its 100 ms response time starts (R38). -/
def Part.sendCard (p : Part) (i : Fin 4) (cmd : CardCmd) (arg : Nat) : Part :=
  p.modBus i fun b => { b with phase := .awaiting cmd arg }

/-- A BUSY answer (R38, R39, R58): the same command goes again in 20 ms. A run of BUSY answers to READ_BLOCK or STOP is
limited to 1 s; an identify has its own limit. -/
def Part.cardBusy (p : Part) (i : Fin 4) (cmd : CardCmd) (arg : Nat) : Part :=
  p.modBus i fun b =>
    { b with
      phase := .retryWait cmd arg
      busyRun := match cmd with
        | .readBlock | .stop => some Config.busyLimit
        | .resetCard | .identify | .select => none }

/-! ### Requests and turns -/

/-- The slot's occupancy (R53): its read requests and its entries in the ending list. -/
def Part.occupancy (p : Part) (i : Fin 4) : Nat :=
  p.csu.slots[i].queue.length + (p.csu.endings.filter fun f => f.slot == i).length

/-- The slot whose turn it is holds the request in service (R53, R57). -/
def Part.hasTurn (p : Part) (i : Fin 4) : Bool :=
  match p.csu.turn with
  | some t => t.slot == i
  | none => false

/-- A sector attempt of the request in service is under way on the slot's bus (R64). -/
def Part.attempting (p : Part) (i : Fin 4) : Bool :=
  p.hasTurn i && (p.csu.slots[i].bus.phase != .idle) && !p.csu.slots[i].bus.orphan

/-- A turn begins when none runs and some read queue is not empty (R57): the first slot with requests after the slot
served last, counted modulo 4, the slot served last itself coming last. -/
def Part.beginTurn (p : Part) : Part :=
  match p.csu.turn with
  | some _ => p
  | none =>
    match [p.csu.lastServed + 1, p.csu.lastServed + 2, p.csu.lastServed + 3, p.csu.lastServed].find?
        (fun i => !p.csu.slots[i].queue.isEmpty) with
    | some i => { p with csu := { p.csu with turn := some { slot := i, count := 0 } } }
    | none => p

/-- The turn of a slot ends (R60). -/
def Part.endTurn (p : Part) (i : Fin 4) : Part :=
  if p.hasTurn i then { p with csu := { p.csu with turn := none, lastServed := i } } else p

/-- The frame that ends a request with LAST and its outcome. -/
def SectorFrame.ending (f : SectorFrame) (o : ReadOutcome) : SectorFrame := { f with last := true, outcome := o }

/-- The empty frame of a request that ends with no frame held (R61, R63). -/
def ReadReq.emptyFrame (r : ReadReq) (i : Fin 4) (o : ReadOutcome) : SectorFrame :=
  { uid := r.uid, tag := r.tag, slot := i, preview := r.preview, retried := false, last := true, outcome := o
    sector := r.next, owner := r.owner, data := [] }

/-- Whether a holding place holds a frame of the request. -/
def heldFor (r : ReadReq) : Option SectorFrame → Bool
  | some f => f.uid == r.uid
  | none => false

/-- LAST and the outcome are placed (R63): on the request's most recently produced frame while it is held in the transfer
buffer or the offered position, otherwise on an empty frame at the tail of the ending list. -/
def Part.placeLast (p : Part) (i : Fin 4) (r : ReadReq) (o : ReadOutcome) : Part :=
  if heldFor r p.csu.buffer then
    { p with csu := { p.csu with buffer := p.csu.buffer.map (·.ending o) } }
  else if heldFor r p.csu.offered then
    { p with csu := { p.csu with offered := p.csu.offered.map (·.ending o) } }
  else
    { p with csu := { p.csu with endings := p.csu.endings ++ [r.emptyFrame i o] } }

/-- A read request ends (R63): it leaves its queue, LAST is placed, and a cancelled preview gives its unread count back. -/
def Part.endRead (p : Part) (i : Fin 4) (o : ReadOutcome) (r : ReadReq) : Part :=
  let p := p.modSlot i fun s =>
    { s with
      queue := s.queue.filter fun q => q.uid != r.uid
      allowance := if r.preview && o == .cancelled then s.allowance + (r.count - r.produced) else s.allowance }
  p.placeLast i r o

/-- All requests of a slot end, the one in service first and then oldest first (R65), and the slot's turn ends (R60). -/
def Part.endAllReads (p : Part) (i : Fin 4) (o : ReadOutcome) : Part :=
  let p := p.csu.slots[i].queue.foldl (fun p r => p.endRead i o r) p
  ((p.endTurn i).beginTurn).feed

/-! ### Slot faults and the identify -/

/-- A bad answer to STOP (R38, R65): the slot goes to FAULT with its power off, SLOT_FAULT is captured, and its requests
end READ_ERROR. The binding is kept. That a request whose cancel is pending ends READ_ERROR too, where R64 ends one whose second
attempt fails CANCELLED, and that a preview then gets no unread count back, is a DESIGN CHOICE (log entry 47). -/
def Part.slotFault (p : Part) (i : Fin 4) : Part :=
  let p := p.modSlot i fun s =>
    { s with state := .fault, identity := none, bus := CardBus.quiet }
  (p.capture .slotFault).endAllReads i .readError

/-- A failed sector attempt (R59): STOP is sent before any further command. -/
def Part.attemptFail (p : Part) (i : Fin 4) : Part :=
  p.modBus i fun b => { b with phase := .awaiting .stop 0, busyRun := none }

/-- The slot enters IDENTIFYING: power is applied, the 1 s limit starts and RESET_CARD is sent (R39). -/
def Part.identifyStart (p : Part) (i : Fin 4) : Part :=
  p.modSlot i fun s =>
    { s with
      state := .identifying, settling := none, holdComplete := false
      identify := some { limit := some Config.identifyLimit, read := none }
      bus := { CardBus.quiet with phase := .awaiting .resetCard 0 } }

/-- The identify fails (R40). -/
def Part.identifyFail (p : Part) (i : Fin 4) : Part :=
  (p.modSlot i fun s =>
    { s with state := .fault, identity := none, resume := none, identify := none, bus := CardBus.quiet }).capture .slotFault

/-- The locked identity of the order a slot is bound to (R41, R44). -/
def Part.lockedOf (p : Part) (bound : Option Nat) : Option Identity :=
  match bound with
  | none => none
  | some n =>
    match p.orderIdx n with
    | none => none
    | some k =>
      match p.ord.orders[k] with
      | some o => o.locked
      | none => none

/-- The state a resume state stands for. -/
def ResumeState.state : ResumeState → SlotState
  | .ready => .ready
  | .bound => .bound
  | .foreign => .foreign

/-- A successful identify (R41), `c` being the identity read. -/
def Part.identifySuccess (p : Part) (i : Fin 4) (c : Identity) : Part :=
  let s := p.csu.slots[i]
  let same := s.identity == some c
  let keep (st : SlotState) (allowance : Nat) : Part :=
    p.modSlot i fun s =>
      { s with state := st, allowance := allowance, resume := none, identify := none, bus := CardBus.quiet }
  let fresh (st : SlotState) (allowance : Nat) : Part :=
    (p.modSlot i fun s =>
      { s with state := st, identity := some c, allowance := allowance, resume := none, identify := none
               bus := CardBus.quiet }).capture .cardIn
  match s.resume with
  | some .ready => if same then keep .ready s.allowance else other s fresh
  | some r =>
    if same then
      if s.bound.isSome then keep r.state s.allowance else keep .ready p.csu.previewAllowance
    else other s fresh
  | none => other s fresh
where
  /-- The three rows of R41 that begin "any other success". -/
  other (s : Slot) (fresh : SlotState → Nat → Part) : Part :=
    if s.bound.isNone then fresh .ready p.csu.previewAllowance
    else if p.lockedOf s.bound == some c then fresh .bound 0
    else (fresh .foreign 0).capture .cardForeign

/-! ### Binding -/

/-- A slot is bound to a new order (R44, R55): the slot becomes BOUND and its queued requests take the order's number. That a
cancel-pending request of a dropped binding takes it too is a DESIGN CHOICE (log entry 34). -/
def Part.bindSlot (p : Part) (i : Fin 4) (number : Nat) : Part :=
  p.modSlot i fun s =>
    { s with
      state := .bound, bound := some number
      queue := s.queue.map fun r => { r with owner := number, preview := false } }

/-- The reads of a slot whose binding is dropped end CANCELLED (R46, R66): the request in service after its current
attempt, every other request at once, oldest first. -/
def Part.cancelReads (p : Part) (i : Fin 4) : Part :=
  match p.attempting i, p.csu.slots[i].queue with
  | true, r :: rest =>
    let p := p.modSlot i fun s => { s with queue := { r with cancelPending := true } :: s.queue.drop 1 }
    (rest.foldl (fun p r => p.endRead i .cancelled r) p).feed
  | _, _ => p.endAllReads i .cancelled

/-- The binding of a slot is dropped (R46), on the slot's side. -/
def Part.releaseSlot (p : Part) (i : Fin 4) : Part :=
  let was := p.csu.slots[i].state
  let p := p.modSlot i fun s =>
    { s with
      bound := none
      state := match s.state with
        | .bound | .foreign => .ready
        | .absentBound => .empty
        | st => st
      allowance := match s.state with
        | .bound | .foreign => p.csu.previewAllowance
        | _ => s.allowance }
  if was == .bound then p.cancelReads i else p

/-- The binding of an order is dropped (R46): the order loses its slot and locked identity, the slot its bound order. -/
def Part.dropBinding (p : Part) (k : Fin 32) : Part :=
  match p.ord.orders[k] with
  | some o =>
    match o.slot with
    | some i => (p.modOrder k fun o => { o with slot := none, locked := none }).releaseSlot i
    | none => p
  | none => p

/-! ### Removal, parking and waking -/

/-- Where a removal takes a slot (R43). -/
def Slot.removedState (s : Slot) : SlotState :=
  match s.state with
  | .bound | .foreign => .absentBound
  | .ready => .empty
  | .settling | .identifying | .fault => if s.bound.isSome then .absentBound else .empty
  | st => st

/-- The removal of a card (R42, R43, R65), on the slot's side. -/
def Part.removeCard (p : Part) (i : Fin 4) : Part :=
  let p := p.modSlot i fun s =>
    { s with
      state := s.removedState, settling := none, identify := none, bus := CardBus.quiet
      identity := none, resume := none, holdComplete := false, allowance := 0 }
  (p.capture .cardOut).endAllReads i .cardGone

/-- A slot on entry to PARKED (R49). -/
def Slot.park (s : Slot) : Slot :=
  let s := { s with bus := CardBus.quiet }
  match s.state, s.resume with
  | .identifying, some r => { s with state := r.state, resume := none, identify := none }
  | .identifying, none => { s with state := .settling, holdComplete := true, identify := none }
  | _, _ => s

/-- Every slot on entry to PARKED (R49). -/
def Part.parkSlots (p : Part) : Part :=
  { p with csu := { p.csu with slots := p.csu.slots.map Slot.park } }

/-- A slot at the return to LIVE from PARKED or WAKING (R50). -/
def Part.wakeSlot (p : Part) (i : Fin 4) : Part :=
  match p.csu.slots[i].state with
  | .settling => if p.csu.slots[i].holdComplete then p.identifyStart i else p
  | .ready => (p.modSlot i fun s => { s with resume := some .ready }).identifyStart i
  | .bound => (p.modSlot i fun s => { s with resume := some .bound }).identifyStart i
  | .foreign => (p.modSlot i fun s => { s with resume := some .foreign }).identifyStart i
  | .empty | .identifying | .absentBound | .fault => p

/-- Every slot at the return to LIVE (R50). -/
def Part.wakeSlots (p : Part) : Part := (List.finRange 4).foldl (fun p i => p.wakeSlot i) p

end Sys2Proof.Machine
end

