-- ==== Sys2Proof/Machine/OrderOps.lean ====
section
/-! DEFINITION. Shared operations of the Order Table and the Cashless Line Controller: the cashless operation queue
(R129), settlement and closing (R99 to R102), reversal (R97), ORDER_FUNDED (R98), and what the withdrawal of an item does
(R78, R104, R144). -/

namespace Sys2Proof.Machine

/-! ### The cashless operation queue -/

/-- The timeout of an operation (R129). -/
def CashlessOp.limit (op : CashlessOp) : Nat :=
  match op.kind with
  | .authorize => Config.authorizeTime
  | .capture | .release | .lateRelease => Config.settlementTime

/-- The cashless state an order takes when its settlement operation is handed over (R101). -/
def Part.markHanded (p : Part) (op : CashlessOp) : Part :=
  match p.orderIdx op.ref with
  | some k =>
    p.modOrder k fun o =>
      { o with cashless := { o.cashless with state := if op.kind == .capture then .capturing else .releasing } }
  | none => p

/-- With the outstanding position empty, the queue head becomes outstanding and its message is sent; the entry it frees
goes to ORD's oldest waiting operation, else to the oldest entry of the late-release list (R129). -/
def Part.pump (p : Part) : Part :=
  match p.clc.outstanding, p.clc.queue with
  | none, op :: rest =>
    let out : Option Outstanding := some { op := op, timer := none }
    match p.ord.waiting, p.clc.late with
    | w :: ws, _ =>
      { p with
        clc := { p.clc with outstanding := out, queue := rest ++ [w] }
        ord := { p.ord with waiting := ws } }.markHanded w
    | [], r :: rs =>
      { p with
        clc := { p.clc with
          outstanding := out, queue := rest ++ [{ kind := .lateRelease, ref := r, amount := 0 }], late := rs } }
    | [], [] => { p with clc := { p.clc with outstanding := out, queue := rest } }
  | _, _ => p

/-- An operation joins the tail of the queue (R129). -/
def Part.joinOp (p : Part) (op : CashlessOp) : Part :=
  { p with clc := { p.clc with queue := p.clc.queue ++ [op] } }.pump

/-- The outstanding operation ends and the next one is sent (R129). That this holds also of an answer taken while the
operation's own message is still leaving, of which nothing is kept, is a DESIGN CHOICE (R126, log entry 42). -/
def Part.endOp (p : Part) : Part := { p with clc := { p.clc with outstanding := none } }.pump

/-- ORD hands a settlement operation to the queue, or holds it while the queue is full (R101). -/
def Part.handOp (p : Part) (op : CashlessOp) : Part :=
  if p.clc.queue.length < Config.cashlessRoom then (p.markHanded op).joinOp op
  else { p with ord := { p.ord with waiting := p.ord.waiting ++ [op] } }

/-! ### Settlement -/

/-- cash_used of R100. -/
def Order.cashUsed (o : Order) : Nat := min o.cashIn o.consumed

/-- card_need of R100. -/
def Order.cardNeed (o : Order) : Nat := o.consumed - o.cashUsed

/-- change of R100. -/
def Order.changeDue (o : Order) : Nat := o.cashIn - o.cashUsed

/-- DONE, FAILED and WITHDRAWN (R74). -/
def ItemState.terminal : ItemState → Bool
  | .done | .failed | .withdrawn => true
  | .defined | .receiving | .spooled | .queued | .printing => false

/-- The focus leaves an order that enters SETTLING, HALTED or CLOSED (R72, R116). -/
def Part.loseFocus (p : Part) (number : Nat) : Part :=
  if p.pay.focus == some number then { p with pay := { p.pay with focus := none } } else p

/-- A SETTLING order closes (R102, R120); an order in another state stays as it is. The five steps of R102 are one moment, so
the capture stands when a frame begins that the dropped binding makes ready: a DESIGN CHOICE (log entry 45). -/
def Part.closeOrder (p : Part) (k : Fin 32) (captured : Option Nat) : Part :=
  match p.ord.orders[k] with
  | some o =>
    if o.state == .settling then
      let p := { p with pay := { p.pay with kept := p.pay.kept + o.cashUsed, pool := p.pay.pool + o.changeDue } }
      let p := p.modOrder k fun o => { o with state := .closed, captured := captured }
      ((p.loseFocus o.number).capture .orderClosed).dropBinding k
    else p
  | none => p

/-- Entry to SETTLING: the settlement is computed and the card operation handed over, or the order closes at once
(R99 to R102). -/
def Part.enterSettling (p : Part) (k : Fin 32) : Part :=
  match p.ord.orders[k] with
  | some o =>
    let p := (p.modOrder k fun o => { o with state := .settling, change := some o.changeDue }).loseFocus o.number
    if o.cardAuth = 0 then p.closeOrder k (some 0)
    else if o.cardNeed = 0 then p.handOp { kind := .release, ref := o.number, amount := 0 }
    else p.handOp { kind := .capture, ref := o.number, amount := o.cardNeed }
  | none => p

/-- The three conditions of R99. -/
def Part.maySettle (p : Part) (o : Order) : Bool :=
  (o.state == .committed || (o.cancel && (o.state == .opened || o.state == .halted)))
  && (o.items.all fun id => match p.ord.items[id] with
      | some it => it.state.terminal
      | none => true)
  && o.cashless.state != .pending

/-- ORD checks an order for entry to SETTLING (R99). -/
def Part.checkSettling (p : Part) (k : Fin 32) : Part :=
  match p.ord.orders[k] with
  | some o => if p.maySettle o then p.enterSettling k else p
  | none => p

/-! ### Funds -/

/-- The condition of ORDER_FUNDED (R98). -/
def Order.isFunded (o : Order) : Bool :=
  o.state == .committed && !o.cancel && decide (o.total ≤ o.cashIn + o.cardAuth)

/-- The condition of ORDER_FUNDED for the record at an index. -/
def Part.orderFunded (p : Part) (k : Fin 32) : Bool :=
  match p.ord.orders[k] with
  | some o => o.isFunded
  | none => false

/-- ORDER_FUNDED is captured when the condition holds and did not hold before (R98). -/
def Part.fundedCheck (p : Part) (k : Fin 32) (before : Bool) : Part :=
  if p.orderFunded k && !before then p.capture .orderFunded else p

/-- The part of the price that undelivered copies account for (R97). -/
def Item.undelivered (it : Item) : Nat := it.price - it.price * it.copiesDone / it.copies

/-- What a reversal of the item would give back now: nothing when it is not debited (R97). -/
def Item.reversal (it : Item) : Nat := if it.debited then it.undelivered else 0

/-- A reversal (R97), made only when the debited flag is set. -/
def Part.reverse (p : Part) (id : Fin 64) : Part :=
  match p.ord.items[id] with
  | some it =>
    if it.debited then
      (p.modOrder it.order fun o => { o with consumed := o.consumed - it.undelivered }).modItem id
        fun it => { it with debited := false }
    else p
  | none => p

/-! ### Withdrawal -/

/-- The holder of an item's region is cleared (R74, R158). -/
def Part.clearHolder (p : Part) (id : Fin 64) : Part :=
  match p.ord.items[id] with
  | some it => p.modRegion it.region fun r => if r.holder == some id then { r with holder := none } else r
  | none => p

/-- The port's granted access is no longer wanted by its requester (R159). -/
def Part.disownAccess (p : Part) (w : Requester) : Part :=
  { p with spl := { p.spl with
      port := p.spl.port.map fun a => if a.who == w then { a with live := false } else a } }

/-- The band in conversion is abandoned (R144, R152). -/
def Part.abandonBand (p : Part) : Part :=
  { p with rin := { p.rin with conv := none } }.disownAccess .intake

/-- Whether a band names an item: its item ID byte (13.3). -/
def bandNames (id : Fin 64) (payload : List Byte) : Bool :=
  match payload with
  | b :: _ => b.toNat == id.val
  | [] => false

/-- Every queued band that names the item is removed; BAND_DISCARD is captured once if there was one (R143, R144). -/
def Part.dropBands (p : Part) (id : Fin 64) : Part :=
  if p.rin.queue.any (bandNames id) then
    { p with rin := { p.rin with queue := p.rin.queue.filter fun b => !bandNames id b } }.capture .bandDiscard
  else p

/-- An item with its receiving flag set leaves DEFINED or RECEIVING by a withdrawal (R144). -/
def Part.stopReceiving (p : Part) (id : Fin 64) : Part :=
  match p.rin.intake[id] with
  | some x =>
    if x.receiving then
      let p := p.setIntake id (some { x with receiving := false })
      let p := match p.rin.conv with
        | some b => if b.item = id then p.abandonBand else p
        | none => p
      p.dropBands id
    else p
  | none => p

/-- The item leaves the release list and the engine queues. -/
def Part.leaveQueues (p : Part) (id : Fin 64) : Part :=
  let p := { p with ord := { p.ord with release := p.ord.release.filter fun e => e.item != id } }
  let p := p.modEng .A fun en => { en with queue := en.queue.filter (· != id) }
  p.modEng .B fun en => { en with queue := en.queue.filter (· != id) }

/-- The withdrawal of an item (R78, R80, R81, R104): any debit is reversed, the item leaves the release list and the engine
queues and becomes WITHDRAWN, the order's total falls by its price, its region loses its holder, and RIN stops receiving
it. -/
def Part.withdrawItem (p : Part) (id : Fin 64) (reason : Option FailReason) : Part :=
  match p.ord.items[id] with
  | some it =>
    let p := (p.reverse id).leaveQueues id
    let p := p.modItem id fun it => { it with state := .withdrawn, reason := reason, engine := none }
    let p := p.modOrder it.order fun o => { o with total := o.total - it.price }
    (p.clearHolder id).stopReceiving id
  | none => p

/-- Whether the order of an item has its cancel flag set (R81). -/
def Part.itemCancelled (p : Part) (id : Fin 64) : Bool :=
  match p.ord.items[id] with
  | some it => (p.ord.orders[it.order].map (·.cancel)).getD false
  | none => false

/-- The order of an item is checked for entry to SETTLING (R74). -/
def Part.checkItemOrder (p : Part) (id : Fin 64) : Part :=
  match p.ord.items[id] with
  | some it => p.checkSettling it.order
  | none => p

end Sys2Proof.Machine
end

