-- ==== Sys2Proof/Machine/EngineOps.lean ====
section
/-! DEFINITION. Shared operations of the Engine Controllers and of the release list: faults, failed copies and returned
items (R171 to R173), the beginning of a copy (R166, R167), panel and line starts (R168, R169), the choice of an engine
and the release walk (R86 to R88, R94 to R96). -/

namespace Sys2Proof.Machine

/-- LOADING, PANEL, HEAT_HOLD and EJECTING (R162). -/
def EngineState.printing : EngineState → Bool
  | .loading | .panel | .heatHold | .ejecting => true
  | .absent | .offline | .idle | .needsMedia | .fault => false

/-- Whether an item is QUEUED. -/
def Part.isQueued (p : Part) (id : Fin 64) : Bool :=
  (p.ord.items[id].map fun it => it.state == .queued).getD false

/-! ### Faults -/

/-- An engine enters FAULT (R171): the mechanism stops, any line in drive is abandoned (R189), the kind is recorded and
ENGINE_FAULT captured. -/
def Part.enterFault (p : Part) (e : EngineId) (k : FaultKind) : Part :=
  let p := p.modEng e fun en =>
    { en with
      state := .fault, fault := some k, panel := none, line := none, motion := none, readWaiting := false
      hdu := { en.hdu with drive := none } }
  (p.disownAccess (.engine e)).capture .engineFault

/-- An item handed back to ORD becomes SPOOLED with its debit and copies_done kept (R89, R172, R173). -/
def Part.respool (p : Part) (id : Fin 64) : Part :=
  p.modItem id fun it => { it with state := .spooled, engine := none }

/-- An item of a cancelled order is withdrawn on its return, and its order checked (R81). -/
def Part.withdrawReturned (p : Part) (id : Fin 64) : Part :=
  (p.withdrawItem id none).checkItemOrder id

/-- Items an engine hands back, in order (R85, R172, R173): they leave its queue; those of cancelled orders are withdrawn,
the others stand marked at the front of the release list. -/
def Part.returnItems (p : Part) (e : EngineId) (ids : List (Fin 64)) : Part :=
  let keep := ids.filter fun id => !p.itemCancelled id
  let gone := ids.filter fun id => p.itemCancelled id
  let p := p.modEng e fun en => { en with queue := en.queue.filter fun id => !ids.contains id }
  let p := keep.foldl Part.respool p
  let p := { p with ord := { p.ord with
      release := keep.map (fun id => { item := id, marked := true }) ++ p.ord.release } }
  gone.foldl Part.withdrawReturned p

/-- A second failed copy (R172): the item is FAILED, its debit reversed, its region's holder cleared, ITEM_FAILED captured,
and it leaves the queue; its order is checked (R74). -/
def Part.failItem (p : Part) (id : Fin 64) : Part :=
  let p := (p.reverse id).leaveQueues id
  let p := p.modItem id fun it =>
    { it with state := .failed, reason := some .engineFaultTwice, engine := none }
  ((p.clearHolder id).capture .itemFailed).checkItemOrder id

/-- A fault of an engine and what becomes of its queue (R171 to R173), without the walk. `copyFails` says that a copy was
in progress and fails by it. The second component says whether an item left the queue, which causes a walk. -/
def Part.faultCore (p : Part) (e : EngineId) (k : FaultKind) (copyFails : Bool) : Part × Bool :=
  let queue := (p.eng e).queue
  let p := p.enterFault e k
  match copyFails, queue with
  | true, head :: rest =>
    let waiting := rest.filter p.isQueued
    if (p.ord.items[head].map (·.reprintUsed)).getD false then
      ((p.failItem head).returnItems e waiting, true)
    else
      ((p.modItem head fun it => { it with reprintUsed := true }).returnItems e (head :: waiting), true)
  | _, _ =>
    let waiting := queue.filter p.isQueued
    (p.returnItems e waiting, !waiting.isEmpty)

/-! ### Beginning a copy -/

/-- LOADING is entered (R167): the media sensor is compared with the record, then a sheet is taken and its draw starts. -/
def Part.loadStart (p : Part) (e : EngineId) : Part × Bool :=
  let p := p.modEng e fun en => { en with state := .loading }
  if (p.sensors e).media.val ≠ (p.eng e).mediaKind then p.faultCore e .mediaMismatch false
  else
    let p := p.modEng e fun en => { en with prints := en.prints - 1, motion := some .draw }
    (if (p.eng e).prints = Config.mediaLowAt then p.capture .mediaLow else p, false)

/-- An IDLE engine with items in its queue begins a copy, outside PARKED and WAKING (R166). -/
def Part.beginCopy (p : Part) (e : EngineId) : Part × Bool :=
  match (p.eng e).state, p.svc.mode.dark, (p.eng e).queue with
  | .idle, false, head :: _ =>
    if (p.eng e).prints = 0 then
      ((p.modEng e fun en => { en with state := .needsMedia }).capture .mediaOut, false)
    else
      let p := if p.isQueued head then p.modItem head fun it => { it with state := .printing } else p
      p.loadStart e
  | _, _, _ => (p, false)

/-- The condition an engine acts on at entry to IDLE, a jam before a break before an open door (R165, log entry 12). -/
def Sensors.condition (s : Sensors) : Option FaultKind :=
  if s.paperJam then some .paperJam
  else if s.ribbonBreak then some .ribbonBreak
  else if s.doorOpen then some .doorOpen
  else none

/-- An engine enters IDLE (R165, R166): a reported condition is a fault at once, otherwise a copy may begin. -/
def Part.enterIdle (p : Part) (e : EngineId) : Part × Bool :=
  let p := p.modEng e fun en => { en with state := .idle, panel := none, line := none, motion := none }
  match (p.sensors e).condition with
  | some k => p.faultCore e k false
  | none => p.beginCopy e

/-! ### The release walk -/

/-- The engine mask of an item (R88). -/
def Item.allows (it : Item) : EngineId → Bool
  | .A => it.maskA
  | .B => it.maskB

/-- An engine is eligible for an item (R88). -/
def Part.eligible (p : Part) (it : Item) (e : EngineId) : Bool :=
  it.allows e
  && ((p.eng e).state == .idle || (p.eng e).state.printing) && !(p.eng e).offlinePending
  && (p.eng e).mediaKind == it.media
  && decide ((p.eng e).queue.length < Config.engineQueueRoom)

/-- The engine chosen for an item (R88): the shorter queue, A when both are equal. -/
def Part.chooseEngine (p : Part) (it : Item) : Option EngineId :=
  match p.eligible it .A, p.eligible it .B with
  | true, true => if p.engB.queue.length < p.engA.queue.length then some .B else some .A
  | true, false => some .A
  | false, true => some .B
  | false, false => none

/-- The funding test of an item of price `price` (R94, R95). -/
def Order.fundsItem (o : Order) (price : Nat) : Bool :=
  match o.funding with
  | .perItem =>
    (o.state == .opened || o.state == .committed) && !o.cancel
    && decide ((price : Int) ≤ o.available) && decide (o.consumed + price ≤ Config.moneyTop)
  | .prepay =>
    o.state == .committed && !o.cancel && decide (o.total ≤ o.cashIn + o.cardAuth)
    && decide ((price : Int) ≤ o.available) && decide (o.consumed + price ≤ Config.moneyTop)

/-- Steps 1 and 2 of R87: the order's state and cancel flag, and the funding test unless the item is debited. -/
def Order.letsGo (o : Order) (it : Item) : Bool :=
  (o.state == .opened || o.state == .committed) && !o.cancel && (it.debited || o.fundsItem it.price)

/-- Step 4 of R87: the item is debited when its flag is clear (R96), leaves the list, and joins the engine's queue as
QUEUED; an idle engine begins its copy at once. -/
def Part.releaseTo (p : Part) (id : Fin 64) (it : Item) (e : EngineId) : Part :=
  let p := if it.debited then p
    else p.modOrder it.order fun o => { o with consumed := o.consumed + it.price }
  let p := { p with ord := { p.ord with release := p.ord.release.filter fun x => x.item != id } }
  let p := p.modItem id fun it => { it with debited := true, state := .queued, engine := some e }
  ((p.modEng e fun en => { en with queue := en.queue ++ [id] }).beginCopy e).1

/-- A walk tries one entry (R87). -/
def Part.tryEntry (p : Part) (x : ReleaseEntry) : Part :=
  match p.ord.items[x.item] with
  | some it =>
    match p.ord.orders[it.order] with
    | some o =>
      if o.letsGo it then
        match p.chooseEngine it with
        | some e => p.releaseTo x.item it e
        | none => p
      else p
    | none => p
  | none => p

/-- A release walk (R86, R87): each entry once, front to tail; none in PARKED and WAKING. -/
def Part.walk (p : Part) : Part :=
  if p.svc.mode.dark then p else p.ord.release.foldl Part.tryEntry p

/-- A walk when its event took place. -/
def Part.walkIf (r : Part × Bool) : Part := if r.2 then r.1.walk else r.1

/-! ### Panels and lines -/

/-- A panel starts (R168, R183): the ribbon and sheet move, and the HDU's previous-line record becomes W zeros, W being
the width of the printing item. -/
def Part.panelStart (p : Part) (e : EngineId) (panel : Panel) : Part :=
  let w := match (p.eng e).queue with
    | head :: _ => (p.ord.items[head].map (·.width)).getD 0
    | [] => 0
  p.modEng e fun en =>
    { en with motion := some (.panelStart panel), hdu := { en.hdu with prev := some (List.replicate w 0) } }

/-- A fault of a printing engine fails its copy (R171, R172), but for the aborting eject of R178, which concerns no item;
the walk of R173 follows. -/
def Part.faultPrinting (p : Part) (e : EngineId) (k : FaultKind) : Part :=
  Part.walkIf (p.faultCore e k ((p.eng e).state.printing && (p.eng e).motion != some .abortEject))

/-- A line starts with the sample `t` (R169): at or above the stop limit the panel is aborted with HEAD_HOT, otherwise the
row is asked from the spool. -/
def Part.lineStart (p : Part) (e : EngineId) (t : Int) : Part :=
  let p := p.modEng e fun en => { en with temperature := t }
  if ((p.eng e).params.stop : Int) ≤ t then p.faultPrinting e .headHot
  else p.modEng e fun en => { en with readWaiting := true }

/-- The engine enters PANEL at line 0 (R168). -/
def Part.enterPanel (p : Part) (e : EngineId) (panel : Panel) : Part :=
  p.modEng e fun en => { en with state := .panel, panel := some panel, line := some 0, motion := none }

/-- The engine that an eject leaves (R170): OFFLINE when offline pending is set, clearing it, and IDLE otherwise. -/
def Part.afterEject (p : Part) (e : EngineId) : Part × Bool :=
  if (p.eng e).offlinePending then
    (p.modEng e fun en =>
      { en with state := .offline, offlinePending := false, panel := none, line := none, motion := none }, false)
  else p.enterIdle e

end Sys2Proof.Machine
end

