-- ==== Sys2Proof/Machine/ServiceOps.lean ====
section
/-! DEFINITION. Shared operations of the Service Controller: the wake sources and the ways into and out of PARKED and WAKING
(R24 to R30), and the conditions of parking (R23). -/

namespace Sys2Proof.Machine

/-- A command's answer: the part after it, the queue untouched. While RESETN is held low nothing acts (log entry 8). -/
def State.answer (s : State) (f : Part → Part) : Host.Outcome State Fault Refusal :=
  .next { s with toPart := if s.inReset then s.toPart else f s.toPart }

/-! ### Waking -/

/-- An engine at the return to LIVE (R179): in IDLE it acts on any jam, break or open door reported at that moment. -/
def Part.resumeIdle (p : Part) (e : EngineId) : Part :=
  if (p.eng e).state == .idle then (p.enterIdle e).1 else p

/-- The part wakes to LIVE (R28 to R30): every debounce timer stops, every enable flag is cleared, WAKE is captured, and
the blocks take up the mode (R25): slots as R50, engines as R179, and a release walk (R86, R91). -/
def Part.wakeToLive (p : Part) : Part :=
  let p := { p with svc := { p.svc with mode := .live, debounce := Vector.replicate 5 none, enable := 0 } }
  let p := (p.capture .wake).wakeSlots
  ((p.resumeIdle .A).resumeIdle .B).walk

/-- The debounce timer of a source; the pulse source has none (R26). -/
def WakeSource.timer : WakeSource → Option (Fin 5)
  | .slot i => some (slotTimer i)
  | .key => some keyTimer
  | .pulse => none

/-- A debounce timer starts from zero toward 250 ms (R29, R30). -/
def Part.startDebounce (p : Part) (t : Fin 5) : Part :=
  { p with svc := { p.svc with debounce := p.svc.debounce.set t (some Config.debounceTime) } }

/-- The grace ends with the mode back in DRAIN (R24). -/
def Part.endGrace (p : Part) : Part := { p with svc := { p.svc with mode := .drain, grace := none } }

/-- What a wake condition of a source does to the mode (R24, R29, R30). -/
def Part.wakeCondition (p : Part) (w : WakeSource) : Part :=
  match p.svc.mode, w.timer with
  | .parkPending, _ => p.endGrace
  | .parked, none => p.wakeToLive
  | .parked, some t => (p.setMode .waking).startDebounce t
  | .waking, none => p.wakeToLive
  | .waking, some t => p.startDebounce t
  | .setup, _ | .live, _ | .drain, _ => p

/-- A source's activity (R26): its request flag is set, and a wake condition that arises acts. -/
def Part.raiseWake (p : Part) (w : WakeSource) : Part :=
  let held := p.svc.wakeHolds w
  let p := { p with svc := { p.svc with request := p.svc.request ||| w.bit } }
  if p.svc.wakeHolds w && !held then p.wakeCondition w else p

/-- A source's line deasserts, or its debounce expires with the line deasserted (R30): a running timer stops, the request
flag is cleared, and with no debounce left running the mode returns to PARKED. -/
def Part.failDebounce (p : Part) (w : WakeSource) : Part :=
  match p.svc.mode, w.timer with
  | .waking, some t =>
    if p.svc.debounce[t].isSome then
      let v := { p.svc with debounce := p.svc.debounce.set t none, request := p.svc.request &&& ~~~w.bit }
      { p with svc := { v with mode := if v.debouncing then .waking else .parked } }
    else p
  | _, _ => p

/-- A control arrival (R6, R24, R28). -/
def Part.controlArrival (p : Part) : Part :=
  match p.svc.mode with
  | .parkPending => p.endGrace
  | .parked | .waking => p.wakeToLive
  | .setup | .live | .drain => p

/-! ### Parking -/

/-- Condition 1 of R23: no order record is OPEN, COMMITTED or SETTLING. -/
def Part.noOrderWorks (p : Part) : Bool :=
  p.ord.orders.toList.all fun o =>
    match o with
    | some o => o.state == .closed || o.state == .halted
    | none => true

/-- Condition 2 of R23: no item is QUEUED or PRINTING. -/
def Part.noItemPrints (p : Part) : Bool :=
  p.ord.items.toList.all fun it =>
    match it with
    | some it => it.state != .queued && it.state != .printing
    | none => true

/-- Condition 3 of R23: no cashless operation waits or is outstanding. -/
def Part.noCashless (p : Part) : Bool := p.clc.queue.isEmpty && p.clc.outstanding.isNone

/-- Condition 4 of R23: every read queue is empty; the request in service stands in its queue (R53). -/
def Part.noReads (p : Part) : Bool := p.csu.slots.toList.all fun s => s.queue.isEmpty

/-- The four conditions of R23. -/
def Part.mayPark (p : Part) : Bool := p.noOrderWorks && p.noItemPrints && p.noCashless && p.noReads

/-- The slot and service key sources. -/
def debouncedSources : List WakeSource := [.slot 0, .slot 1, .slot 2, .slot 3, .key]

/-- The mode becomes PARKED (R24, R25). A wake condition that holds at that moment acts at once, as R29 says of one that
holds in PARKED (log entry 24). -/
def Part.enterParked (p : Part) : Part :=
  let p := { p with svc := { p.svc with mode := .parked, grace := none } }.parkSlots
  if p.svc.wakeHolds .pulse then p.wakeCondition .pulse
  else (debouncedSources.filter fun w => p.svc.wakeHolds w).foldl Part.wakeCondition p

end Sys2Proof.Machine
end

