-- ==== Sys2Proof/Machine/Serve.lean ====
section
/-! DEFINITION. The control handler (R8, R19, R191): taking the head of the control request queue, the checks of length and
mode, and the REPLY that then waits for its hand-over (R10, log entry 4). -/

namespace Sys2Proof.Machine

/-- How a request was carried out: the part after it, the REPLY's status and result, and what its hand-over does. -/
structure Served where
  part : Part
  status : Status
  result : List Byte
  atHandover : Handover

/-- A request carried out with status OK. -/
def Served.done (p : Part) (result : List Byte) : Served := ⟨p, .ok, result, .plain⟩

/-- A request refused: the part is as it was (R8). -/
def Served.refuse (p : Part) (st : Status) : Served := ⟨p, st, [], .plain⟩

/-- The handler can take a request: it is idle, and the mode is not PARKED or WAKING (R18, log entry 30). -/
def Part.handlerFree (p : Part) : Bool := p.lnk.handler == .idle && !p.svc.mode.dark

/-- The oldest entry leaves the control request queue (R8). -/
def Part.dequeue (p : Part) (rest : List CtrlEntry) : Part := { p with lnk := { p.lnk with ctrl := rest } }

/-- The handler takes the oldest entry (R8); in PARK_PENDING the grace ends first (R24). -/
def Part.takeRequest (p : Part) (rest : List CtrlEntry) : Part :=
  if p.svc.mode == .parkPending then (p.dequeue rest).endGrace else p.dequeue rest

/-- The REPLY of a request waits for its hand-over (R10). -/
def Part.hold (tag : Nat) (code : Byte) (r : Served) : Part :=
  { r.part with lnk := { r.part.lnk with
      handler := .serving { tag := tag, code := code, status := r.status, result := r.result } r.atHandover } }

/-- The request codes of 13.1, each with the request it names. -/
def requestCodes : List Byte :=
  [0x01, 0x02, 0x03, 0x04, 0x10, 0x11, 0x12, 0x13, 0x14, 0x15, 0x20, 0x21, 0x22, 0x30, 0x31, 0x32, 0x33, 0x34, 0x35,
    0x36, 0x37, 0x40, 0x41, 0x42, 0x43, 0x44, 0x45, 0x46, 0x48, 0x50, 0x51, 0x60, 0x61, 0x62, 0x63]

/-- Steps 2 to 4 of R8 for a payload that opens with the request's code: the argument bytes, the mode, and the request's
own checks and effect. -/
def Part.checked (p : Part) (lengthOk : Nat → Bool) (admits : Mode → Option Status) (payload : List Byte)
    (run : Part → List Byte → Served) : Served :=
  match payload with
  | _ :: _ :: args =>
    if lengthOk args.length then
      match admits p.svc.mode with
      | some st => .refuse p st
      | none => run p args
    else .refuse p .badArgument
  | _ => .refuse p .badArgument

/-- The handler serves the request of code `code`, when that is what the queue's head names. `run` gets the part after the
take, the request's tag and its argument bytes. -/
def Part.serve (p : Part) (code : Byte) (lengthOk : Nat → Bool) (admits : Mode → Option Status)
    (run : Part → Nat → List Byte → Served) : Part :=
  match p.handlerFree, p.lnk.ctrl with
  | true, e :: rest =>
    if e.payload.head? = some code then
      Part.hold e.tag code ((p.takeRequest rest).checked lengthOk admits e.payload fun p args => run p e.tag args)
    else p
  | _, _ => p

/-- Exactly `n` argument bytes (R191). -/
def exactly (n : Nat) : Nat → Bool := fun k => k == n

/-! ### Admission by mode (R19) -/

/-- Admitted in SETUP, LIVE and DRAIN. -/
def admitAll : Mode → Option Status := fun _ => none

/-- Admitted in LIVE and DRAIN; NOT_LIVE in SETUP. -/
def admitLive : Mode → Option Status
  | .setup => some .notLive
  | .live | .drain | .parkPending | .parked | .waking => none

/-- ORDER_OPEN and ITEM_ADD. -/
def admitNew : Mode → Option Status
  | .setup => some .notLive
  | .live => none
  | .drain | .parkPending | .parked | .waking => some .draining

/-- GO_LIVE. -/
def admitGoLive : Mode → Option Status
  | .setup => none
  | .live | .drain | .parkPending | .parked | .waking => some .wrongState

/-- DRAIN. -/
def admitDrain : Mode → Option Status
  | .setup => some .notLive
  | .live => none
  | .drain | .parkPending | .parked | .waking => some .wrongState

/-- RESUME. -/
def admitResume : Mode → Option Status
  | .setup => some .notLive
  | .live => some .wrongState
  | .drain | .parkPending | .parked | .waking => none

/-- PARK. -/
def admitPark : Mode → Option Status
  | .setup | .live => some .wrongState
  | .drain | .parkPending | .parked | .waking => none

end Sys2Proof.Machine
end

