-- ==== Sys2Proof/Machine/Cards.lean ====
section
/-! DEFINITION. Events and requests of the card slots: detect, removal, settling, identify (R35 to R43) and SLOT_UNBIND
(R47). -/

namespace Sys2Proof.Machine

/-- A card status byte (R37). -/
inductive CardStatus where
  | ok
  | busy
  | error
  deriving DecidableEq, Repr

/-- The reading of a status byte: OK 0x00, BUSY 0x01, anything else ERROR (R37). -/
def cardStatus (b : Byte) : CardStatus :=
  if b = 0x00 then .ok else if b = 0x01 then .busy else .error

/-- The status of a response whose check byte is right; a wrong check byte makes it bad, as ERROR does (R38). -/
def responseStatus (status : Byte) (data : List Byte) (check : Byte) : CardStatus :=
  if check = sum8 (status :: data) then cardStatus status else .error

/-! ### Detect and removal -/

/-- A detect assertion at a slot (R35). -/
def Part.detectAssert (p : Part) (i : Fin 4) : Part :=
  let settle (p : Part) : Part := p.modSlot i fun s =>
    { s with state := .settling, delivered := 0, holdComplete := false, settling := some Config.settleTime }
  match p.csu.slots[i].state with
  | .empty => (settle p).raiseWake (.slot i)
  | .absentBound => settle p
  | .settling | .identifying | .ready | .bound | .foreign | .fault => p

/-- The level of a card detect line. -/
def Part.setDetect (p : Part) (i : Fin 4) (on : Bool) : Part :=
  { p with pins := { p.pins with detect := p.pins.detect.set i on } }

/-- The card detect line of a slot asserts. -/
def Part.detectRises (p : Part) (i : Fin 4) : Part :=
  if p.pins.detect[i] then p
  else
    let p := p.setDetect i true
    if p.inReset then p else p.detectAssert i

/-- A state in which a card is present (R34). -/
def SlotState.cardPresent : SlotState → Bool
  | .empty | .absentBound => false
  | .settling | .identifying | .ready | .bound | .foreign | .fault => true

/-- The card detect line of a slot deasserts: a removal (R42, R43), and in WAKING a failed debounce (R30). -/
def Part.detectFalls (p : Part) (i : Fin 4) : Part :=
  if p.pins.detect[i] then
    let p := p.setDetect i false
    if p.inReset then p
    else
      let p := if p.csu.slots[i].state.cardPresent then p.removeCard i else p
      p.failDebounce (.slot i)
  else p

/-- CARD_DETECT_ASSERT (R35). -/
def execCardDetectAssert (i : Fin 4) (s : State) : Host.Outcome State Fault Refusal :=
  .next { s with toPart := s.toPart.detectRises i }

/-- CARD_REMOVAL (R42). -/
def execCardRemoval (i : Fin 4) (s : State) : Host.Outcome State Fault Refusal :=
  .next { s with toPart := s.toPart.detectFalls i }

/-! ### Settling and identify -/

/-- The settling timer runs out with the line asserted (R36): IDENTIFYING, or hold complete while power is off. -/
def Part.settled (p : Part) (i : Fin 4) : Part :=
  if p.csu.slots[i].state == .settling && p.csu.slots[i].settling.isSome && p.pins.detect[i] then
    if p.svc.mode.dark then p.modSlot i fun s => { s with settling := none, holdComplete := true }
    else p.identifyStart i
  else p

/-- SETTLING_EXPIRY (R36). -/
def execSettlingExpiry (i : Fin 4) (s : State) : Host.Outcome State Fault Refusal :=
  s.answer fun p => p.settled i

/-- The identify's next step after an OK response (R39). That the serial and the capacity come in little-endian order is a
DESIGN CHOICE (log entry 33). -/
def Part.identifyStep (p : Part) (i : Fin 4) (cmd : CardCmd) (data : List Byte) : Part :=
  match cmd with
  | .resetCard => if data.length = 0 then p.sendCard i .identify 0 else p.identifyFail i
  | .identify =>
    if data.length = 8 ∧ u32 data 4 ≠ 0 then
      (p.modSlot i fun s =>
        { s with identify := s.identify.map fun r =>
            { r with read := some { serial := u32 data 0, capacity := u32 data 4 } } }).sendCard i .select (u32 data 0)
    else p.identifyFail i
  | .select =>
    if data.length = 0 then
      match p.csu.slots[i].identify with
      | some { read := some c, .. } => p.identifySuccess i c
      | _ => p
    else p.identifyFail i
  | .readBlock | .stop => p

/-- A response to RESET_CARD, IDENTIFY or SELECT (R39, R40). A BUSY answer may carry data of any length (DEDUCED, log entry
28). -/
def Part.identifyResponse (p : Part) (i : Fin 4) (status : Byte) (data : List Byte) (check : Byte) : Part :=
  match p.csu.slots[i].bus.phase with
  | .awaiting .readBlock _ | .awaiting .stop _ | .idle | .retryWait _ _ | .data => p
  | .awaiting cmd arg =>
    match responseStatus status data check with
    | .ok => p.identifyStep i cmd data
    | .busy => p.cardBusy i cmd arg
    | .error => p.identifyFail i

/-- IDENTIFY_RESPONSE (R39). -/
def execIdentifyResponse (i : Fin 4) (status : Byte) (data : List Byte) (check : Byte) (s : State) :
    Host.Outcome State Fault Refusal :=
  s.answer fun p => p.identifyResponse i status data check

/-- The 1 s limit of an identify runs out (R40). -/
def Part.identifyExpired (p : Part) (i : Fin 4) : Part :=
  match p.csu.slots[i].state, p.csu.slots[i].identify with
  | .identifying, some { limit := some _, .. } => p.identifyFail i
  | _, _ => p

/-- IDENTIFY_LIMIT_EXPIRY (R40). -/
def execIdentifyLimitExpiry (i : Fin 4) (s : State) : Host.Outcome State Fault Refusal :=
  s.answer fun p => p.identifyExpired i

/-- No complete response within 100 ms: a bad response to the command that waits (R38). -/
def Part.responseTimeout (p : Part) (i : Fin 4) : Part :=
  match p.csu.slots[i].bus.phase with
  | .awaiting .resetCard _ | .awaiting .identify _ | .awaiting .select _ => p.identifyFail i
  | .awaiting .readBlock _ => p.attemptFail i
  | .awaiting .stop _ => p.slotFault i
  | .idle | .retryWait _ _ | .data => p

/-- CARD_RESPONSE_TIMEOUT (R38). -/
def execCardResponseTimeout (i : Fin 4) (s : State) : Host.Outcome State Fault Refusal :=
  s.answer fun p => p.responseTimeout i

/-- The 20 ms after a BUSY run out: the same command is sent again (R38, R39, R58). -/
def Part.busyRetry (p : Part) (i : Fin 4) : Part :=
  match p.csu.slots[i].bus.phase with
  | .retryWait cmd arg => p.sendCard i cmd arg
  | .idle | .awaiting _ _ | .data => p

/-- BUSY_RETRY_EXPIRY (R39). -/
def execBusyRetryExpiry (i : Fin 4) (s : State) : Host.Outcome State Fault Refusal :=
  s.answer fun p => p.busyRetry i

/-! ### SLOT_UNBIND -/

/-- The bound order of a slot is HALTED (R47). -/
def Part.boundHalted (p : Part) (number : Nat) : Option (Fin 32) :=
  match p.orderIdx number with
  | some k =>
    match p.ord.orders[k] with
    | some o => if o.state == .halted then some k else none
    | none => none
  | none => none

/-- The checks and effect of SLOT_UNBIND (R47). -/
def Part.slotUnbind (p : Part) (args : List Byte) : Served :=
  match slotArg (u8 args 0) with
  | none => .refuse p .badArgument
  | some i =>
    match p.csu.slots[i].bound with
    | none => .refuse p .wrongState
    | some n =>
      match p.boundHalted n with
      | none => .refuse p .wrongState
      | some k =>
        let p := p.dropBinding k
        .done p [p.csu.slots[i].state.code]

/-- SLOT_UNBIND (R47). -/
def execSlotUnbind (s : State) : Host.Outcome State Fault Refusal :=
  s.answer fun p => p.serve 0x20 (exactly 1) admitAll fun p _ args => p.slotUnbind args

end Sys2Proof.Machine
end

