-- ==== Sys2Proof/Machine/Orders.lean ====
section
/-! DEFINITION. Order and item requests (R75 to R84). -/

namespace Sys2Proof.Machine

/-- The live record a request names, with its index (R76 check 1 and the like). -/
def Part.liveOrder (p : Part) (number : Nat) : Option (Fin 32 × Order) :=
  match p.orderIdx number with
  | some k =>
    match p.ord.orders[k] with
    | some o => some (k, o)
    | none => none
  | none => none

/-! ### ORDER_OPEN -/

/-- The lowest free order record (R75, log entry 18). -/
def Part.freeOrder (p : Part) : Option (Fin 32) := (List.finRange 32).find? fun k => p.ord.orders[k].isNone

/-- A record at ORDER_OPEN (R71, R128). -/
def Order.opening (number : Nat) (funding : Funding) (slot : Option (Fin 4)) (locked : Option Identity) : Order :=
  { number := number, state := .opened, funding := funding, slot := slot, locked := locked, items := [], total := 0
    cashIn := 0, cardAuth := 0, consumed := 0, cancel := false, change := none, captured := none
    cashless := { state := .none, requested := 0, approved := 0, reason := none, lateSeen := false } }

/-- The slot argument of ORDER_OPEN: 0..3, or 0xFF for none (R191). -/
def openSlotArg (n : Nat) : Option (Option (Fin 4)) :=
  if n = 0xFF then some none else (slotArg n).map some

/-- Check 4 of R75: a named slot is READY. -/
def Part.slotReady (p : Part) : Option (Fin 4) → Bool
  | none => true
  | some i => p.csu.slots[i].state == .ready

/-- The order takes a free record and binds its slot (R44, R75). -/
def Part.openOrder (p : Part) (k : Fin 32) (number : Nat) (funding : Funding) (slot : Option (Fin 4)) : Served :=
  let locked := match slot with
    | some i => p.csu.slots[i].identity
    | none => none
  let o := Order.opening number funding slot locked
  let p := { p with ord := { p.ord with orders := p.ord.orders.set k (some o) } }
  let p := match slot with
    | some i => p.bindSlot i number
    | none => p
  .done p (OrderState.opened.code :: optIdentity locked)

/-- The checks of ORDER_OPEN in order (R75). -/
def Part.orderOpen (p : Part) (args : List Byte) : Served :=
  let number := u16 args 0
  match fundingArg (u8 args 2), openSlotArg (u8 args 3) with
  | some funding, some slot =>
    if number = 0 then .refuse p .badArgument
    else if (p.orderIdx number).isSome then .refuse p .inUse
    else
      match p.freeOrder with
      | none => .refuse p .noRoom
      | some k => if p.slotReady slot then p.openOrder k number funding slot else .refuse p .wrongState
  | _, _ => .refuse p .badArgument

/-- ORDER_OPEN (R75). -/
def execOrderOpen (s : State) : Host.Outcome State Fault Refusal :=
  s.answer fun p => p.serve 0x30 (exactly 4) admitNew fun p _ args => p.orderOpen args

/-! ### ITEM_ADD -/

/-- The product row of a code (R69). -/
def productRow (shift code : Nat) : Fin 32 := Fin.ofNat 32 (code / 2 ^ shift)

/-- The per-copy price of a row for `n` copies (R70). -/
def ProductRow.tierPrice (row : ProductRow) (n : Nat) : Nat :=
  if n < row.t2 then row.p1 else if n < row.t3 then row.p2 else row.p3

/-- The price of an item of `n` copies (R70). -/
def ProductRow.itemPrice (row : ProductRow) (n : Nat) : Nat := n * row.tierPrice n

/-- The lowest free item ID (R73). -/
def Part.freeItem (p : Part) : Option (Fin 64) := (List.finRange 64).find? fun id => p.ord.items[id].isNone

/-- Check 7 of R76: the status of a region for a raster of `w` by `l`. -/
def Part.regionFor (p : Part) (n w l : Nat) : Except Status (Fin 16) :=
  match regionArg n with
  | none => .error .badArgument
  | some r =>
    let g := p.spl.regions[r]
    if !g.valid then .error .noRoom
    else if g.holder.isSome then .error .inUse
    else if g.size * Config.mib / 4 < w * l then .error .noRoom
    else .ok r

/-- The effects of an accepted ITEM_ADD (R77). -/
def Part.addItem (p : Part) (k : Fin 32) (o : Order) (id : Fin 64) (row : ProductRow) (code copies w l : Nat)
    (r : Fin 16) : Served :=
  let price := row.itemPrice copies
  let it : Item :=
    { order := k, sequence := p.ord.admission, code := code, price := price, maskA := row.mask.getLsbD 0
      maskB := row.mask.getLsbD 1, media := row.media, finish := (finishArg row.finish).getD .gloss
      tone := Fin.ofNat 4 row.tone, copies := copies, copiesDone := 0, width := w, length := l, region := r
      received := 0, state := .defined, debited := false, reprintUsed := false, engine := none, reason := none }
  let p := { p with ord := { p.ord with
    items := p.ord.items.set id (some it), admission := (p.ord.admission + 1) % 4294967296 } }
  let p := p.modOrder k fun o => { o with items := o.items ++ [id], total := o.total + price }
  let p := p.modRegion r fun g => { g with holder := some id }
  let p := p.setIntake id (some { segments := [], receiving := true })
  .done p (byte id.val :: (le4 price ++ le4 (o.total + price)))

/-- Check 6 of R76. -/
def rasterOk (copies w l : Nat) : Bool :=
  decide (1 ≤ copies) && decide (copies ≤ 99) && decide (w % 2 = 0) && decide (2 ≤ w) && decide (w ≤ 1920)
    && decide (1 ≤ l) && decide (l ≤ 2400)

/-- The checks of ITEM_ADD in order (R76). -/
def Part.itemAdd (p : Part) (args : List Byte) : Served :=
  let code := u16 args 2
  let copies := u8 args 4
  let w := u16 args 6
  let l := u16 args 8
  match p.liveOrder (u16 args 0) with
  | none => .refuse p .badArgument
  | some (k, o) =>
    if o.state != .opened || o.cancel then .refuse p .wrongState
    else if Config.orderItemRoom ≤ o.items.length then .refuse p .noRoom
    else
      match p.freeItem with
      | none => .refuse p .noRoom
      | some id =>
        let row := p.ord.products[productRow p.ord.priceKey code]
        if 4095 < code then .refuse p .badArgument
        else if !row.valid then .refuse p .noProduct
        else if !rasterOk copies w l then .refuse p .badArgument
        else
          match p.regionFor (u8 args 5) w l with
          | .error st => .refuse p st
          | .ok r =>
            if Config.totalTop < o.total + row.itemPrice copies then .refuse p .amountLimit
            else p.addItem k o id row code copies w l r

/-- ITEM_ADD (R76, R77). -/
def execItemAdd (s : State) : Host.Outcome State Fault Refusal :=
  s.answer fun p => p.serve 0x36 (exactly 10) admitNew fun p _ args => p.itemAdd args

/-! ### ITEM_WITHDRAW -/

/-- A withdrawal that makes a walk (R78, R86): a reversal, a QUEUED item leaving its engine queue, or a fall of a COMMITTED
order's total. -/
def Part.withdrawWalks (p : Part) (it : Item) : Bool :=
  it.debited || it.state == .queued
    || (match p.ord.orders[it.order] with
        | some o => o.state == .committed && decide (0 < it.price)
        | none => false)

/-- One item withdrawn with its ORDER_FUNDED check and its walk (R78, R93). -/
def Part.withdrawWithWalk (p : Part) (id : Fin 64) : Part :=
  match p.ord.items[id] with
  | some it =>
    let before := p.orderFunded it.order
    let q := (p.withdrawItem id none).fundedCheck it.order before
    if p.withdrawWalks it then q.walk else q
  | none => p

/-- The total of an order record. -/
def Part.totalOf (p : Part) (k : Fin 32) : Nat := (p.ord.orders[k].map (·.total)).getD 0

/-- The checks and effect of ITEM_WITHDRAW (R78). That the REPLY carries 0 when no reversal is made is a DESIGN CHOICE (log
entry 40). -/
def Part.itemWithdraw (p : Part) (args : List Byte) : Served :=
  match itemArg (u8 args 0) with
  | none => .refuse p .badArgument
  | some id =>
    match p.ord.items[id] with
    | none => .refuse p .badArgument
    | some it =>
      match it.state with
      | .printing => .refuse p .busy
      | .done | .failed | .withdrawn => .refuse p .wrongState
      | .defined | .receiving | .spooled | .queued =>
        let q := (p.withdrawWithWalk id).checkSettling it.order
        .done q (le4 (q.totalOf it.order) ++ le4 it.reversal)

/-- ITEM_WITHDRAW (R78). -/
def execItemWithdraw (s : State) : Host.Outcome State Fault Refusal :=
  s.answer fun p => p.serve 0x37 (exactly 1) admitLive fun p _ args => p.itemWithdraw args

/-! ### Commit, cancel, resume -/

/-- The checks and effect of ORDER_COMMIT (R79). -/
def Part.orderCommit (p : Part) (args : List Byte) : Served :=
  match p.liveOrder (u16 args 0) with
  | none => .refuse p .badArgument
  | some (k, o) =>
    if o.state != .opened || o.cancel then .refuse p .wrongState
    else
      let p := (p.modOrder k fun o => { o with state := .committed }).fundedCheck k false
      .done (p.checkSettling k).walk []

/-- ORDER_COMMIT (R79). -/
def execOrderCommit (s : State) : Host.Outcome State Fault Refusal :=
  s.answer fun p => p.serve 0x31 (exactly 2) admitLive fun p _ args => p.orderCommit args

/-- DEFINED, RECEIVING, SPOOLED and QUEUED items are withdrawn by a cancel (R80). -/
def ItemState.withdrawable : ItemState → Bool
  | .defined | .receiving | .spooled | .queued => true
  | .printing | .done | .failed | .withdrawn => false

/-- The state of an item, when its entry is in use. -/
def Part.itemState (p : Part) (id : Fin 64) : Option ItemState := p.ord.items[id].map (·.state)

/-- A cancel treats one item of the list (R80). -/
def Part.cancelItem (p : Part) (id : Fin 64) : Part :=
  match p.itemState id with
  | some st => if st.withdrawable then p.withdrawWithWalk id else p
  | none => p

/-- The effect of a cancel on an order whose flag is clear (R80, log entry 17). -/
def Part.cancelOrder (p : Part) (k : Fin 32) (o : Order) : Part :=
  let p := p.modOrder k fun o => { o with cancel := true }
  (o.items.foldl Part.cancelItem p).checkSettling k

/-- Whether an item of the order is PRINTING. -/
def Part.leftPrinting (p : Part) (o : Order) : Bool := o.items.any fun id => p.itemState id == some .printing

/-- How many items of the order a cancel withdraws (R80). -/
def Part.withdrawCount (p : Part) (o : Order) : Nat :=
  (o.items.filter fun id => ((p.itemState id).map ItemState.withdrawable).getD false).length

/-- The checks and effect of ORDER_CANCEL (R80). -/
def Part.orderCancel (p : Part) (args : List Byte) : Served :=
  match p.liveOrder (u16 args 0) with
  | none => .refuse p .badArgument
  | some (k, o) =>
    if o.state == .settling || o.state == .closed then .refuse p .wrongState
    else if o.cancel then .done p [0, flagByte (p.leftPrinting o)]
    else .done (p.cancelOrder k o) [byte (p.withdrawCount o), flagByte (p.leftPrinting o)]

/-- ORDER_CANCEL (R80). -/
def execOrderCancel (s : State) : Host.Outcome State Fault Refusal :=
  s.answer fun p => p.serve 0x32 (exactly 2) admitLive fun p _ args => p.orderCancel args

/-- The checks and effect of ORDER_RESUME (R82). -/
def Part.orderResume (p : Part) (args : List Byte) : Served :=
  match p.liveOrder (u16 args 0) with
  | none => .refuse p .badArgument
  | some (k, o) =>
    if o.state == .halted && !o.cancel then .done (p.modOrder k fun o => { o with state := .opened }) []
    else .refuse p .wrongState

/-- ORDER_RESUME (R82). -/
def execOrderResume (s : State) : Host.Outcome State Fault Refusal :=
  s.answer fun p => p.serve 0x33 (exactly 2) admitLive fun p _ args => p.orderResume args

/-! ### Reading and freeing -/

/-- The 14 bytes of an item in an ORDER_READ result (13.2). -/
def Item.summary (it : Item) (id : Fin 64) : List Byte :=
  [byte id.val, it.state.code] ++ le4 it.price ++ [byte it.copies, byte it.copiesDone] ++ le2 it.received
    ++ [flagByte it.debited, flagByte it.reprintUsed, optByte (it.engine.map engineCode)
        , optByte (it.reason.map FailReason.code)]

/-- The 50 bytes of an order record in an ORDER_READ result (13.2). -/
def Order.header (o : Order) : List Byte :=
  le2 o.number ++ [o.state.code, o.funding.code, optByte (o.slot.map (·.val))] ++ optIdentity o.locked
    ++ le4 o.total ++ le4 o.cashIn ++ le4 o.cardAuth ++ le4 o.consumed
    ++ [flagByte o.cancel] ++ optAmount o.change ++ optAmount o.captured
    ++ [o.cashless.state.code] ++ le4 o.cashless.requested ++ le4 o.cashless.approved
    ++ le2 (o.cashless.reason.getD 0xFFFF) ++ [byte o.items.length]

/-- The ORDER_READ result (R83, 13.2). -/
def Part.orderRecord (p : Part) (o : Order) : List Byte :=
  o.header ++ o.items.flatMap fun id =>
    match p.ord.items[id] with
    | some it => it.summary id
    | none => []

/-- The check and result of ORDER_READ (R83). -/
def Part.orderRead (p : Part) (args : List Byte) : Served :=
  match p.liveOrder (u16 args 0) with
  | none => .refuse p .badArgument
  | some (_, o) => .done p (p.orderRecord o)

/-- ORDER_READ (R83). -/
def execOrderRead (s : State) : Host.Outcome State Fault Refusal :=
  s.answer fun p => p.serve 0x34 (exactly 2) admitLive fun p _ args => p.orderRead args

/-- An item entry becomes free, with RIN's record of it (R73, R142). -/
def Part.freeItemEntry (p : Part) (id : Fin 64) : Part :=
  ({ p with ord := { p.ord with items := p.ord.items.set id none } }).setIntake id none

/-- The checks and effect of ORDER_RELEASE (R84). -/
def Part.orderRelease (p : Part) (args : List Byte) : Served :=
  match p.liveOrder (u16 args 0) with
  | none => .refuse p .badArgument
  | some (k, o) =>
    if o.state == .closed then
      let q := o.items.foldl Part.freeItemEntry p
      .done { q with ord := { q.ord with orders := q.ord.orders.set k none } } (p.orderRecord o)
    else .refuse p .wrongState

/-- ORDER_RELEASE (R84). -/
def execOrderRelease (s : State) : Host.Outcome State Fault Refusal :=
  s.answer fun p => p.serve 0x35 (exactly 2) admitLive fun p _ args => p.orderRelease args

end Sys2Proof.Machine
end

