-- ==== Sys2Proof/Machine/Cash.lean ====
section
/-! DEFINITION. Cash intake: pulses, trains and postings (R108 to R115), focus (R116), CHANNEL_RESET (R118), the pool and
the tally (R119 to R124). -/

namespace Sys2Proof.Machine

/-! ### Posting -/

/-- OPEN or COMMITTED. -/
def Order.taking (o : Order) : Bool := o.state == .opened || o.state == .committed

/-- The order a posting goes to (R114): the focus order, OPEN or COMMITTED, with due above 0. -/
def Part.payee (p : Part) : Option (Fin 32) :=
  match p.focusIdx with
  | some k =>
    match p.ord.orders[k] with
    | some o => if o.taking && decide (0 < o.due) then some k else none
    | none => none
  | none => none

/-- A channel becomes JAMMED (R109, R115). -/
def Part.jamChannel (p : Part) (c : Fin 6) : Part :=
  (p.modChan c fun ch => { ch with jammed := true }).capture .channelJam

/-- Cash credited to an order and the steps that follow it (R93): the ORDER_FUNDED check and a release walk. -/
def Part.creditOrder (p : Part) (k : Fin 32) (amount : Nat) : Part :=
  let before := p.orderFunded k
  ((p.modOrder k fun o => { o with cashIn := o.cashIn + amount }).fundedCheck k before).walk

/-- A posting of one amount from one channel (R114, R115). A posting of 0 changes no amount and causes no walk. -/
def Part.post (p : Part) (c : Fin 6) (amount : Nat) : Part :=
  if Config.tallyTop < p.pay.counted + amount then p.jamChannel c
  else
    match p.payee with
    | some k =>
      let p := { p with pay := { p.pay with counted := p.pay.counted + amount } }.capture .credit
      if amount = 0 then p else p.creditOrder k amount
    | none =>
      { p with pay := { p.pay with counted := p.pay.counted + amount, pool := p.pay.pool + amount } }.capture .poolCredit

/-- The open train of a channel ends and posts (R112). -/
def Part.endTrain (p : Part) (c : Fin 6) : Part :=
  match p.pay.chans[c].train with
  | some t => (p.modChan c fun ch => { ch with train := none }).post c (t.n * t.value)
  | none => p

/-- An open train whose gap timer has reached the train gap by the part's time base has ended (R112). -/
def Part.endDueTrain (p : Part) (c : Fin 6) : Part :=
  match p.pay.chans[c].train with
  | some { gapSince := some t, .. } => if t + p.pay.table[c].gap ≤ p.now then p.endTrain c else p
  | _ => p

/-- A pulse jams its channel (R109, R113): an open train posts first, and the pulse is marked as the one that jammed, so that
its end captures nothing (R110). That it is marked also when the refusal of the train's posting has already jammed the channel
is a DESIGN CHOICE (log entry 41). -/
def Part.jamByPulse (p : Part) (c : Fin 6) : Part :=
  ((p.endTrain c).modChan c fun ch =>
    { ch with pulse := ch.pulse.map fun u => { u with jammer := true } }).jamChannel c

/-! ### Pulses -/

/-- The level of a pulse line. -/
def Part.setPulsePin (p : Part) (c : Fin 6) (on : Bool) : Part :=
  { p with pins := { p.pins with pulse := p.pins.pulse.set c on } }

/-- A pulse begins at the time of the part's time base, and the gap timer of an open train stops (R108). -/
def Part.pulseBegins (p : Part) (c : Fin 6) : Part :=
  p.modChan c fun ch =>
    { ch with
      pulse := some { since := p.now, jammer := false }
      train := ch.train.map fun t => { t with gapSince := none } }

/-- A pulse line asserts. A train whose gap has been reached by then has ended before the pulse begins (R112); that this is so
also at the very millisecond in which the gap is reached is a DESIGN CHOICE (log entry 46). -/
def Part.pulseRises (p : Part) (c : Fin 6) (ms : Nat) : Part :=
  if p.pins.pulse[c] then p
  else
    let p := (p.advance ms).setPulsePin c true
    if p.inReset then p else (p.endDueTrain c).pulseBegins c

/-- PULSE_ASSERT (R108). -/
def execPulseAssert (c : Fin 6) (ms : Nat) (s : State) : Host.Outcome State Fault Refusal :=
  .next { s with toPart := s.toPart.pulseRises c ms }

/-- A valid bill pulse (R112): it opens a train or adds to it, and the hundredth pulse ends it. -/
def Part.billPulse (p : Part) (c : Fin 6) (value : Nat) : Part :=
  match p.pay.chans[c].train with
  | none =>
    p.modChan c fun ch => { ch with train := some { n := 1, value := value, gapSince := some p.now } }
  | some t =>
    let p := p.modChan c fun ch => { ch with train := some { t with n := t.n + 1 } }
    if Config.trainTop ≤ t.n + 1 then p.endTrain c else p

/-- A valid pulse (R109, R111, R112): the credit, and then the wake request of the pulse source (R26, R29). -/
def Part.validPulse (p : Part) (c : Fin 6) : Part :=
  let e := p.pay.table[c]
  let p := match e.group with
    | .coin => p.post c e.value
    | .bill => p.billPulse c e.value
  p.raiseWake .pulse

/-- The end of a pulse of width `w` on a channel (R109, R110). A pulse beyond the max width has jammed first (log entry
29). -/
def Part.classify (p : Part) (c : Fin 6) (w : Nat) (jammer : Bool) : Part :=
  let e := p.pay.table[c]
  if e.enabled && !p.pay.chans[c].jammed then
    if e.maxWidth < w then (p.endTrain c).jamChannel c
    else if w < e.minWidth then p.capture .noisePulse
    else p.validPulse c
  else if jammer then p
  else p.capture .uncountedPulse

/-- A pulse is over: it becomes absent and the gap timer of an open train starts from zero (R108). -/
def Part.pulseOver (p : Part) (c : Fin 6) : Part :=
  p.modChan c fun ch =>
    { ch with pulse := none, train := ch.train.map fun t => { t with gapSince := some p.now } }

/-- A pulse line deasserts. -/
def Part.pulseFalls (p : Part) (c : Fin 6) (ms : Nat) : Part :=
  if p.pins.pulse[c] then
    let p := (p.advance ms).setPulsePin c false
    if p.inReset then p
    else
      match p.pay.chans[c].pulse with
      | some u => (p.pulseOver c).classify c (p.now - u.since) u.jammer
      | none => p
  else p

/-- PULSE_END (R109). -/
def execPulseEnd (c : Fin 6) (ms : Nat) (s : State) : Host.Outcome State Fault Refusal :=
  .next { s with toPart := s.toPart.pulseFalls c ms }

/-- A pulse has lasted max width + 1 ms (R109). -/
def Part.pulseJams (p : Part) (c : Fin 6) : Part :=
  let e := p.pay.table[c]
  match e.enabled && !p.pay.chans[c].jammed, p.pay.chans[c].pulse with
  | true, some u => (p.advance (u.since + e.maxWidth + 1)).jamByPulse c
  | _, _ => p

/-- PULSE_JAM (R109). -/
def execPulseJam (c : Fin 6) (s : State) : Host.Outcome State Fault Refusal :=
  s.answer fun p => p.pulseJams c

/-- The gap timer of an open train reaches the train gap (R112). -/
def Part.gapExpires (p : Part) (c : Fin 6) : Part :=
  match p.pay.chans[c].train with
  | some { gapSince := some t, .. } => (p.advance (t + p.pay.table[c].gap)).endTrain c
  | _ => p

/-- TRAIN_GAP_EXPIRY (R112). -/
def execTrainGapExpiry (c : Fin 6) (s : State) : Host.Outcome State Fault Refusal :=
  s.answer fun p => p.gapExpires c

/-- What is due on a channel by the part's time base and the entry in force has happened (R109, R112): a pulse past its jam
point has jammed, and a train past its gap has ended. The commands that carry a time call it for the channels that they name,
a TABLE_WRITE before and after the entry changes. That what is due in the very millisecond of the command comes before the
command's own effect (log entry 46), and that a pulse past the jam point jams at the write also when the write enables its
channel (R110, log entry 37), are DESIGN CHOICES. -/
def Part.channelDue (p : Part) (c : Fin 6) : Part :=
  let e := p.pay.table[c]
  let p := match e.enabled && !p.pay.chans[c].jammed, p.pay.chans[c].pulse with
    | true, some u => if u.since + e.maxWidth < p.now then p.jamByPulse c else p
    | _, _ => p
  p.endDueTrain c

/-! ### Focus -/

/-- The focus changes (R116). -/
def Part.setFocus (p : Part) (f : Option Nat) : Part := { p with pay := { p.pay with focus := f } }

/-- The checks and effect of FOCUS_SET (R116). -/
def Part.focusSet (p : Part) (args : List Byte) : Served :=
  match p.liveOrder (u16 args 0) with
  | none => .refuse p .badArgument
  | some (_, o) =>
    if o.taking then .done (p.setFocus (some o.number)) (optOrder p.pay.focus) else .refuse p .wrongState

/-- FOCUS_SET (R116). -/
def execFocusSet (s : State) : Host.Outcome State Fault Refusal :=
  s.answer fun p => p.serve 0x40 (exactly 2) admitLive fun p _ args => p.focusSet args

/-- FOCUS_CLEAR (R116). -/
def execFocusClear (s : State) : Host.Outcome State Fault Refusal :=
  s.answer fun p => p.serve 0x41 (exactly 0) admitLive fun p _ _ => .done (p.setFocus none) (optOrder p.pay.focus)

/-! ### Clearing a jam -/

/-- A JAMMED channel becomes NORMAL; a line still asserted begins a pulse at that moment (R118). -/
def Part.unjam (p : Part) (c : Fin 6) : Part :=
  let p := p.modChan c fun ch => { ch with jammed := false }
  if p.pins.pulse[c] then p.pulseBegins c else p

/-- The checks and effect of CHANNEL_RESET (R118), once what is due on the channel by then has happened (R109, R112). On a
channel that is NORMAL even so the request changes nothing, and what is due is left to PULSE_JAM and TRAIN_GAP_EXPIRY. -/
def Part.channelReset (p : Part) (ms : Nat) (args : List Byte) : Served :=
  match channelArg (u8 args 0) with
  | none => .refuse p .badArgument
  | some c =>
    let q := (p.advance ms).channelDue c
    if q.pay.chans[c].jammed then .done (q.unjam c) [] else .refuse p .wrongState

/-- CHANNEL_RESET (R118). -/
def execChannelReset (ms : Nat) (s : State) : Host.Outcome State Fault Refusal :=
  s.answer fun p => p.serve 0x42 (exactly 1) admitAll fun p _ args => p.channelReset ms args

/-! ### Pool and tally -/

/-- The checks and effect of POOL_APPLY (R121). -/
def Part.poolApply (p : Part) (args : List Byte) : Served :=
  let amount := u32 args 4
  match p.liveOrder (u16 args 0) with
  | none => .refuse p .badArgument
  | some (k, o) =>
    if !o.taking then .refuse p .wrongState
    else if amount = 0 ∨ p.pay.pool < amount then .refuse p .badArgument
    else if Config.moneyTop < o.cashIn + amount then .refuse p .badArgument
    else
      let p' := { p with pay := { p.pay with pool := p.pay.pool - amount } }
      .done (p'.creditOrder k amount) (le4 (o.cashIn + amount) ++ le4 (p.pay.pool - amount))

/-- POOL_APPLY (R121). -/
def execPoolApply (s : State) : Host.Outcome State Fault Refusal :=
  s.answer fun p => p.serve 0x43 (exactly 8) admitLive fun p _ args => p.poolApply args

/-- The three tally fields as a result (R122, R123). -/
def Payment.tally (y : Payment) : List Byte := le4 y.counted ++ le4 y.kept ++ le4 y.pool

/-- The check and effect of POOL_PAYOUT (R122). -/
def Part.poolPayout (p : Part) (args : List Byte) : Served :=
  let amount := u32 args 0
  if amount = 0 ∨ p.pay.pool < amount then .refuse p .badArgument
  else
    let y := { p.pay with counted := p.pay.counted - amount, pool := p.pay.pool - amount }
    .done { p with pay := y } y.tally

/-- POOL_PAYOUT (R122). -/
def execPoolPayout (s : State) : Host.Outcome State Fault Refusal :=
  s.answer fun p => p.serve 0x44 (exactly 4) admitAll fun p _ args => p.poolPayout args

/-- A channel in the TALLY_READ result (R123): its state and the pulse count of its open train. -/
def Channel.summary (ch : Channel) : List Byte := [flagByte ch.jammed, optByte (ch.train.map (·.n))]

/-- The TALLY_READ result (R123). -/
def Part.tallyResult (p : Part) : List Byte :=
  p.pay.tally ++ optOrder p.pay.focus ++ p.pay.chans.toList.flatMap Channel.summary
    ++ [flagByte (p.inhibit .coin), flagByte (p.inhibit .bill)]

/-- TALLY_READ (R123). -/
def execTallyRead (s : State) : Host.Outcome State Fault Refusal :=
  s.answer fun p => p.serve 0x45 (exactly 0) admitAll fun p _ _ => .done p p.tallyResult

/-- The effect of TALLY_CLEAR (R124). -/
def Part.tallyClear (p : Part) : Served :=
  .done { p with pay := { p.pay with counted := p.pay.counted - p.pay.kept, kept := 0 } } (le4 p.pay.kept)

/-- TALLY_CLEAR (R124). -/
def execTallyClear (s : State) : Host.Outcome State Fault Refusal :=
  s.answer fun p => p.serve 0x46 (exactly 0) admitAll fun p _ _ => p.tallyClear

end Sys2Proof.Machine
end

