-- ==== Sys2Proof/Machine/Cashless.lean ====
section
/-! DEFINITION. The cashless line: CARD_AUTHORIZE (R130), the receiver (R127), the four answers of the terminal and the
timeouts (R131 to R136). -/

namespace Sys2Proof.Machine

/-! ### CARD_AUTHORIZE -/

/-- Change the cashless record of an order. -/
def Part.modCashless (p : Part) (k : Fin 32) (f : Cashless → Cashless) : Part :=
  p.modOrder k fun o => { o with cashless := f o.cashless }

/-- The effect of CARD_AUTHORIZE (R130): the record becomes PENDING and an AUTHORIZE joins the queue. -/
def Part.authorize (p : Part) (k : Fin 32) (number amount : Nat) : Part :=
  (p.modCashless k fun c =>
    { c with state := .pending, requested := amount, approved := 0, reason := none }).joinOp
      { kind := .authorize, ref := number, amount := amount }

/-- The checks of CARD_AUTHORIZE in order (R130). -/
def Part.cardAuthorize (p : Part) (args : List Byte) : Served :=
  let amount := u32 args 4
  match p.liveOrder (u16 args 0) with
  | none => .refuse p .badArgument
  | some (k, o) =>
    if !o.taking || !(o.cashless.state == .none || o.cashless.state == .declined) then .refuse p .wrongState
    else if amount = 0 ∨ o.due < amount then .refuse p .badArgument
    else if Config.cashlessRoom ≤ p.clc.queue.length then .refuse p .noRoom
    else
      .done (p.authorize k o.number amount)
        [byte (p.clc.queue.length + if p.clc.outstanding.isSome then 1 else 0)]

/-- CARD_AUTHORIZE (R130). -/
def execCardAuthorize (s : State) : Host.Outcome State Fault Refusal :=
  s.answer fun p => p.serve 0x48 (exactly 8) admitLive fun p _ args => p.cardAuthorize args

/-! ### The line -/

/-- The last byte of the outstanding operation's message has left: its timer starts (R126, R129). The message is always that
of the operation now outstanding, a DESIGN CHOICE (log entry 42). -/
def Part.messageSent (p : Part) : Part :=
  { p with clc := { p.clc with
      outstanding := p.clc.outstanding.map fun x =>
        match x.timer with
        | none => { x with timer := some x.op.limit }
        | some _ => x } }

/-- CASHLESS_MESSAGE_SENT (R126). -/
def execCashlessMessageSent (s : State) : Host.Outcome State Fault Refusal :=
  s.answer Part.messageSent

/-- The receiver is set. -/
def Part.setRx (p : Part) (r : Receiver) : Part := { p with clc := { p.clc with rx := r } }

/-- One byte of a message taken by the receiver, short of the check byte (R127). -/
def Receiver.take (r : Receiver) (b : Byte) : Receiver :=
  let gap : Timer := some Config.cashlessGap
  match r.state with
  | .hunt => if b = 0xA5 then { state := .header, bytes := [], gap := gap } else r
  | .header =>
    match r.bytes with
    | [] => { state := .header, bytes := [b], gap := gap }
    | type :: _ => { state := if b = 0 then .sum else .body, bytes := [type, b], gap := gap }
  | .body =>
    let bytes := r.bytes ++ [b]
    { state := if bytes.length = 2 + u8 bytes 1 then .sum else .body, bytes := bytes, gap := gap }
  | .sum => r

/-- CASHLESS_BYTE_RECEIVED (R127). -/
def execCashlessByteReceived (b : Byte) (s : State) : Host.Outcome State Fault Refusal :=
  s.answer fun p => p.setRx (p.clc.rx.take b)

/-- CASHLESS_GAP_EXPIRY (R127): the message in progress is discarded. -/
def execCashlessGapExpiry (s : State) : Host.Outcome State Fault Refusal :=
  s.answer fun p => if p.clc.rx.gap.isSome then p.setRx Receiver.hunt else p

/-- CASHLESS_STOP_BIT_ERROR (R127): the message in progress is discarded. -/
def execCashlessStopBitError (s : State) : Host.Outcome State Fault Refusal :=
  s.answer fun p => p.setRx Receiver.hunt

/-- The message is whole with the check byte `b`, and its sum is right or wrong as `good` says (R127). -/
def Receiver.ends (r : Receiver) (b : Byte) (good : Bool) : Bool :=
  r.state == .sum && (b == sum8 r.bytes) == good

/-- CASHLESS_CHECK_DISCARD (R127). -/
def execCashlessCheckDiscard (b : Byte) (s : State) : Host.Outcome State Fault Refusal :=
  s.answer fun p => if p.clc.rx.ends b false then p.setRx Receiver.hunt else p

/-- The type and body length that 13.5 gives a message of the terminal. -/
def terminalBody : Byte → Option Nat
  | 0x81 => some 6
  | 0x82 => some 3
  | 0x83 | 0x84 => some 2
  | _ => none

/-- A message is taken whole with a correct check byte when it is of the type wanted and of its length (R193). -/
def Receiver.isMessage (r : Receiver) (b : Byte) (type : Byte) : Bool :=
  r.ends b true && r.bytes.head? == some type && terminalBody type == some (u8 r.bytes 1)

/-- The receiver holds a message of no type of the terminal, or of a wrong length (R193). -/
def Receiver.isUnknown (r : Receiver) (b : Byte) : Bool :=
  r.ends b true && terminalBody (r.bytes.getD 0 0) != some (u8 r.bytes 1)

/-- A stray message (R136). -/
def Part.stray (p : Part) : Part := p.capture .strayMessage

/-- UNKNOWN_TERMINAL_MESSAGE (R193). -/
def execUnknownTerminalMessage (b : Byte) (s : State) : Host.Outcome State Fault Refusal :=
  s.answer fun p => if p.clc.rx.isUnknown b then (p.setRx Receiver.hunt).stray else p

/-- The outstanding operation is of a kind and a ref. -/
def Part.waitsFor (p : Part) (kind : OpKind) (ref : Nat) : Bool :=
  match p.clc.outstanding with
  | some x => x.op.kind == kind && x.op.ref == ref
  | none => false

/-! ### The end of an AUTHORIZE -/

/-- An outstanding AUTHORIZE ends without an approval (R132, R133): the cashless state and the reason are recorded,
AUTH_RESULT is captured, and the order is checked for entry to SETTLING. -/
def Part.authEnds (p : Part) (k : Fin 32) (st : CashlessState) (reason : Option Nat) : Part :=
  ((p.endOp.modCashless k fun c => { c with state := st, reason := reason }).capture .authResult).checkSettling k

/-- An outstanding AUTHORIZE is approved (R131, R93, R99). -/
def Part.authApproved (p : Part) (k : Fin 32) (o : Order) (amount : Nat) : Part :=
  let a := min amount o.cashless.requested
  let before := p.orderFunded k
  let p := p.endOp.modOrder k fun o =>
    { o with cardAuth := a, cashless := { o.cashless with state := .approved, approved := a } }
  (((p.capture .authResult).fundedCheck k before).walk).checkSettling k

/-- A late approval (R133). -/
def Part.lateApproval (p : Part) (k : Fin 32) (ref : Nat) : Part :=
  let seen (p : Part) : Part := p.modCashless k fun c => { c with lateSeen := true }
  let p := p.capture .lateApproval
  if p.clc.queue.length < Config.cashlessRoom then
    (seen p).joinOp { kind := .lateRelease, ref := ref, amount := 0 }
  else if p.clc.late.length < Config.cashlessRoom then
    seen { p with clc := { p.clc with late := p.clc.late ++ [ref] } }
  else p.stray

/-- An APPROVED taken whole (R131, R133, R136). -/
def Part.takeApproved (p : Part) (ref amount : Nat) : Part :=
  match p.liveOrder ref with
  | none => p.stray
  | some (k, o) =>
    match o.cashless.state with
    | .pending =>
      if p.waitsFor .authorize ref then
        if amount = 0 then p.authEnds k .declined none else p.authApproved k o amount
      else p.stray
    | .timedOut => if o.cashless.lateSeen then p.stray else p.lateApproval k ref
    | .none | .approved | .declined | .capturing | .captured | .releasing | .released | .unconfirmed => p.stray

/-- APPROVED (R131). -/
def execApproved (b : Byte) (s : State) : Host.Outcome State Fault Refusal :=
  s.answer fun p =>
    if p.clc.rx.isMessage b 0x81 then
      (p.setRx Receiver.hunt).takeApproved (u16 p.clc.rx.bytes 2) (u32 p.clc.rx.bytes 4)
    else p

/-- A DECLINED taken whole (R132, R133, R136). -/
def Part.takeDeclined (p : Part) (ref reason : Nat) : Part :=
  match p.liveOrder ref with
  | none => p.stray
  | some (k, o) =>
    match o.cashless.state with
    | .pending => if p.waitsFor .authorize ref then p.authEnds k .declined (some reason) else p.stray
    | .timedOut => p
    | .none | .approved | .declined | .capturing | .captured | .releasing | .released | .unconfirmed => p.stray

/-- DECLINED (R132). -/
def execDeclined (b : Byte) (s : State) : Host.Outcome State Fault Refusal :=
  s.answer fun p =>
    if p.clc.rx.isMessage b 0x82 then
      (p.setRx Receiver.hunt).takeDeclined (u16 p.clc.rx.bytes 2) (u8 p.clc.rx.bytes 4)
    else p

/-! ### The end of a settlement operation -/

/-- A CAPTURE or RELEASE ends (R134): its state and capture kind are recorded and ORD closes the order. -/
def Part.settlementEnds (p : Part) (ref : Nat) (st : CashlessState) (kind : CaptureKind) (captured : Order → Option Nat) :
    Part :=
  let p := p.endOp
  match p.liveOrder ref with
  | some (k, o) => ((p.modCashless k fun c => { c with state := st }).capture kind).closeOrder k (captured o)
  | none => p.capture kind

/-- A CAPTURED taken whole (R134 to R136). -/
def Part.takeCaptured (p : Part) (ref : Nat) : Part :=
  if p.waitsFor .lateRelease ref then p.endOp
  else if p.waitsFor .capture ref then p.settlementEnds ref .captured .cashlessDone fun o => some o.cardNeed
  else p.stray

/-- CAPTURED (R134). -/
def execCaptured (b : Byte) (s : State) : Host.Outcome State Fault Refusal :=
  s.answer fun p =>
    if p.clc.rx.isMessage b 0x83 then (p.setRx Receiver.hunt).takeCaptured (u16 p.clc.rx.bytes 2) else p

/-- A RELEASED taken whole (R134 to R136). -/
def Part.takeReleased (p : Part) (ref : Nat) : Part :=
  if p.waitsFor .lateRelease ref then p.endOp
  else if p.waitsFor .release ref then p.settlementEnds ref .released .cashlessDone fun _ => some 0
  else p.stray

/-- RELEASED (R134). -/
def execReleased (b : Byte) (s : State) : Host.Outcome State Fault Refusal :=
  s.answer fun p =>
    if p.clc.rx.isMessage b 0x84 then (p.setRx Receiver.hunt).takeReleased (u16 p.clc.rx.bytes 2) else p

/-! ### Timeouts -/

/-- The outstanding operation, when its timer runs. -/
def Part.timedOp (p : Part) : Option CashlessOp :=
  match p.clc.outstanding with
  | some { op := op, timer := some _ } => some op
  | _ => none

/-- An outstanding AUTHORIZE times out (R133): the record of its order is PENDING for as long as it is outstanding (R130). -/
def Part.authTimesOut (p : Part) (ref : Nat) : Part :=
  match p.liveOrder ref with
  | some (k, o) => if o.cashless.state == .pending then p.authEnds k .timedOut o.cashless.reason else p.endOp
  | none => p.endOp

/-- AUTHORIZE_TIMEOUT (R133). -/
def execAuthorizeTimeout (s : State) : Host.Outcome State Fault Refusal :=
  s.answer fun p =>
    match p.timedOp with
    | some { kind := .authorize, ref := ref, .. } => p.authTimesOut ref
    | _ => p

/-- SETTLEMENT_OP_TIMEOUT (R134). -/
def execSettlementOpTimeout (s : State) : Host.Outcome State Fault Refusal :=
  s.answer fun p =>
    match p.timedOp with
    | some { kind := .capture, ref := ref, .. } | some { kind := .release, ref := ref, .. } =>
      p.settlementEnds ref .unconfirmed .cashlessUnconfirmed fun _ => none
    | _ => p

/-- LATE_RELEASE_TIMEOUT (R135). -/
def execLateReleaseTimeout (s : State) : Host.Outcome State Fault Refusal :=
  s.answer fun p =>
    match p.timedOp with
    | some { kind := .lateRelease, .. } => p.endOp.capture .cashlessUnconfirmed
    | _ => p

end Sys2Proof.Machine
end

