-- ==== Sys2Proof/Machine/Engines.lean ====
section
/-! DEFINITION. Print engines: the four engine requests (R174 to R177), the mechanism's reports and its 5 s limit (R165,
R167, R168, R170, R178), sensors and thermistor (R165, R168), and the strobe passes (R188). -/

namespace Sys2Proof.Machine

/-! ### Requests -/

/-- An engine request's REPLY: the engine's state after it (11.6), and what else its rule gives. -/
def Served.engineDone (p : Part) (e : EngineId) (more : List Byte) : Served := .done p ((p.eng e).state.code :: more)

/-- A refused engine request: its REPLY carries the state (11.6), and that of MEDIA_SET no media record, a DESIGN CHOICE
(log entry 39). -/
def Served.engineRefuse (p : Part) (e : EngineId) (st : Status) : Served :=
  { Served.refuse p st with result := [(p.eng e).state.code] }

/-- The checks and effect of ENGINE_ONLINE (R174). -/
def Part.engineOnline (p : Part) (args : List Byte) : Served :=
  match engineArg (u8 args 0) with
  | none => .refuse p .badArgument
  | some e =>
    match (p.eng e).state with
    | .absent => .engineRefuse p e .wrongState
    | .offline => .engineDone (p.enterIdle e).1.walk e []
    | .idle | .loading | .panel | .heatHold | .ejecting | .needsMedia | .fault =>
      if (p.eng e).offlinePending then
        .engineDone (p.modEng e fun en => { en with offlinePending := false }).walk e []
      else .engineRefuse p e .wrongState

/-- ENGINE_ONLINE (R174). -/
def execEngineOnline (s : State) : Host.Outcome State Fault Refusal :=
  s.answer fun p => p.serve 0x60 (exactly 1) admitAll fun p _ args => p.engineOnline args

/-- The checks and effect of ENGINE_OFFLINE (R175). -/
def Part.engineOffline (p : Part) (args : List Byte) : Served :=
  match engineArg (u8 args 0) with
  | none => .refuse p .badArgument
  | some e =>
    match (p.eng e).state with
    | .absent => .engineRefuse p e .wrongState
    | .offline => .engineDone p e []
    | .idle | .needsMedia => .engineDone (p.modEng e fun en => { en with state := .offline }) e []
    | .loading | .panel | .heatHold | .ejecting | .fault =>
      .engineDone (p.modEng e fun en => { en with offlinePending := true }) e []

/-- ENGINE_OFFLINE (R175). -/
def execEngineOffline (s : State) : Host.Outcome State Fault Refusal :=
  s.answer fun p => p.serve 0x61 (exactly 1) admitAll fun p _ args => p.engineOffline args

/-- The media record takes a kind and a count; out of NEEDS_MEDIA the engine goes on (R176). -/
def Part.loadMedia (p : Part) (e : EngineId) (kind count : Nat) : Part :=
  let was := (p.eng e).state
  let p := p.modEng e fun en => { en with mediaKind := kind, prints := count }
  if was == .needsMedia then (p.afterEject e).1 else p

/-- The checks and effect of MEDIA_SET (R176). -/
def Part.mediaSet (p : Part) (args : List Byte) : Served :=
  let kind := u8 args 1
  let count := u16 args 2
  match engineArg (u8 args 0) with
  | none => .refuse p .badArgument
  | some e =>
    let en := p.eng e
    if 15 < kind ∨ 1000 < count then .engineRefuse p e .badArgument
    else if en.state.printing then .engineRefuse p e .busy
    else if en.state == .absent then .engineRefuse p e .wrongState
    else if kind ≠ en.mediaKind ∧ ¬ en.queue.isEmpty then .engineRefuse p e .wrongState
    else .engineDone (p.loadMedia e kind count).walk e (byte en.mediaKind :: le2 en.prints)

/-- MEDIA_SET (R176). -/
def execMediaSet (s : State) : Host.Outcome State Fault Refusal :=
  s.answer fun p => p.serve 0x63 (exactly 4) admitAll fun p _ args => p.mediaSet args

/-- The first check of ENGINE_CLEAR that fails, by its place in the list of R177. -/
def Part.clearCheck (p : Part) (e : EngineId) : Option Nat :=
  let s := p.sensors e
  let en := p.eng e
  if s.paperJam then some 0
  else if s.ribbonBreak then some 1
  else if s.doorOpen then some 2
  else if s.media.val ≠ en.mediaKind then some 3
  else if (en.params.stop : Int) ≤ en.temperature then some 4
  else none

/-- A FAULT engine is cleared (R177): OFFLINE when offline pending is set, and IDLE with a walk otherwise. -/
def Part.clearFault (p : Part) (e : EngineId) : Part :=
  let pending := (p.eng e).offlinePending
  let q := ((p.modEng e fun en => { en with fault := none }).afterEject e).1
  if pending then q else q.walk

/-- The checks and effect of ENGINE_CLEAR (R177). -/
def Part.engineClear (p : Part) (args : List Byte) : Served :=
  match engineArg (u8 args 0) with
  | none => .refuse p .badArgument
  | some e =>
    if (p.eng e).state == .fault then
      match p.clearCheck e with
      | some k => { Served.refuse p .wrongState with result := [EngineState.fault.code, byte k] }
      | none => .engineDone (p.clearFault e) e []
    else .engineRefuse p e .wrongState

/-- ENGINE_CLEAR (R177). -/
def execEngineClear (s : State) : Host.Outcome State Fault Refusal :=
  s.answer fun p => p.serve 0x62 (exactly 1) admitAll fun p _ args => p.engineClear args

/-! ### The mechanism -/

/-- DRAW_COMPLETE (R167): panel Y starts. -/
def execDrawComplete (e : EngineId) (s : State) : Host.Outcome State Fault Refusal :=
  s.answer fun p => if (p.eng e).motion == some .draw then p.panelStart e .Y else p

/-- A panel's motion is complete and its sample is taken (R168): PANEL at line 0, or HEAT_HOLD at or above the hold
limit. -/
def Part.panelReady (p : Part) (e : EngineId) (panel : Panel) (panelTemp lineTemp : Int) : Part :=
  let p := p.modEng e fun en => { en with temperature := panelTemp }
  if panelTemp < (p.eng e).params.hold then (p.enterPanel e panel).lineStart e lineTemp
  else
    (p.modEng e fun en =>
      { en with state := .heatHold, panel := some panel, line := none, motion := none }).capture .heatHold

/-- PANEL_MOTION_COMPLETE (R168). -/
def execPanelMotionComplete (e : EngineId) (panelTemp lineTemp : Int) (s : State) : Host.Outcome State Fault Refusal :=
  s.answer fun p =>
    match (p.eng e).motion with
    | some (.panelStart panel) => p.panelReady e panel panelTemp lineTemp
    | _ => p

/-- MOTION_TIMEOUT (R165): a motion not complete within 5 s is a PAPER_JAM. -/
def execMotionTimeout (e : EngineId) (s : State) : Host.Outcome State Fault Refusal :=
  s.answer fun p => if (p.eng e).motion.isSome then p.faultPrinting e .paperJam else p

/-- The head item of an engine's queue has had a copy ejected (R89, R170). -/
def Part.copyEjected (p : Part) (e : EngineId) (head : Fin 64) : Part :=
  let p := p.modItem head fun it => { it with copiesDone := it.copiesDone + 1 }
  match p.ord.items[head] with
  | some it =>
    if it.copiesDone = it.copies then
      let p := p.modItem head fun it => { it with state := .done, engine := none }
      let p := p.modEng e fun en => { en with queue := en.queue.drop 1 }
      let p := ((p.clearHolder head).capture .itemDone).checkItemOrder head
      (p.afterEject e).1.walk
    else Part.walkIf (p.afterEject e)
  | none => p

/-- EJECT_COMPLETE (R170). -/
def execEjectComplete (e : EngineId) (s : State) : Host.Outcome State Fault Refusal :=
  s.answer fun p =>
    match (p.eng e).motion, (p.eng e).queue with
    | some .eject, head :: _ => p.copyEjected e head
    | _, _ => p

/-- ABORT_EJECT_COMPLETE (R178). -/
def execAbortEjectComplete (e : EngineId) (s : State) : Host.Outcome State Fault Refusal :=
  s.answer fun p => if (p.eng e).motion == some .abortEject then Part.walkIf (p.afterEject e) else p

/-! ### Sensors and thermistor -/

/-- The sensor inputs after a change, and the condition that it begins to report. -/
def Sensors.update (s : Sensors) : SensorReport → Sensors × Option FaultKind
  | .paperJam on => ({ s with paperJam := on }, if on then some .paperJam else none)
  | .ribbonBreak on => ({ s with ribbonBreak := on }, if on then some .ribbonBreak else none)
  | .doorOpen on => ({ s with doorOpen := on }, if on then some .doorOpen else none)
  | .media kind => ({ s with media := kind }, none)

/-- The sensor inputs of an engine change. -/
def Part.setSensors (p : Part) (e : EngineId) (x : Sensors) : Part :=
  match e with
  | .A => { p with pins := { p.pins with sensorsA := x } }
  | .B => { p with pins := { p.pins with sensorsB := x } }

/-- The engine acts on a jam, break or open door: in IDLE and the printing states, outside PARKED and WAKING (R165,
R179). -/
def Part.actsOnSensors (p : Part) (e : EngineId) : Bool :=
  !p.svc.mode.dark && ((p.eng e).state == .idle || (p.eng e).state.printing)

/-- A sensor input changes (R165, R171, log entry 11). -/
def Part.sensorChange (p : Part) (e : EngineId) (r : SensorReport) : Part :=
  let x := (p.sensors e).update r
  let p := p.setSensors e x.1
  match p.inReset, x.2 with
  | false, some k => if p.actsOnSensors e then p.faultPrinting e k else p
  | _, _ => p

/-- SENSOR_FAULT_CONDITION (R171). -/
def execSensorFaultCondition (e : EngineId) (r : SensorReport) (s : State) : Host.Outcome State Fault Refusal :=
  .next { s with toPart := s.toPart.sensorChange e r }

/-- The 100 ms sample outside PANEL (R165), which may end a heat hold (R168). -/
def Part.sample (p : Part) (e : EngineId) (t : Int) : Part :=
  match (p.eng e).state with
  | .absent | .panel => p
  | .offline | .idle | .loading | .ejecting | .needsMedia | .fault => p.modEng e fun en => { en with temperature := t }
  | .heatHold =>
    let p := p.modEng e fun en => { en with temperature := t }
    match (p.eng e).panel with
    | some panel => if t ≤ (p.eng e).params.hold - 3 then (p.enterPanel e panel).lineStart e t else p
    | none => p

/-- THERMISTOR_SAMPLE (R165). -/
def execThermistorSample (e : EngineId) (t : Int) (s : State) : Host.Outcome State Fault Refusal :=
  s.answer fun p => p.sample e t

/-! ### Strobing -/

/-- The panel after a panel (R168). -/
def Panel.next : Panel → Option Panel
  | .Y => some .M
  | .M => some .C
  | .C => some .F
  | .F => none

/-- The length of the item at the head of an engine's queue. -/
def Part.headLength (p : Part) (e : EngineId) : Nat :=
  match (p.eng e).queue with
  | head :: _ => (p.ord.items[head].map (·.length)).getD 0
  | [] => 0

/-- A line has been strobed (R169, R188): the next line, the next panel, or the eject. -/
def Part.lineStrobed (p : Part) (e : EngineId) (panel : Panel) (line : Nat) (t : Int) : Part :=
  if line + 1 < p.headLength e then (p.modEng e fun en => { en with line := some (line + 1) }).lineStart e t
  else
    match panel.next with
    | some next => p.panelStart e next
    | none =>
      p.modEng e fun en => { en with state := .ejecting, panel := none, line := none, motion := some .eject }

/-- A strobe pass has been fired (R188). -/
def Part.passDone (p : Part) (e : EngineId) (t : Int) : Part :=
  let en := p.eng e
  match en.hdu.drive, en.panel, en.line with
  | some d, some panel, some line =>
    if d.fired + 1 < d.groups then
      p.modEng e fun en => { en with hdu := { en.hdu with drive := some { d with fired := d.fired + 1 } } }
    else
      (p.modEng e fun en => { en with hdu := { en.hdu with prev := some d.codes, drive := none } }).lineStrobed e panel
        line t
  | _, _, _ => p

/-- STROBE_PASS_DONE (R188). -/
def execStrobePassDone (e : EngineId) (t : Int) (s : State) : Host.Outcome State Fault Refusal :=
  s.answer fun p => p.passDone e t

end Sys2Proof.Machine
end

