-- ==== Sys2Proof/Machine/Tables.lean ====
section
/-! DEFINITION. The loadable tables in their link layouts (13.4), TABLE_WRITE and TABLE_READ (R13, R14, R192), and the sum
of GO_LIVE (R20). -/

namespace Sys2Proof.Machine

/-- A table and its instance (R13, 13.4). -/
inductive TableId where
  | product
  | priceKey
  | tone (k : Fin 4)
  | energy (e : EngineId)
  | params (e : EngineId)
  | channels
  | slotParams
  deriving DecidableEq, Repr

/-- The table that a table byte and an instance byte name (13.4). -/
def tableArg (id instIdx : Nat) : Option TableId :=
  match id, instIdx with
  | 0x01, 0 => some .product
  | 0x02, 0 => some .priceKey
  | 0x03, k => (slotArg k).map .tone
  | 0x04, e => (engineArg e).map .energy
  | 0x05, e => (engineArg e).map .params
  | 0x06, 0 => some .channels
  | 0x07, 0 => some .slotParams
  | _, _ => none

/-- Number of entries (13.4). -/
def TableId.entries : TableId → Nat
  | .product => 32
  | .priceKey | .params _ | .slotParams => 1
  | .tone _ => 777
  | .energy _ => 1024
  | .channels => 6

/-- Bytes of one entry (13.4). -/
def TableId.entrySize : TableId → Nat
  | .product => 16
  | .priceKey | .tone _ | .energy _ | .slotParams => 2
  | .params _ | .channels => 10

/-! ### Entries as bytes -/

def ProductRow.bytes (r : ProductRow) : List Byte :=
  [flagByte r.valid, 0] ++ le2 r.p1 ++ le2 r.p2 ++ le2 r.p3
    ++ [byte r.t2, byte r.t3, r.mask, byte r.media, byte r.finish, byte r.tone, 0, 0]

def EngineParams.bytes (q : EngineParams) : List Byte :=
  [byte q.tref, byte q.kT, byte q.kH, 0] ++ le4 q.budget ++ [byte q.hold, byte q.stop]

def Group.code : Group → Byte
  | .coin => 0
  | .bill => 1

def ChannelEntry.bytes (c : ChannelEntry) : List Byte :=
  [flagByte c.enabled, c.group.code] ++ le2 c.value ++ le2 c.minWidth ++ le2 c.maxWidth ++ le2 c.gap

/-- The whole of a table in its link layout (13.4). -/
def Part.tableBytes (p : Part) : TableId → List Byte
  | .product => p.ord.products.toList.flatMap ProductRow.bytes
  | .priceKey => [byte p.ord.priceKey, 0]
  | .tone k => p.rin.tones[k].flatMap le2
  | .energy e => (p.eng e).hdu.energy.flatMap le2
  | .params e => (p.eng e).params.bytes
  | .channels => p.pay.table.toList.flatMap ChannelEntry.bytes
  | .slotParams => le2 p.csu.previewAllowance

/-- Entries `first` to `first + count - 1` of a table. -/
def Part.tableSlice (p : Part) (t : TableId) (first count : Nat) : List Byte :=
  ((p.tableBytes t).drop (first * t.entrySize)).take (count * t.entrySize)

/-! ### Entries from bytes -/

/-- Entry `j` of the bytes of a request. -/
def entryBytes (t : TableId) (bytes : List Byte) (j : Nat) : List Byte := (bytes.drop (j * t.entrySize)).take t.entrySize

def ProductRow.ofBytes (bs : List Byte) : ProductRow :=
  { valid := u8 bs 0 == 1, p1 := u16 bs 2, p2 := u16 bs 4, p3 := u16 bs 6, t2 := u8 bs 8, t3 := u8 bs 9
    mask := bs.getD 10 0, media := u8 bs 11, finish := u8 bs 12, tone := u8 bs 13 }

def EngineParams.ofBytes (bs : List Byte) : EngineParams :=
  { tref := u8 bs 0, kT := u8 bs 1, kH := u8 bs 2, budget := u32 bs 4, hold := u8 bs 8, stop := u8 bs 9 }

def ChannelEntry.ofBytes (bs : List Byte) : ChannelEntry :=
  { enabled := u8 bs 0 == 1, group := if u8 bs 1 = 1 then .bill else .coin, value := u16 bs 2, minWidth := u16 bs 4
    maxWidth := u16 bs 6, gap := u16 bs 8 }

/-! ### The checks of an entry -/

/-- A valid product row passes the tests of R68. -/
def ProductRow.ok (r : ProductRow) : Bool :=
  decide (2 ≤ r.t2) && decide (r.t2 ≤ 100) && decide (r.t2 ≤ r.t3) && decide (r.t3 ≤ 100)
    && (r.mask.getLsbD 0 || r.mask.getLsbD 1) && decide (r.media ≤ 15) && decide (r.tone ≤ 3) && decide (r.finish ≤ 2)

/-- A word of a tone set lies in the range of its index (R145). -/
def toneWordOk (index w : Nat) : Bool :=
  if index < 9 then decide (-512 ≤ signed16 w) && decide (signed16 w ≤ 511) else decide (w ≤ 255)

/-- Engine parameters lie in their ranges (R181). -/
def EngineParams.ok (q : EngineParams) : Bool :=
  decide (q.tref ≤ 60) && decide (q.kT ≤ 31) && decide (1023 ≤ q.budget) && decide (q.budget ≤ 1964160)
    && decide (q.hold ≤ 89) && decide (q.hold < q.stop) && decide (q.stop ≤ 90)

/-- A channel entry passes the tests of R107 and R192. -/
def ChannelEntry.ok (c : ChannelEntry) : Bool :=
  decide (5 ≤ c.minWidth) && decide (c.minWidth ≤ 250) && decide (c.minWidth ≤ c.maxWidth)
    && decide (c.maxWidth ≤ 500) && decide (50 ≤ c.gap) && decide (c.gap ≤ 1000)

/-- The check of the entry at `index` (R68, R69, R145, R180, R181, R107, R48, R192). -/
def TableId.entryOk (t : TableId) (index : Nat) (bs : List Byte) : Bool :=
  match t with
  | .product => decide (u8 bs 0 ≤ 1) && (u8 bs 0 == 0 || (ProductRow.ofBytes bs).ok)
  | .priceKey => decide (u8 bs 0 ≤ 7)
  | .tone _ => toneWordOk index (u16 bs 0)
  | .energy _ => decide (u16 bs 0 ≤ Config.codeTop)
  | .params _ => (EngineParams.ofBytes bs).ok
  | .channels => decide (u8 bs 0 ≤ 1) && decide (u8 bs 1 ≤ 1) && (ChannelEntry.ofBytes bs).ok
  | .slotParams => true

/-- Some item that is DEFINED or RECEIVING names the tone set (R146). -/
def Part.toneInUse (p : Part) (k : Fin 4) : Bool :=
  p.ord.items.toList.any fun it =>
    match it with
    | some it => it.tone == k && (it.state == .defined || it.state == .receiving)
    | none => false

/-- The check of the table as a whole (R146, R182). -/
def Part.tableHeld (p : Part) : TableId → Option Status
  | .tone k => if p.toneInUse k then some .inUse else none
  | .energy e | .params e => if (p.eng e).state.printing then some .busy else none
  | .product | .priceKey | .channels | .slotParams => none

/-! ### Writing -/

/-- Words of a list replaced from `first` on by the entries of a request. -/
def spliceWords (old : List Nat) (first count : Nat) (bytes : List Byte) : List Nat :=
  old.zipIdx.map fun x => if first ≤ x.2 ∧ x.2 < first + count then u16 bytes (2 * (x.2 - first)) else x.1

/-- The named entries are replaced as one change (R13). -/
def Part.storeTable (p : Part) (t : TableId) (first count : Nat) (bytes : List Byte) : Part :=
  match t with
  | .product =>
    { p with ord := { p.ord with
        products := p.ord.products.mapFinIdx fun i r _ =>
          if first ≤ i ∧ i < first + count then ProductRow.ofBytes (entryBytes .product bytes (i - first)) else r } }
  | .priceKey => { p with ord := { p.ord with priceKey := u8 bytes 0 } }
  | .tone k =>
    { p with rin := { p.rin with tones := p.rin.tones.set k (spliceWords p.rin.tones[k] first count bytes) } }
  | .energy e =>
    p.modEng e fun en => { en with hdu := { en.hdu with energy := spliceWords en.hdu.energy first count bytes } }
  | .params e => p.modEng e fun en => { en with params := EngineParams.ofBytes bytes }
  | .channels =>
    { p with pay := { p.pay with
        table := p.pay.table.mapFinIdx fun i c _ =>
          if first ≤ i ∧ i < first + count then ChannelEntry.ofBytes (entryBytes .channels bytes (i - first)) else c } }
  | .slotParams => { p with csu := { p.csu with previewAllowance := u16 bytes 0 } }

/-- The time at which a pulse under way jams its channel, or else the open train ends, by the entry in force (R109, R112). -/
def Part.dueAt (p : Part) (c : Fin 6) : Nat :=
  let e := p.pay.table[c]
  match e.enabled && !p.pay.chans[c].jammed, p.pay.chans[c].pulse, p.pay.chans[c].train with
  | true, some u, _ => u.since + e.maxWidth + 1
  | _, _, some { gapSince := some g, .. } => g + e.gap
  | _, _, _ => 0

/-- A channel inserted into a list in the order in which jams and train ends fall due. -/
def Part.insertByDue (p : Part) (c : Fin 6) : List (Fin 6) → List (Fin 6)
  | [] => [c]
  | d :: ds => if p.dueAt c ≤ p.dueAt d then c :: d :: ds else d :: p.insertByDue c ds

/-- The effect of a TABLE_WRITE that passes its checks (R13). A write of channel entries finds what is due on the named
channels by its time under the entries in force done, in the order in which it fell due, and then acts on pulses and trains by
the new entries (R109, R112). At one moment several channels are taken in ascending order, a DESIGN CHOICE (R114, log entry
38). -/
def Part.writeTable (p : Part) (t : TableId) (ms first count : Nat) (bytes : List Byte) : Part :=
  match t with
  | .channels =>
    let named := (List.finRange 6).filter fun c => first ≤ c.val && c.val < first + count
    let p := (named.foldr p.insertByDue []).foldl Part.channelDue (p.advance ms)
    named.foldl Part.channelDue (p.storeTable t first count bytes)
  | t => p.storeTable t first count bytes

/-- Steps 1 to 3 of R13 for a table, a first index and a count; `bytesOk` is the check of the entry bytes in step 2. -/
def tableRange (args : List Byte) (bytesOk : TableId → Nat → Bool) : Except Status (TableId × Nat × Nat) :=
  let first := u16 args 2
  let count := u16 args 4
  match tableArg (u8 args 0) (u8 args 1) with
  | none => .error .badArgument
  | some t =>
    if count = 0 || !bytesOk t count then .error .badArgument
    else if t.entries < first + count then .error .outOfRange
    else .ok (t, first, count)

/-- Every entry of a request passes its check (R13 step 4). -/
def entriesOk (t : TableId) (first count : Nat) (bytes : List Byte) : Bool :=
  (List.range count).all fun j => t.entryOk (first + j) (entryBytes t bytes j)

/-- The checks and effect of TABLE_WRITE (R13). -/
def Part.tableWrite (p : Part) (ms : Nat) (args : List Byte) : Served :=
  let bytes := args.drop 6
  match tableRange args fun t count => bytes.length == count * t.entrySize with
  | .error st => .refuse p st
  | .ok (t, first, count) =>
    if !entriesOk t first count bytes then .refuse p .badArgument
    else
      match p.tableHeld t with
      | some st => .refuse p st
      | none => .done (p.writeTable t ms first count bytes) (p.tableSlice t first count)

/-- TABLE_WRITE (R13). -/
def execTableWrite (ms : Nat) (s : State) : Host.Outcome State Fault Refusal :=
  s.answer fun p => p.serve 0x01 (fun n => decide (6 ≤ n)) admitAll fun p _ args => p.tableWrite ms args

/-- The checks and result of TABLE_READ (R14). That the fit of the REPLY is checked after the range is a DESIGN CHOICE (log
entry 35). -/
def Part.tableRead (p : Part) (args : List Byte) : Served :=
  match tableRange args fun _ _ => true with
  | .error st => .refuse p st
  | .ok (t, first, count) =>
    if Config.maxPayload < 2 + count * t.entrySize then .refuse p .badArgument
    else .done p (p.tableSlice t first count)

/-- TABLE_READ (R14). -/
def execTableRead (s : State) : Host.Outcome State Fault Refusal :=
  s.answer fun p => p.serve 0x02 (exactly 6) admitAll fun p _ args => p.tableRead args

/-! ### The sum of GO_LIVE -/

/-- The sum of the 16-bit words of a string of bytes, low byte first (R20, R192). -/
def wordSum : List Byte → Nat
  | lo :: hi :: rest => lo.toNat + 256 * hi.toNat + wordSum rest
  | [b] => b.toNat
  | [] => 0

/-- The tables of R20, in table order 0x01 to 0x07 and instance by instance (R192). -/
def goLiveTables : List TableId :=
  [.product, .priceKey, .tone 0, .tone 1, .tone 2, .tone 3, .energy .A, .energy .B, .params .A, .params .B, .channels
    , .slotParams]

/-- The sum that GO_LIVE computes (R20). -/
def Part.tableSum (p : Part) : Nat := (goLiveTables.map fun t => wordSum (p.tableBytes t)).sum % 65536

end Sys2Proof.Machine
end

