-- ==== Sys2Proof/Machine/Link.lean ====
section
/-! DEFINITION. The order link: the receive frame assembler (R3, R4), dispatch (R6, R7, R139), REPLY hand-over (R10),
transmission (R11), and the requests UNKNOWN_REQUEST, STATUS_READ and EVENT_MASK (R8, R16, R17). -/

namespace Sys2Proof.Machine

/-! ### The assembler -/

/-- The assembler is set. -/
def Part.setAsm (p : Part) (a : Assembler) : Part := { p with lnk := { p.lnk with asm := a } }

/-- A frame is discarded (R4). -/
def Part.discardFrame (p : Part) : Part := p.linkDiscard.setAsm Assembler.hunt

/-- The payload length of the frame under assembly (13.1). -/
def Assembler.payloadLength (a : Assembler) : Nat := u16 a.bytes 4

/-- A byte taken in HUNT (R3). -/
def huntByte (sawStart : Bool) (b : Byte) : Assembler :=
  let gap : Timer := some Config.linkGap
  if sawStart && b == 0x3C then { state := .header, sawStart := false, bytes := [], gap := gap }
  else if b = 0xC3 then { state := .hunt, sawStart := true, bytes := [], gap := gap }
  else Assembler.hunt

/-- A byte of a frame joins the bytes collected, in the state that follows; the gap timer restarts (R4). -/
def Assembler.collect (a : Assembler) (st : AsmState) (b : Byte) : Assembler :=
  { state := st, sawStart := false, bytes := a.bytes ++ [b], gap := some Config.linkGap }

/-- A received byte that ends neither the header nor the frame (R3). -/
def Assembler.take (a : Assembler) (b : Byte) : Assembler :=
  match a.state with
  | .hunt => huntByte a.sawStart b
  | .header => if a.bytes.length < 5 then a.collect .header b else a
  | .payload => a.collect (if a.bytes.length + 1 = 6 + a.payloadLength then .check else .payload) b
  | .check => if a.bytes.length = 6 + a.payloadLength then a.collect .check b else a

/-- LINK_BYTE_RECEIVED (R3). -/
def execLinkByteReceived (b : Byte) (s : State) : Host.Outcome State Fault Refusal :=
  s.answer fun p => p.setAsm (p.lnk.asm.take b)

/-- The second byte of the payload length arrives (R3, R4). -/
def Part.headerTaken (p : Part) (b : Byte) : Part :=
  let a := p.lnk.asm
  if a.state == .header && a.bytes.length == 5 then
    let n := (a.collect .header b).payloadLength
    if n = 0 then p.setAsm (a.collect .check b)
    else if n ≤ Config.maxPayload then p.setAsm (a.collect .payload b)
    else p.discardFrame
  else p

/-- FRAME_HEADER_TAKEN (R3). -/
def execFrameHeaderTaken (b : Byte) (s : State) : Host.Outcome State Fault Refusal :=
  s.answer fun p => p.headerTaken b

/-- The link's gap timer passes 5 ms (R4): a lone 0xC3 is dropped, a frame under assembly is discarded. -/
def Part.linkGapExpires (p : Part) : Part :=
  match p.lnk.asm.gap, p.lnk.asm.state with
  | none, _ => p
  | some _, .hunt => p.setAsm Assembler.hunt
  | some _, .header | some _, .payload | some _, .check => p.discardFrame

/-- LINK_GAP_EXPIRY (R4). -/
def execLinkGapExpiry (s : State) : Host.Outcome State Fault Refusal :=
  s.answer Part.linkGapExpires

/-! ### Dispatch -/

/-- A CTRL frame is offered to the control request queue (R7, R10). -/
def Part.offerCtrl (p : Part) (tag : Nat) (payload : List Byte) : Part :=
  if p.lnk.ctrl.length < Config.ctrlQueueRoom then
    { p with lnk := { p.lnk with ctrl := p.lnk.ctrl ++ [{ tag := tag, payload := payload }] } }
  else if p.lnk.replies.length < Config.replyQueueRoom then
    p.pushReply { tag := tag, code := payload.getD 0 0, status := .queueFull, result := [] }
  else p.linkDiscard

/-- A BAND frame is offered to the band queue (R139). -/
def Part.offerBand (p : Part) (payload : List Byte) : Part :=
  if p.rin.queue.length < Config.bandQueueRoom then
    { p with rin := { p.rin with queue := p.rin.queue ++ [payload] } }
  else p.capture .bandDiscard

/-- A frame whose bytes from the class on are `bytes`, without discard, is dispatched by its class (R6); any other class is
discarded (R4). -/
def Part.dispatch (p : Part) (bytes : List Byte) : Part :=
  if u8 bytes 0 = 0x01 then p.controlArrival.offerCtrl (u16 bytes 2) (bytes.drop 6)
  else if u8 bytes 0 = 0x02 then p.offerBand (bytes.drop 6)
  else p.linkDiscard

/-- The second CRC byte arrives (R3): the assembler returns to HUNT, and the frame is dispatched or discarded. -/
def Part.frameTaken (p : Part) (b : Byte) : Part :=
  let a := p.lnk.asm
  let n := 6 + a.payloadLength
  if a.state == .check && a.bytes.length == n + 1 then
    let p := p.setAsm Assembler.hunt
    if (crc16 (a.bytes.take n)).toNat = u8 a.bytes n + 256 * b.toNat then p.dispatch (a.bytes.take n)
    else p.linkDiscard
  else p

/-- FRAME_TAKEN (R3). -/
def execFrameTaken (b : Byte) (s : State) : Host.Outcome State Fault Refusal :=
  s.answer fun p => p.frameTaken b

/-! ### Hand-over and transmission -/

/-- The clear of a STATUS_READ at its hand-over (R17, R5). -/
def Part.statusClear (p : Part) (clearCount : Bool) : Part :=
  { p with
    svc := { p.svc with
      captureSet := match p.svc.snapshot with
        | some sn => p.svc.captureSet &&& ~~~(sn &&& ~~~p.svc.again)
        | none => p.svc.captureSet
      snapshot := none, again := 0 }
    lnk := { p.lnk with
      errorCount := if clearCount then p.lnk.discards else p.lnk.errorCount
      discards := 0 } }

/-- What takes place when a REPLY is handed over (R12, R17, R20, R22, R23). -/
def Part.applyHandover (p : Part) : Handover → Part
  | .plain | .pathReset => p
  | .goLive | .resume => p.setMode .live
  | .drain => p.setMode .drain
  | .park => { p with svc := { p.svc with mode := .parkPending, grace := some Config.graceTime } }
  | .status clearCount => p.statusClear clearCount

/-- The handler after a hand-over: idle, but for PATH_RESET (R12). -/
def Handover.handler : Handover → Handler
  | .pathReset => .resetSending
  | .plain | .goLive | .resume | .drain | .park | .status _ => .idle

/-- The handler hands its REPLY to the reply queue when there is room (R10). -/
def Part.handOver (p : Part) : Part :=
  match p.lnk.handler with
  | .serving r h =>
    if p.lnk.replies.length < Config.replyQueueRoom then
      let p := p.applyHandover h
      { p with lnk := { p.lnk with handler := h.handler } }.pushReply r
    else p
  | .idle | .resetSending | .resetDue => p

/-- REPLY_HANDOVER (R10). -/
def execReplyHandover (s : State) : Host.Outcome State Fault Refusal :=
  s.answer Part.handOver

/-- A frame in transmission is the REPLY of PATH_RESET (R12, log entry 21). -/
def TxFrame.isResetReply (f : TxFrame) : Bool := f.cls == 0x81 && f.payload == [0x15, 0x00]

/-- The last byte of the frame has left (R11): the next frame is chosen. -/
def Part.transmitDone (p : Part) : Part :=
  match p.lnk.tx with
  | none => p
  | some f =>
    let handler := if p.lnk.handler == .resetSending && f.isResetReply then .resetDue else p.lnk.handler
    { p with lnk := { p.lnk with tx := none, handler := handler } }.feed

/-- FRAME_TRANSMIT_DONE (R11). -/
def execFrameTransmitDone (s : State) : Host.Outcome State Fault Refusal :=
  s.answer Part.transmitDone

/-! ### Requests of LNK -/

/-- The head of the control request queue has no code that the part knows (R8 check 1, R191). -/
def CtrlEntry.unknown (e : CtrlEntry) : Bool :=
  match e.payload with
  | c :: _ => !requestCodes.contains c
  | [] => true

/-- An unknown request is answered (R8): its REPLY carries its code, or 0 when it has none. -/
def Part.refuseUnknown (p : Part) : Part :=
  match p.handlerFree, p.lnk.ctrl with
  | true, e :: rest =>
    if e.unknown then Part.hold e.tag (e.payload.getD 0 0) (.refuse (p.takeRequest rest) .unknownRequest) else p
  | _, _ => p

/-- UNKNOWN_REQUEST (R8). -/
def execUnknownRequest (s : State) : Host.Outcome State Fault Refusal :=
  s.answer Part.refuseUnknown

/-- A slot summary (13.2). -/
def Part.slotSummary (p : Part) (i : Fin 4) : List Byte :=
  let s := p.csu.slots[i]
  [s.state.code, byte (p.occupancy i)] ++ optIdentity s.identity ++ optOrder s.bound ++ le2 s.allowance
    ++ le4 s.delivered

/-- An engine summary (13.2). -/
def Engine.summary (en : Engine) : List Byte :=
  [en.state.code, optByte (en.panel.map Panel.code)] ++ le2 (en.line.getD 0xFFFF)
    ++ [flagByte en.offlinePending, optByte (en.fault.map FaultKind.code), tempByte en.temperature, byte en.mediaKind]
    ++ le2 en.prints ++ [byte en.queue.length]

/-- An order inserted into a list in ascending order number. -/
def insertOrder (o : Order) : List Order → List Order
  | [] => [o]
  | x :: xs => if o.number ≤ x.number then o :: x :: xs else x :: insertOrder o xs

/-- The live order records in ascending order number (R17). -/
def Part.liveOrders (p : Part) : List Order :=
  (p.ord.orders.toList.filterMap id).foldr insertOrder []

/-- The STATUS_READ result (R17, 13.2). -/
def Part.statusResult (p : Part) : List Byte :=
  let live := p.liveOrders
  le4 p.svc.captureSet.toNat ++ [p.svc.mode.code, byte p.svc.request.toNat, byte p.svc.enable.toNat, Strap.code p.svc.strap]
    ++ le2 p.lnk.errorCount ++ (List.finRange 4).flatMap p.slotSummary ++ p.engA.summary ++ p.engB.summary
    ++ [byte p.clc.queue.length, flagByte p.clc.outstanding.isSome, byte live.length]
    ++ live.flatMap fun o => le2 o.number ++ [o.state.code]

/-- The check and effect of STATUS_READ (R17): the snapshot is recorded and the marks are cleared. -/
def Part.statusRead (p : Part) (args : List Byte) : Served :=
  if 1 < u8 args 0 then .refuse p .badArgument
  else
    { part := { p with
        svc := { p.svc with snapshot := some p.svc.captureSet, again := 0 }
        lnk := { p.lnk with discards := 0 } }
      status := .ok, result := p.statusResult, atHandover := .status (u8 args 0 == 1) }

/-- STATUS_READ (R17). -/
def execStatusRead (s : State) : Host.Outcome State Fault Refusal :=
  s.answer fun p => p.serve 0x03 (exactly 1) admitAll fun p _ args => p.statusRead args

/-- The check and effect of EVENT_MASK (R16). -/
def Part.setMask (p : Part) (args : List Byte) : Served :=
  if 2 ^ 27 ≤ u32 args 0 then .refuse p .badArgument
  else
    .done { p with svc := { p.svc with alertMask := BitVec.ofNat 27 (u32 args 0) } } (le4 p.svc.alertMask.toNat)

/-- EVENT_MASK (R16). -/
def execEventMask (s : State) : Host.Outcome State Fault Refusal :=
  s.answer fun p => p.serve 0x04 (exactly 4) admitAll fun p _ args => p.setMask args

end Sys2Proof.Machine
end

