-- ==== Sys2Proof/Machine/Raster.lean ====
section
/-! DEFINITION. Raster intake: the checks of a band (R140), colour conversion (R147 to R149), the plane writes (R150) and
the completion of a segment and of an item (R142, R143). -/

namespace Sys2Proof.Machine

/-! ### Colour conversion -/

/-- A value clamped to 0..255 (R147). -/
def clamp255 (x : Int) : Nat := (max 0 (min 255 x)).toNat

/-- One mixed value of R147 from a row of the tone set that starts at index `o`, and the inverted channels. -/
def mixed (tone : List Nat) (o : Nat) (c0 m0 y0 : Nat) : Nat :=
  let k (j : Nat) : Int := signed16 (tone.getD (o + j) 0)
  clamp255 ((k 0 * c0 + k 1 * m0 + k 2 * y0 + 128) / 256)

/-- The cyan, magenta and yellow tone bytes of one dot (R147, R148). -/
def toneBytes (tone : List Nat) (r g b : Byte) : Byte × Byte × Byte :=
  let c0 := 255 - r.toNat
  let m0 := 255 - g.toNat
  let y0 := 255 - b.toNat
  (byte (tone.getD (9 + mixed tone 0 c0 m0 y0) 0), byte (tone.getD (265 + mixed tone 3 c0 m0 y0) 0),
    byte (tone.getD (521 + mixed tone 6 c0 m0 y0) 0))

/-- The tone bytes of the first `n` triples of a band (R141). -/
def tripleTones (tone : List Nat) (triples : List Byte) (n : Nat) : List (Byte × Byte × Byte) :=
  (List.range n).map fun j =>
    toneBytes tone (triples.getD (3 * j) 0) (triples.getD (3 * j + 1) 0) (triples.getD (3 * j + 2) 0)

/-- The finish bytes of a band of `n` dots (R149); `own` are the band's finish bytes when it carries them. -/
def finishBytes (mode : Finish) (own : Option (List Byte)) (n : Nat) : List Byte :=
  match mode, own with
  | .gloss, _ => List.replicate n 0
  | .matte, _ => List.replicate n 0xFF
  | .pattern, some bs => bs.take n
  | .pattern, none => List.replicate n 0

/-- The address of dot `i` of row `r` of plane `p` in a region (R150, R154). -/
def Region.dotAddr (g : Region) (p r w i : Nat) : Nat :=
  g.base + p * (g.size * Config.mib / 4) + r * w + i

/-- The plane writes of an accepted band (R150). -/
def planeWrites (tone : List Nat) (it : Item) (g : Region) (row half : Nat) (triples : List Byte)
    (own : Option (List Byte)) : List PlaneWrite :=
  let n := it.width / 2
  let dots := tripleTones tone triples n
  let at_ (p : Nat) (bytes : List Byte) : PlaneWrite :=
    { addr := g.dotAddr p row it.width (half * n), bytes := bytes }
  [at_ 0 (dots.map fun d => d.2.2), at_ 1 (dots.map fun d => d.2.1), at_ 2 (dots.map fun d => d.1)
    , at_ 3 (finishBytes it.finish own n)]

/-! ### Taking a band -/

/-- The item a band names (R140 check 2). -/
def Part.bandItem (p : Part) (band : List Byte) : Option (Fin 64 × Item) :=
  match itemArg (u8 band 0) with
  | none => none
  | some id =>
    match p.ord.items[id] with
    | some it => if it.state == .defined || it.state == .receiving then some (id, it) else none
    | none => none

/-- Checks 3 to 6 of R140. -/
def bandFits (it : Item) (band : List Byte) : Bool :=
  decide (u8 band 1 ≤ 1) && decide (u16 band 2 < it.length) && decide (u8 band 4 ≤ 1)
    && decide (band.length = 6 + (if u8 band 4 = 0 then 3 else 4) * (it.width / 2))

/-- The item a band names, when the band passes every check of R140. -/
def Part.bandChecks (p : Part) (band : List Byte) : Option (Fin 64 × Item) :=
  if band.length < 6 then none
  else
    match p.bandItem band with
    | some (id, it) => if bandFits it band then some (id, it) else none
    | none => none

/-- A band is accepted (R140, R141): it is converted and its plane writes wait at the port. -/
def Part.acceptBand (p : Part) (id : Fin 64) (it : Item) (band : List Byte) : Part :=
  let n := it.width / 2
  let own := if u8 band 4 = 1 then some (band.drop (6 + 3 * n)) else none
  let writes :=
    planeWrites p.rin.tones[it.tone] it p.spl.regions[it.region] (u16 band 2) (u8 band 1) (band.drop 6) own
  let p := p.modItem id fun it => { it with state := .receiving }
  { p with rin := { p.rin with
      conv := some { item := id, row := u16 band 2, half := u8 band 1, writes := writes } } }

/-- RIN takes the oldest band when none is in conversion (R139, R140). -/
def Part.takeBand (p : Part) : Part :=
  match p.rin.conv, p.rin.queue with
  | none, band :: rest =>
    let p := { p with rin := { p.rin with queue := rest } }
    match p.bandChecks band with
    | some (id, it) => p.acceptBand id it band
    | none => p.capture .bandDiscard
  | _, _ => p

/-- BAND_TAKE (R140). -/
def execBandTake (s : State) : Host.Outcome State Fault Refusal :=
  s.answer Part.takeBand

/-! ### Segments and completion -/

/-- Item `b` is newer than an item of sequence `a` (R73). -/
def newerThan (a b : Nat) : Bool :=
  let d := (b + 4294967296 - a) % 4294967296
  decide (1 ≤ d) && decide (d ≤ 2147483647)

/-- The sequence of an item. -/
def Part.sequenceOf (p : Part) (id : Fin 64) : Nat := (p.ord.items[id].map (·.sequence)).getD 0

/-- An item enters the release list without the mark (R85): before the first unmarked entry whose item is newer. -/
def Part.insertSpooled (p : Part) (id : Fin 64) : List ReleaseEntry → List ReleaseEntry
  | [] => [{ item := id, marked := false }]
  | x :: xs =>
    if !x.marked && newerThan (p.sequenceOf id) (p.sequenceOf x.item) then { item := id, marked := false } :: x :: xs
    else x :: p.insertSpooled id xs

/-- An item is complete (R143): its receiving flag is cleared, ITEM_SPOOLED is captured, ORD makes it SPOOLED and walks,
and the bands that still name it are removed. -/
def Part.completeItem (p : Part) (id : Fin 64) (x : Intake) : Part :=
  let p := (p.setIntake id (some { x with receiving := false })).capture .itemSpooled
  let p := p.modItem id fun it => { it with state := .spooled }
  let p := { p with ord := { p.ord with release := p.insertSpooled id p.ord.release } }
  (p.walk).dropBands id

/-- The segment of the band in conversion joins the set (R142). -/
def Part.bandWritten (p : Part) (b : BandConv) : Part :=
  let p := { p with rin := { p.rin with conv := none } }
  match p.rin.intake[b.item], p.ord.items[b.item] with
  | some x, some it =>
    if x.segments.contains (b.row, b.half) then p
    else
      let x := { x with segments := x.segments ++ [(b.row, b.half)] }
      let p := (p.setIntake b.item (some x)).modItem b.item fun it => { it with received := it.received + 1 }
      if x.segments.length = 2 * it.length then p.completeItem b.item x else p
  | _, _ => p

end Sys2Proof.Machine
end

