-- ==== Sys2Proof/Machine/Reads.lean ====
section
/-! DEFINITION. Sector reads: SECTOR_READ and READ_CANCEL (R54, R64), the sector attempts of the transfer path (R58, R59),
and the answers to READ_BLOCK and STOP (R38, R58, R59). -/

namespace Sys2Proof.Machine

/-! ### Requests -/

/-- A request accepted (R54, R55): it joins the tail of the slot's read queue, and a READY slot's allowance is charged. -/
def Part.acceptRead (p : Part) (i : Fin 4) (tag first count : Nat) : Served :=
  let preview := p.csu.slots[i].state == .ready
  let owner := if preview then 0xFFF0 + i.val else p.csu.slots[i].bound.getD 0
  let r : ReadReq :=
    { uid := p.csu.nextUid, tag := tag, first := first, count := count, next := first, produced := 0, owner := owner
      preview := preview, cancelPending := false, retried := false }
  let p := p.modSlot i fun s =>
    { s with queue := s.queue ++ [r], allowance := if preview then s.allowance - count else s.allowance }
  let p := { p with csu := { p.csu with nextUid := p.csu.nextUid + 1 } }
  .done p.beginTurn (le2 owner ++ le2 p.csu.slots[i].allowance)

/-- The checks of SECTOR_READ in order (R54). -/
def Part.sectorRead (p : Part) (tag : Nat) (args : List Byte) : Served :=
  let first := u32 args 2
  let count := u16 args 6
  match slotArg (u8 args 0) with
  | none => .refuse p .badArgument
  | some i =>
    let s := p.csu.slots[i]
    if count = 0 ∨ 256 < count then .refuse p .badArgument
    else if s.state == .foreign then .refuse p .cardForeign
    else if s.state != .ready && s.state != .bound then .refuse p .wrongState
    else if (s.identity.map (·.capacity)).getD 0 < first + count then .refuse p .outOfRange
    else if Config.readQueueRoom ≤ p.occupancy i then .refuse p .noRoom
    else if s.state == .ready && decide (s.allowance < count) then .refuse p .allowanceSpent
    else p.acceptRead i tag first count

/-- SECTOR_READ (R54). -/
def execSectorRead (s : State) : Host.Outcome State Fault Refusal :=
  s.answer fun p => p.serve 0x21 (exactly 8) admitLive Part.sectorRead

/-- The request in service is the head of the queue of the slot whose turn it is (R53). -/
def Part.inService (p : Part) (i : Fin 4) (r : ReadReq) : Bool :=
  p.hasTurn i && (p.csu.slots[i].queue.head?.map (·.uid)) == some r.uid

/-- A read request found by READ_CANCEL is cancelled (R64). -/
def Part.cancelRead (p : Part) (i : Fin 4) (r : ReadReq) : Part :=
  if p.inService i r then
    if p.attempting i then
      p.modSlot i fun s =>
        { s with queue := s.queue.map fun q => if q.uid = r.uid then { q with cancelPending := true } else q }
    else (((p.endRead i .cancelled r).endTurn i).beginTurn).feed
  else (p.endRead i .cancelled r).feed

/-- The checks and effect of READ_CANCEL (R64). -/
def Part.readCancel (p : Part) (args : List Byte) : Served :=
  match slotArg (u8 args 0) with
  | none => .refuse p .badArgument
  | some i =>
    match p.csu.slots[i].queue.find? fun r => r.tag == u16 args 2 with
    | none => .refuse p .badArgument
    | some r => .done (p.cancelRead i r) (flagByte (p.inService i r) :: le2 r.produced)

/-- READ_CANCEL (R64). -/
def execReadCancel (s : State) : Host.Outcome State Fault Refusal :=
  s.answer fun p => p.serve 0x22 (exactly 4) admitAll fun p _ args => p.readCancel args

/-! ### Sector attempts -/

/-- No other slot's bus is in a sector attempt: the transfer path reads one sector at a time (4.3). -/
def Part.pathFree (p : Part) : Bool :=
  (List.finRange 4).all fun j => !p.csu.slots[j].bus.orphan

/-- The transfer path begins a sector when the buffer is empty (R58): READ_BLOCK with the request's next sector. -/
def Part.beginSector (p : Part) : Part :=
  match p.csu.turn with
  | none => p
  | some t =>
    match p.csu.slots[t.slot].queue with
    | [] => p
    | r :: _ =>
      if p.csu.buffer.isNone && p.csu.slots[t.slot].bus.phase == .idle && p.pathFree then
        p.sendCard t.slot .readBlock r.next
      else p

/-- SECTOR_ATTEMPT_START (R58). -/
def execSectorAttemptStart (s : State) : Host.Outcome State Fault Refusal :=
  s.answer Part.beginSector

/-- A response to READ_BLOCK (R58, R59). -/
def Part.readBlockResponse (p : Part) (i : Fin 4) (status check : Byte) : Part :=
  match p.csu.slots[i].bus.phase with
  | .awaiting .readBlock arg =>
    match responseStatus status [] check with
    | .ok => p.modBus i fun b => { b with phase := .data, busyRun := none }
    | .busy => p.cardBusy i .readBlock arg
    | .error => p.attemptFail i
  | _ => p

/-- READ_BLOCK_RESPONSE (R58). -/
def execReadBlockResponse (i : Fin 4) (status check : Byte) (s : State) : Host.Outcome State Fault Refusal :=
  s.answer fun p => p.readBlockResponse i status check

/-- The request after one more of its sectors (R58). -/
def ReadReq.advance (r : ReadReq) : ReadReq := { r with produced := r.produced + 1, next := r.next + 1, retried := false }

/-- The SECTOR frame of the request's next sector (R61). -/
def ReadReq.frame (r : ReadReq) (i : Fin 4) (data : List Byte) : SectorFrame :=
  { uid := r.uid, tag := r.tag, slot := i, preview := r.preview, retried := r.retried, last := false, outcome := .ok
    sector := r.next, owner := r.owner, data := data }

/-- The next thing after a sector is produced: the request ends CANCELLED or OK, the turn ends at 8 sectors, or the turn
goes on (R58, R60, R63, R64). -/
def Part.afterSector (p : Part) (i : Fin 4) (r : ReadReq) (inTurn : Nat) : Part :=
  if r.cancelPending then ((p.endRead i .cancelled r).endTurn i).beginTurn
  else if r.produced = r.count then ((p.endRead i .ok r).endTurn i).beginTurn
  else if Config.turnSectors ≤ inTurn then (p.endTurn i).beginTurn
  else p

/-- A sector is read (R58): its frame goes into the transfer buffer and the counts rise. -/
def Part.produceSector (p : Part) (i : Fin 4) (data : List Byte) : Part :=
  match p.csu.turn, p.csu.slots[i].queue with
  | some t, r :: rest =>
    if t.slot = i then
      let p := p.modSlot i fun s =>
        { s with queue := r.advance :: rest, delivered := (s.delivered + 1) % 4294967296, bus := CardBus.quiet }
      let p := { p with csu := { p.csu with
        buffer := some (r.frame i data), turn := some { slot := i, count := t.count + 1 } } }
      (p.afterSector i r.advance (t.count + 1)).feed
    else p
  | _, _ => p

/-- The data check that the two bytes received after a sector spell: the low byte comes first (R37). -/
def dataCheck (check : List Byte) : Nat := u16 check 0

/-- The 512 bytes and the two check bytes of a sector have arrived (R37, R58). The data of a read that outlived its request
at PATH_RESET is discarded (R51, R67). -/
def Part.dataComplete (p : Part) (i : Fin 4) (data check : List Byte) : Part :=
  if p.csu.slots[i].bus.phase == .data && data.length == 512 && check.length == 2 then
    if (crc16 data).toNat = dataCheck check then
      if p.csu.slots[i].bus.orphan then p.modBus i fun _ => CardBus.quiet
      else p.produceSector i data
    else p.attemptFail i
  else p

/-- DATA_PHASE_COMPLETE (R58). -/
def execDataPhaseComplete (i : Fin 4) (data check : List Byte) (s : State) :
    Host.Outcome State Fault Refusal :=
  s.answer fun p => p.dataComplete i data check

/-- The data phase is not complete within its 100 ms (R38, R59). -/
def Part.dataTimeout (p : Part) (i : Fin 4) : Part :=
  if p.csu.slots[i].bus.phase == .data then p.attemptFail i else p

/-- DATA_PHASE_TIMEOUT (R38). -/
def execDataPhaseTimeout (i : Fin 4) (s : State) : Host.Outcome State Fault Refusal :=
  s.answer fun p => p.dataTimeout i

/-- The command that a bus carries or waits to send again. -/
def BusPhase.cmd : BusPhase → Option CardCmd
  | .awaiting c _ | .retryWait c _ => some c
  | .idle | .data => none

/-- BUSY answers to READ_BLOCK have continued for 1 s (R58). A READ_BLOCK that awaits its response at that moment is abandoned
and STOP follows at once (DEDUCED, log entry 23). -/
def Part.readBusyExpired (p : Part) (i : Fin 4) : Part :=
  if p.csu.slots[i].bus.phase.cmd == some .readBlock && p.csu.slots[i].bus.busyRun.isSome then p.attemptFail i else p

/-- READ_BUSY_LIMIT (R58). -/
def execReadBusyLimit (i : Fin 4) (s : State) : Host.Outcome State Fault Refusal :=
  s.answer fun p => p.readBusyExpired i

/-- STOP is answered OK (R59): a second attempt at the sector, or the request ends. -/
def Part.stopAnswered (p : Part) (i : Fin 4) : Part :=
  if p.csu.slots[i].bus.orphan then p.modBus i fun _ => CardBus.quiet
  else
    match p.csu.slots[i].queue with
    | r :: rest =>
      if r.retried then
        let p := p.modBus i fun _ => CardBus.quiet
        (((p.endRead i (if r.cancelPending then .cancelled else .readError) r).endTurn i).beginTurn).feed
      else
        (p.modSlot i fun s =>
          { s with queue := { r with retried := true } :: rest, bus := CardBus.quiet }).sendCard i .readBlock r.next
    | [] => p.modBus i fun _ => CardBus.quiet

/-- A response to STOP (R38, R59). -/
def Part.stopResponse (p : Part) (i : Fin 4) (status check : Byte) : Part :=
  match p.csu.slots[i].bus.phase with
  | .awaiting .stop arg =>
    match responseStatus status [] check with
    | .ok => p.stopAnswered i
    | .busy => p.cardBusy i .stop arg
    | .error => p.slotFault i
  | _ => p

/-- STOP_RESPONSE (R38). -/
def execStopResponse (i : Fin 4) (status check : Byte) (s : State) : Host.Outcome State Fault Refusal :=
  s.answer fun p => p.stopResponse i status check

/-- BUSY answers to STOP have continued for 1 s: the STOP counts as answered bad (R38, log entry 23). -/
def Part.stopBusyExpired (p : Part) (i : Fin 4) : Part :=
  if p.csu.slots[i].bus.phase.cmd == some .stop && p.csu.slots[i].bus.busyRun.isSome then p.slotFault i else p

/-- STOP_BUSY_LIMIT (R38). -/
def execStopBusyLimit (i : Fin 4) (s : State) : Host.Outcome State Fault Refusal :=
  s.answer fun p => p.stopBusyExpired i

end Sys2Proof.Machine
end

