-- ==== Sys2Proof/Machine/Service.lean ====
section
/-! DEFINITION. Service states: resets (R18, R31), going live, drain, resume, park (R20, R22, R23), the wake sources (R26,
R27, R30), the grace (R24), and PATH_RESET (R12, R32) with what each block does at it (R51, R67, R104, R105, R152, R160,
R178, R190). -/

namespace Sys2Proof.Machine

/-! ### Power-on reset -/

/-- RESETN low (R18): every block takes its values after power-on reset. The input levels, the time base, the spool
memory's bytes, and the tally's counted and pool are kept (R119, R160). That a write under way leaves none of its bytes is a
DESIGN CHOICE (log entry 43). -/
def Part.powerOnReset (p : Part) : Part :=
  { now := p.now, inReset := true, pins := p.pins, lnk := Link.reset, svc := Service.reset p.svc.strap
    csu := Cards.reset, ord := OrderTable.reset, pay := Payment.reset p.pay.counted p.pay.pool
    clc := CashlessLine.reset, rin := RasterIntake.reset, spl := Spool.reset p.spl.mem
    engA := Engine.reset .offline p.engA.temperature, engB := Engine.reset .offline p.engB.temperature }

/-- POWER_ON_RESET (R18). -/
def execPowerOnReset (s : State) : Host.Outcome State Fault Refusal :=
  .next { s with toPart := s.toPart.powerOnReset }

/-- The strap is latched and the engines take their states and first samples (R31, R162, R163). That the temperature of an
ABSENT engine B keeps its value is a DESIGN CHOICE (log entry 44). -/
def Part.latch (p : Part) (strap : Strap) (tempA tempB : Int) : Part :=
  { p with
    inReset := false
    svc := { p.svc with strap := strap }
    engA := { p.engA with temperature := tempA }
    engB := match strap with
      | .one => { p.engB with state := .absent }
      | .two => { p.engB with temperature := tempB } }

/-- A slot whose detect line is asserted at reset release (R33, R35). -/
def Part.releaseSlotLine (p : Part) (i : Fin 4) : Part := if p.pins.detect[i] then p.detectAssert i else p

/-- A channel whose line is asserted at reset release (R108). -/
def Part.releasePulseLine (p : Part) (c : Fin 6) : Part := if p.pins.pulse[c] then p.pulseBegins c else p

/-- RESETN is released (R31, R33, R108). A service key held at that moment sets no request flag, a DESIGN CHOICE (log entry
36). -/
def Part.resetRelease (p : Part) (ms : Nat) (strap : Strap) (tempA tempB : Int) : Part :=
  if p.inReset then
    let p := (p.advance ms).latch strap tempA tempB
    (List.finRange 6).foldl Part.releasePulseLine ((List.finRange 4).foldl Part.releaseSlotLine p)
  else p

/-- RESET_RELEASE (R31). -/
def execResetRelease (ms : Nat) (strap : Strap) (tempA tempB : Int) (s : State) : Host.Outcome State Fault Refusal :=
  .next { s with toPart := s.toPart.resetRelease ms strap tempA tempB }

/-! ### Mode requests -/

/-- The check of GO_LIVE (R20): the REPLY carries the computed sum in both cases. -/
def Part.checkLive (p : Part) (args : List Byte) : Served :=
  if u16 args 0 = p.tableSum then { part := p, status := .ok, result := le2 p.tableSum, atHandover := .goLive }
  else { Served.refuse p .checkMismatch with result := le2 p.tableSum }

/-- GO_LIVE (R20). -/
def execGoLive (s : State) : Host.Outcome State Fault Refusal :=
  s.answer fun p => p.serve 0x10 (exactly 2) admitGoLive fun p _ args => p.checkLive args

/-- A request whose effect takes place at its hand-over. -/
def Served.later (p : Part) (h : Handover) : Served := { part := p, status := .ok, result := [], atHandover := h }

/-- DRAIN (R22). -/
def execDrain (s : State) : Host.Outcome State Fault Refusal :=
  s.answer fun p => p.serve 0x11 (exactly 0) admitDrain fun p _ _ => .later p .drain

/-- RESUME (R22). -/
def execResume (s : State) : Host.Outcome State Fault Refusal :=
  s.answer fun p => p.serve 0x12 (exactly 0) admitResume fun p _ _ => .later p .resume

/-- The checks of PARK (R23). -/
def Part.askPark (p : Part) : Served :=
  if !p.mayPark then .refuse p .busy
  else if p.svc.anyWake then .refuse p .wakePending
  else .later p .park

/-- PARK (R23). -/
def execPark (s : State) : Host.Outcome State Fault Refusal :=
  s.answer fun p => p.serve 0x13 (exactly 0) admitPark fun p _ _ => p.askPark

/-- The check and effect of WAKE_SET (R27). -/
def Part.wakeSet (p : Part) (args : List Byte) : Served :=
  if 64 ≤ u8 args 0 ∨ 64 ≤ u8 args 1 then .refuse p .badArgument
  else
    .done
      { p with svc := { p.svc with
          enable := BitVec.ofNat 6 (u8 args 0), request := p.svc.request &&& ~~~(BitVec.ofNat 6 (u8 args 1)) } }
      [byte p.svc.enable.toNat, byte p.svc.request.toNat]

/-- WAKE_SET (R27). -/
def execWakeSet (s : State) : Host.Outcome State Fault Refusal :=
  s.answer fun p => p.serve 0x14 (exactly 2) admitAll fun p _ args => p.wakeSet args

/-! ### Grace, key and debounce -/

/-- The grace runs out (R24): PARKED when the four conditions of R23 still hold, DRAIN otherwise. -/
def Part.graceExpires (p : Part) : Part :=
  match p.svc.mode, p.svc.grace with
  | .parkPending, some _ => if p.mayPark then p.enterParked else p.endGrace
  | _, _ => p

/-- GRACE_EXPIRY (R24). -/
def execGraceExpiry (s : State) : Host.Outcome State Fault Refusal :=
  s.answer Part.graceExpires

/-- The service key's level. -/
def Part.setKey (p : Part) (on : Bool) : Part := { p with pins := { p.pins with key := on } }

/-- The service key asserts (R26). -/
def Part.keyRises (p : Part) : Part :=
  if p.pins.key then p
  else
    let p := p.setKey true
    if p.inReset then p else p.raiseWake .key

/-- SERVICE_KEY_ASSERT (R26). -/
def execServiceKeyAssert (s : State) : Host.Outcome State Fault Refusal :=
  .next { s with toPart := s.toPart.keyRises }

/-- The service key deasserts (R30). -/
def Part.keyFalls (p : Part) : Part :=
  if p.pins.key then
    let p := p.setKey false
    if p.inReset then p else p.failDebounce .key
  else p

/-- SERVICE_KEY_DEASSERT (R30). -/
def execServiceKeyDeassert (s : State) : Host.Outcome State Fault Refusal :=
  .next { s with toPart := s.toPart.keyFalls }

/-- The source of a debounce timer. -/
def timerSource (t : Fin 5) : WakeSource := if h : t.val < 4 then .slot ⟨t.val, h⟩ else .key

/-- The level of a debounced source's line. -/
def Part.lineHeld (p : Part) : WakeSource → Bool
  | .slot i => p.pins.detect[i]
  | .key => p.pins.key
  | .pulse => false

/-- A debounce timer runs out (R30): with its line still asserted the part wakes, otherwise the debounce has failed (log
entry 24). -/
def Part.debounceExpires (p : Part) (t : Fin 5) : Part :=
  if p.svc.mode == .waking && p.svc.debounce[t].isSome then
    if p.lineHeld (timerSource t) then p.wakeToLive else p.failDebounce (timerSource t)
  else p

/-- DEBOUNCE_EXPIRY (R30). -/
def execDebounceExpiry (t : Fin 5) (s : State) : Host.Outcome State Fault Refusal :=
  s.answer fun p => p.debounceExpires t

/-! ### PATH_RESET -/

/-- PATH_RESET (R12, R32): its effects begin when its REPLY has been sent. -/
def execPathReset (s : State) : Host.Outcome State Fault Refusal :=
  s.answer fun p => p.serve 0x15 (exactly 0) admitAll fun p _ _ => .later p .pathReset

/-- A read command or a data phase is on the bus (R51). That one which waits to be sent again after a BUSY is on the bus is
DEDUCED (log entry 22). -/
def BusPhase.reading : BusPhase → Bool
  | .awaiting .readBlock _ | .awaiting .stop _ | .retryWait .readBlock _ | .retryWait .stop _ | .data => true
  | .awaiting .resetCard _ | .awaiting .identify _ | .awaiting .select _ | .retryWait .resetCard _
  | .retryWait .identify _ | .retryWait .select _ | .idle => false

/-- A slot at PATH_RESET (R51): its read queue is emptied, and a read on its bus is left to finish (log entry 22). -/
def Slot.pathReset (s : Slot) : Slot :=
  { s with queue := [], bus := { s.bus with orphan := s.bus.orphan || s.bus.phase.reading } }

/-- CSU at PATH_RESET (R51, R67). -/
def Cards.pathReset (c : Cards) : Cards :=
  { c with
    slots := c.slots.map Slot.pathReset
    turn := none, lastServed := 3, buffer := none, offered := none, endings := [] }

/-- An engine at PATH_RESET (R178, R190), but for the entry to IDLE out of NEEDS_MEDIA. -/
def Engine.pathReset (en : Engine) : Engine :=
  let en := { en with queue := [], readWaiting := false, hdu := { en.hdu with prev := none, drive := none } }
  if en.state.printing then { en with state := .ejecting, panel := none, line := none, motion := some .abortEject }
  else en

/-- NEEDS_MEDIA at PATH_RESET (R178). -/
def Part.leaveNeedsMedia (p : Part) (e : EngineId) : Part :=
  if (p.eng e).state == .needsMedia then (p.enterIdle e).1 else p

/-- An item at PATH_RESET (R104). -/
def Part.resetItem (p : Part) (id : Fin 64) : Part :=
  match p.ord.items[id] with
  | some it => if it.state.terminal then p else p.withdrawItem id (some .pathReset)
  | none => p

/-- The order number of a record, 0 when it is free. -/
def Part.numberOf (p : Part) (k : Fin 32) : Nat := (p.ord.orders[k].map (·.number)).getD 0

/-- An index inserted into a list in ascending order number. -/
def Part.insertByNumber (p : Part) (k : Fin 32) : List (Fin 32) → List (Fin 32)
  | [] => [k]
  | j :: js => if p.numberOf k ≤ p.numberOf j then k :: j :: js else j :: p.insertByNumber k js

/-- Whether a record holds an OPEN or COMMITTED order. -/
def Part.isTaking (p : Part) (k : Fin 32) : Bool := (p.ord.orders[k].map Order.taking).getD false

/-- The indexes of the OPEN and COMMITTED orders in ascending order number (R101, R105). -/
def Part.takingOrders (p : Part) : List (Fin 32) :=
  ((List.finRange 32).filter p.isTaking).foldr p.insertByNumber []

/-- An OPEN or COMMITTED order at PATH_RESET (R105): it becomes HALTED and loses the focus. -/
def Part.haltOrder (p : Part) (k : Fin 32) : Part :=
  match p.ord.orders[k] with
  | some o => if o.taking then (p.modOrder k fun o => { o with state := .halted }).loseFocus o.number else p
  | none => p

/-- A region at PATH_RESET (R160). -/
def Region.pathReset (g : Region) : Region := { g with valid := false, holder := none }

/-- The effects of PATH_RESET on the blocks (R12, R32, R51, R67, R104, R105, R152, R160, R178, R190). -/
def Part.pathResetBlocks (p : Part) : Part :=
  let p := { p with
    svc := { p.svc with mode := .setup }
    lnk := { p.lnk with ctrl := [], handler := .idle }
    csu := p.csu.pathReset
    rin := { p.rin with queue := [] }
    engA := p.engA.pathReset, engB := p.engB.pathReset }
  let p := ((p.abandonBand).disownAccess (.engine .A)).disownAccess (.engine .B)
  let p := (List.finRange 64).foldl Part.resetItem p
  let orders := p.takingOrders
  let p := orders.foldl Part.haltOrder p
  let p := orders.foldl Part.checkSettling p
  let p := { p with spl := { p.spl with regions := p.spl.regions.map Region.pathReset } }
  (p.leaveNeedsMedia .A).leaveNeedsMedia .B

/-- The last byte of the PATH_RESET REPLY leaves: either the frame is still the one in transmission, and ends here, or
FRAME_TRANSMIT_DONE has ended it (log entry 21). The next frame is chosen once the effects have begun, so it carries ALERT as
they leave it: a DESIGN CHOICE (log entry 45). -/
def Part.pathResetEffects (p : Part) : Part :=
  match p.lnk.handler, p.lnk.tx with
  | .resetDue, _ => p.pathResetBlocks.feed
  | .resetSending, some f =>
    if f.isResetReply then
      let p := p.pathResetBlocks
      { p with lnk := { p.lnk with tx := none } }.feed
    else p
  | _, _ => p

/-- PATH_RESET_EFFECTS (R32). -/
def execPathResetEffects (s : State) : Host.Outcome State Fault Refusal :=
  s.answer Part.pathResetEffects

end Sys2Proof.Machine
end

