-- ==== Sys2Proof/Machine/Spool.lean ====
section
/-! DEFINITION. The spool: REGION_OPEN and REGION_CLOSE (R155, R156), and the access port (R159). -/

namespace Sys2Proof.Machine

/-! ### Regions -/

/-- The sizes a region may have, in MiB (R155). -/
def regionSizes : List Nat := [4, 8, 16, 32, 64]

/-- A valid region covers some byte of the block of `size` MiB at `base` (R154, R155). -/
def Region.meets (g : Region) (base size : Nat) : Bool :=
  g.valid && decide (g.base < base + size * Config.mib) && decide (base < g.base + g.size * Config.mib)

/-- The lowest index of a valid region that a new one would meet (R155 check 6). -/
def Part.overlapped (p : Part) (base size : Nat) : Option (Fin 16) :=
  (List.finRange 16).find? fun r => p.spl.regions[r].meets base size

/-- Base and size of a region in a result (log entry 19). -/
def Region.extent (g : Region) : List Byte := le4 g.base ++ [byte g.size]

/-- The checks and effect of REGION_OPEN (R155). -/
def Part.regionOpen (p : Part) (args : List Byte) : Served :=
  let size := u8 args 1
  let base := u32 args 4
  match regionArg (u8 args 0) with
  | none => .refuse p .badArgument
  | some r =>
    if !regionSizes.contains size then .refuse p .badArgument
    else if base % (size * Config.mib) ≠ 0 then .refuse p .misaligned
    else if Config.spoolBytes < base + size * Config.mib then .refuse p .outOfRange
    else if p.spl.regions[r].valid then { Served.refuse p .inUse with result := p.spl.regions[r].extent }
    else
      match p.overlapped base size with
      | some q => { Served.refuse p .overlap with result := [byte q.val] }
      | none =>
        let g : Region := { valid := true, base := base, size := size, holder := none }
        .done (p.modRegion r fun _ => g) (byte r.val :: g.extent)

/-- REGION_OPEN (R155). -/
def execRegionOpen (s : State) : Host.Outcome State Fault Refusal :=
  s.answer fun p => p.serve 0x50 (exactly 8) admitAll fun p _ args => p.regionOpen args

/-- The checks and effect of REGION_CLOSE (R156). -/
def Part.regionClose (p : Part) (args : List Byte) : Served :=
  match regionArg (u8 args 0) with
  | none => .refuse p .badArgument
  | some r =>
    let g := p.spl.regions[r]
    if !g.valid then .refuse p .wrongState
    else
      match g.holder with
      | some id => { Served.refuse p .inUse with result := [byte id.val] }
      | none => .done (p.modRegion r fun g => { g with valid := false }) g.extent

/-- REGION_CLOSE (R156). -/
def execRegionClose (s : State) : Host.Outcome State Fault Refusal :=
  s.answer fun p => p.serve 0x51 (exactly 1) admitAll fun p _ args => p.regionClose args

/-! ### The access port -/

/-- The next plane write of RIN: the one `pick` chooses, and those left (R150, log entry 13). -/
def chooseWrite (writes : List PlaneWrite) (pick : Nat) : Option (PlaneWrite × List PlaneWrite) :=
  let k := pick % writes.length
  (writes[k]?).map fun w => (w, writes.eraseIdx k)

/-- The plane write of RIN that waits, with the band in conversion as it is once the write is granted. -/
def Part.waitingWrite (p : Part) (pick : Nat) : Option (PlaneWrite × BandConv) :=
  match p.rin.conv with
  | none => none
  | some b => (chooseWrite b.writes pick).map fun x => (x.1, { b with writes := x.2 })

/-- The line read of an engine that waits (R159, R169): address and length of the row of the panel's plane. -/
def Part.waitingRead (p : Part) (e : EngineId) : Option (Nat × Nat) :=
  match (p.eng e).readWaiting, (p.eng e).queue, (p.eng e).panel, (p.eng e).line with
  | true, head :: _, some panel, some line =>
    match p.ord.items[head] with
    | some it => some (p.spl.regions[it.region].dotAddr panel.code line it.width 0, it.width)
    | none => none
  | _, _, _, _ => none

/-- Whether a requester waits at the port (R159). -/
def Part.waits (p : Part) : Requester → Bool
  | .intake => (p.waitingWrite 0).isSome
  | .engine e => (p.waitingRead e).isSome

/-- The cycle after the requester served last (R159). -/
def Requester.cycle : Requester → List Requester
  | .intake => [.engine .A, .engine .B, .intake]
  | .engine .A => [.engine .B, .intake, .engine .A]
  | .engine .B => [.intake, .engine .A, .engine .B]

/-- The requester that is served next (R159). -/
def Part.nextRequester (p : Part) : Option Requester := p.spl.lastServed.cycle.find? fun w => p.waits w

/-- The port is given to an access (R159). -/
def Part.grantPort (p : Part) (a : Access) : Part :=
  { p with spl := { p.spl with port := some a, lastServed := a.who } }

/-- The port is granted to a requester that waits (R159). -/
def Part.grantTo (p : Part) (w : Requester) (pick : Nat) : Part :=
  match w with
  | .intake =>
    match p.waitingWrite pick with
    | some (x, b) =>
      { p with rin := { p.rin with conv := some b } }.grantPort
        { who := .intake, addr := x.addr, len := x.bytes.length, bytes := x.bytes, live := true }
    | none => p
  | .engine e =>
    match p.waitingRead e with
    | some (addr, len) =>
      (p.modEng e fun en => { en with readWaiting := false }).grantPort
        { who := .engine e, addr := addr, len := len, bytes := [], live := true }
    | none => p

/-- A free port is granted (R159). -/
def Part.grant (p : Part) (pick : Nat) : Part :=
  match p.spl.port, p.nextRequester with
  | none, some w => p.grantTo w pick
  | _, _ => p

/-- SPOOL_GRANT (R159). -/
def execSpoolGrant (pick : Nat) (s : State) : Host.Outcome State Fault Refusal :=
  s.answer fun p => p.grant pick

/-- The HDU receives a line (R183 to R188): it computes the codes and the groups, and captures BUDGET_CLIP for a clipped
line. -/
def Part.lineReceived (p : Part) (e : EngineId) (row : List Byte) : Part :=
  let en := p.eng e
  match en.panel with
  | none => p
  | some panel =>
    let codes := lineCodes en.hdu.energy en.params panel en.temperature (en.hdu.prev.getD []) row
    let p := p.modEng e fun en =>
      { en with hdu := { en.hdu with
          drive := some { codes := finalCodes codes en.params.budget, groups := groupCount codes en.params.budget
                          fired := 0 } } }
    if lineClipped codes en.params.budget then p.capture .budgetClip else p

/-- RIN's write is made (R142, R159): the last write of the band completes its segment. -/
def Part.writeDone (p : Part) (a : Access) : Part :=
  let p := { p with spl := { p.spl with port := none, mem := memWriteRun p.spl.mem a.addr a.bytes } }
  match a.live, p.rin.conv with
  | true, some b => if b.writes.isEmpty then p.bandWritten b else p
  | _, _ => p

/-- An engine's read is made (R159): the row goes to the head drive unit, unless the engine has left the line. -/
def Part.readDone (p : Part) (a : Access) (e : EngineId) : Part :=
  let row := memReadRun p.spl.mem a.addr a.len
  let p := { p with spl := { p.spl with port := none } }
  if a.live then p.lineReceived e row else p

/-- The granted access completes (R159). -/
def Part.accessDone (p : Part) (a : Access) : Part :=
  match a.who with
  | .intake => p.writeDone a
  | .engine e => p.readDone a e

/-- Every byte of an access lies in the spool memory (R153, R155). A write carries as many bytes as its length says. -/
def Access.inSpool (a : Access) : Bool := decide (a.addr + max a.len a.bytes.length ≤ Config.spoolBytes)

/-- SPOOL_ACCESS_DONE (R159). An access outside the 256 MiB that exist faults (log entry 10). -/
def execSpoolAccessDone (s : State) : Host.Outcome State Fault Refusal :=
  match s.inReset, s.spl.port with
  | false, some a => if a.inSpool then s.answer fun p => p.accessDone a else .fault .spoolAddress
  | _, _ => .next s

end Sys2Proof.Machine
end

