-- ==== Sys2Proof/Machine/Dispatch.lean ====
section
/-! DEFINITION. exec: one arm per command, each a direct call of its meaning. -/

namespace Sys2Proof.Machine

def exec (i : Instr) (s : State) : Host.Outcome State Fault Refusal :=
  match i with
  | .powerOnReset => Sys2Proof.Machine.execPowerOnReset s
  | .resetRelease ms strap tempA tempB => Sys2Proof.Machine.execResetRelease ms strap tempA tempB s
  | .frameHeaderTaken b => Sys2Proof.Machine.execFrameHeaderTaken b s
  | .frameTaken b => Sys2Proof.Machine.execFrameTaken b s
  | .linkGapExpiry => Sys2Proof.Machine.execLinkGapExpiry s
  | .unknownRequest => Sys2Proof.Machine.execUnknownRequest s
  | .replyHandover => Sys2Proof.Machine.execReplyHandover s
  | .frameTransmitDone => Sys2Proof.Machine.execFrameTransmitDone s
  | .tableWrite ms => Sys2Proof.Machine.execTableWrite ms s
  | .tableRead => Sys2Proof.Machine.execTableRead s
  | .statusRead => Sys2Proof.Machine.execStatusRead s
  | .eventMask => Sys2Proof.Machine.execEventMask s
  | .goLive => Sys2Proof.Machine.execGoLive s
  | .drain => Sys2Proof.Machine.execDrain s
  | .resume => Sys2Proof.Machine.execResume s
  | .park => Sys2Proof.Machine.execPark s
  | .wakeSet => Sys2Proof.Machine.execWakeSet s
  | .pathReset => Sys2Proof.Machine.execPathReset s
  | .pathResetEffects => Sys2Proof.Machine.execPathResetEffects s
  | .graceExpiry => Sys2Proof.Machine.execGraceExpiry s
  | .serviceKeyAssert => Sys2Proof.Machine.execServiceKeyAssert s
  | .serviceKeyDeassert => Sys2Proof.Machine.execServiceKeyDeassert s
  | .debounceExpiry src => Sys2Proof.Machine.execDebounceExpiry src s
  | .cardDetectAssert slot => Sys2Proof.Machine.execCardDetectAssert slot s
  | .cardRemoval slot => Sys2Proof.Machine.execCardRemoval slot s
  | .settlingExpiry slot => Sys2Proof.Machine.execSettlingExpiry slot s
  | .identifyResponse slot status data check => Sys2Proof.Machine.execIdentifyResponse slot status data check s
  | .identifyLimitExpiry slot => Sys2Proof.Machine.execIdentifyLimitExpiry slot s
  | .cardResponseTimeout slot => Sys2Proof.Machine.execCardResponseTimeout slot s
  | .busyRetryExpiry slot => Sys2Proof.Machine.execBusyRetryExpiry slot s
  | .readBlockResponse slot status check => Sys2Proof.Machine.execReadBlockResponse slot status check s
  | .dataPhaseComplete slot data check => Sys2Proof.Machine.execDataPhaseComplete slot data check s
  | .dataPhaseTimeout slot => Sys2Proof.Machine.execDataPhaseTimeout slot s
  | .readBusyLimit slot => Sys2Proof.Machine.execReadBusyLimit slot s
  | .stopResponse slot status check => Sys2Proof.Machine.execStopResponse slot status check s
  | .stopBusyLimit slot => Sys2Proof.Machine.execStopBusyLimit slot s
  | .slotUnbind => Sys2Proof.Machine.execSlotUnbind s
  | .sectorRead => Sys2Proof.Machine.execSectorRead s
  | .readCancel => Sys2Proof.Machine.execReadCancel s
  | .sectorAttemptStart => Sys2Proof.Machine.execSectorAttemptStart s
  | .orderOpen => Sys2Proof.Machine.execOrderOpen s
  | .itemAdd => Sys2Proof.Machine.execItemAdd s
  | .itemWithdraw => Sys2Proof.Machine.execItemWithdraw s
  | .orderCommit => Sys2Proof.Machine.execOrderCommit s
  | .orderCancel => Sys2Proof.Machine.execOrderCancel s
  | .orderResume => Sys2Proof.Machine.execOrderResume s
  | .orderRead => Sys2Proof.Machine.execOrderRead s
  | .orderRelease => Sys2Proof.Machine.execOrderRelease s
  | .pulseAssert ch ms => Sys2Proof.Machine.execPulseAssert ch ms s
  | .pulseEnd ch ms => Sys2Proof.Machine.execPulseEnd ch ms s
  | .pulseJam ch => Sys2Proof.Machine.execPulseJam ch s
  | .trainGapExpiry ch => Sys2Proof.Machine.execTrainGapExpiry ch s
  | .focusSet => Sys2Proof.Machine.execFocusSet s
  | .focusClear => Sys2Proof.Machine.execFocusClear s
  | .channelReset ms => Sys2Proof.Machine.execChannelReset ms s
  | .poolApply => Sys2Proof.Machine.execPoolApply s
  | .poolPayout => Sys2Proof.Machine.execPoolPayout s
  | .tallyRead => Sys2Proof.Machine.execTallyRead s
  | .tallyClear => Sys2Proof.Machine.execTallyClear s
  | .cardAuthorize => Sys2Proof.Machine.execCardAuthorize s
  | .cashlessMessageSent => Sys2Proof.Machine.execCashlessMessageSent s
  | .approved b => Sys2Proof.Machine.execApproved b s
  | .declined b => Sys2Proof.Machine.execDeclined b s
  | .captured b => Sys2Proof.Machine.execCaptured b s
  | .released b => Sys2Proof.Machine.execReleased b s
  | .unknownTerminalMessage b => Sys2Proof.Machine.execUnknownTerminalMessage b s
  | .cashlessCheckDiscard b => Sys2Proof.Machine.execCashlessCheckDiscard b s
  | .cashlessGapExpiry => Sys2Proof.Machine.execCashlessGapExpiry s
  | .cashlessStopBitError => Sys2Proof.Machine.execCashlessStopBitError s
  | .authorizeTimeout => Sys2Proof.Machine.execAuthorizeTimeout s
  | .settlementOpTimeout => Sys2Proof.Machine.execSettlementOpTimeout s
  | .lateReleaseTimeout => Sys2Proof.Machine.execLateReleaseTimeout s
  | .bandTake => Sys2Proof.Machine.execBandTake s
  | .regionOpen => Sys2Proof.Machine.execRegionOpen s
  | .regionClose => Sys2Proof.Machine.execRegionClose s
  | .spoolGrant pick => Sys2Proof.Machine.execSpoolGrant pick s
  | .spoolAccessDone => Sys2Proof.Machine.execSpoolAccessDone s
  | .engineOnline => Sys2Proof.Machine.execEngineOnline s
  | .engineOffline => Sys2Proof.Machine.execEngineOffline s
  | .engineClear => Sys2Proof.Machine.execEngineClear s
  | .mediaSet => Sys2Proof.Machine.execMediaSet s
  | .drawComplete e => Sys2Proof.Machine.execDrawComplete e s
  | .panelMotionComplete e panelTemp lineTemp => Sys2Proof.Machine.execPanelMotionComplete e panelTemp lineTemp s
  | .motionTimeout e => Sys2Proof.Machine.execMotionTimeout e s
  | .sensorFaultCondition e report => Sys2Proof.Machine.execSensorFaultCondition e report s
  | .thermistorSample e temp => Sys2Proof.Machine.execThermistorSample e temp s
  | .strobePassDone e lineTemp => Sys2Proof.Machine.execStrobePassDone e lineTemp s
  | .ejectComplete e => Sys2Proof.Machine.execEjectComplete e s
  | .linkByteReceived b => Sys2Proof.Machine.execLinkByteReceived b s
  | .cashlessByteReceived b => Sys2Proof.Machine.execCashlessByteReceived b s
  | .abortEjectComplete e => Sys2Proof.Machine.execAbortEjectComplete e s

end Sys2Proof.Machine
end

