-- ==== Sys2Proof/Safety.lean ====
section
/-! DEFINITION. What counts as a safe run, and the terms the statements use: a request at the head of the control request
queue, the state in which its REPLY waits, and the invariants of the spool memory, the tally and the money fields. -/

namespace Sys2Proof.Machine

/-- The outcome is a next state. -/
def completes : Host.Outcome State Fault Refusal → Bool
  | .next _ => true
  | .fault _ | .refused _ => false

/-- `k` steps from `s` all answer a next state. -/
def safeRun : Nat → State → Bool
  | 0, _ => true
  | k + 1, s =>
    match step s with
    | .next s' => safeRun k s'
    | .fault _ | .refused _ => false

/-! ### Requests -/

/-- SETUP, LIVE and DRAIN, the modes in which the control handler carries out requests (R18). -/
def Mode.serving : Mode → Bool
  | .setup | .live | .drain => true
  | .parkPending | .parked | .waking => false

/-- LIVE and DRAIN. -/
def Mode.trading : Mode → Bool
  | .live | .drain => true
  | .setup | .parkPending | .parked | .waking => false

/-- The handler is idle, outside reset, and the head of the control request queue is a request of code `code` with the
argument bytes `args`, whatever its reserved byte holds; `rest` stands behind it (R8, 13.1). -/
structure State.Asks (s : State) (code : Byte) (tag : Nat) (args : List Byte) (rest : List CtrlEntry) : Prop where
  running : s.inReset = false
  idle : s.lnk.handler = .idle
  head : ∃ reserved : Byte, s.lnk.ctrl = { tag := tag, payload := code :: reserved :: args } :: rest

/-- The request has been taken from the head and its REPLY waits for the hand-over (R8, R10); all else is as it was. -/
def State.replying (s : State) (rest : List CtrlEntry) (tag : Nat) (code : Byte) (status : Status) (result : List Byte)
    (h : Handover := .plain) : State :=
  { s with lnk := { s.lnk with
      ctrl := rest, handler := .serving { tag := tag, code := code, status := status, result := result } h } }

/-- The requests that have one argument length: the command, its code and the number of argument bytes (13.1). -/
def requestRows (ms : Nat) : List (Instr × Byte × Nat) :=
  [(.tableRead, 0x02, 6), (.statusRead, 0x03, 1), (.eventMask, 0x04, 4), (.goLive, 0x10, 2), (.drain, 0x11, 0),
    (.resume, 0x12, 0), (.park, 0x13, 0), (.wakeSet, 0x14, 2), (.pathReset, 0x15, 0), (.slotUnbind, 0x20, 1),
    (.sectorRead, 0x21, 8), (.readCancel, 0x22, 4), (.orderOpen, 0x30, 4), (.orderCommit, 0x31, 2),
    (.orderCancel, 0x32, 2), (.orderResume, 0x33, 2), (.orderRead, 0x34, 2), (.orderRelease, 0x35, 2),
    (.itemAdd, 0x36, 10), (.itemWithdraw, 0x37, 1), (.focusSet, 0x40, 2), (.focusClear, 0x41, 0),
    (.channelReset ms, 0x42, 1), (.poolApply, 0x43, 8), (.poolPayout, 0x44, 4), (.tallyRead, 0x45, 0),
    (.tallyClear, 0x46, 0), (.cardAuthorize, 0x48, 8), (.regionOpen, 0x50, 8), (.regionClose, 0x51, 1),
    (.engineOnline, 0x60, 1), (.engineOffline, 0x61, 1), (.engineClear, 0x62, 1), (.mediaSet, 0x63, 4)]

/-- One slot record stands as given; all else is as it was. -/
def State.withSlot (s : State) (i : Fin 4) (x : Slot) : State :=
  { s with csu := { s.csu with slots := s.csu.slots.set i x } }

/-- A capture has been raised; all else is as it was. -/
def State.captured (s : State) (k : CaptureKind) : State := { s with svc := s.svc.capture k }

/-- One live order record stands as given; all else is as it was. -/
def State.withOrder (s : State) (k : Fin 32) (o : Order) : State :=
  { s with ord := { s.ord with orders := s.ord.orders.set k (some o) } }

/-- One item entry stands as given; all else is as it was. -/
def State.withItem (s : State) (id : Fin 64) (it : Item) : State :=
  { s with ord := { s.ord with items := s.ord.items.set id (some it) } }

/-- One channel record stands as given; all else is as it was. -/
def State.withChan (s : State) (c : Fin 6) (ch : Channel) : State :=
  { s with pay := { s.pay with chans := s.pay.chans.set c ch } }

/-- One engine record stands as given; all else is as it was. -/
def State.withEngine (s : State) : EngineId → Engine → State
  | .A, en => { s with engA := en }
  | .B, en => { s with engB := en }

/-- A card bus that does nothing. -/
def quietBus : CardBus := { phase := .idle, busyRun := none, orphan := false }

/-- A slot whose identify has failed (R40). -/
def Slot.identifyFailed (x : Slot) : Slot :=
  { x with state := .fault, identity := none, resume := none, identify := none, bus := quietBus }

/-- The empty frame that ends a request with an outcome (R61, R63). -/
def endingFrame (i : Fin 4) (r : ReadReq) (outcome : ReadOutcome) : SectorFrame :=
  { uid := r.uid, tag := r.tag, slot := i, preview := r.preview, retried := false, last := true, outcome := outcome
    sector := r.next, owner := r.owner, data := [] }

/-- The slot has the turn of the transfer path (R56). -/
def Cards.turnOf (c : Cards) (i : Fin 4) : Bool := c.turn.any fun v => v.slot == i

/-- The turn that begins when none runs: the first slot with a non-empty read queue in the order last served + 1, + 2, + 3
and last served, counted modulo 4 (R57). -/
def Cards.nextTurn (c : Cards) : Option Turn :=
  (([1, 2, 3, 0] : List (Fin 4)).map fun d => c.lastServed + d).find? (fun j => c.slots[j].queue != [])
    |>.map fun j => { slot := j, count := 0 }

/-- The turn of a slot, if it runs, has ended, and the next one has begun (R57, R60). -/
def Cards.turnEnded (c : Cards) (i : Fin 4) : Cards :=
  let c' : Cards := if c.turnOf i then { c with turn := none, lastServed := i } else c
  if c'.turn = none then { c' with turn := c'.nextTurn } else c'

/-- A place holds a frame of a read request. -/
def holdsFrame (place : Option SectorFrame) (r : ReadReq) : Bool := place.any fun f => f.uid == r.uid

/-- The frames of slot `i` once the requests `rs` have ended with an outcome (R63): LAST and the outcome stand in a request's
most recent frame where the transfer buffer or else the offered position still holds it, and in an empty frame at the tail
of the ending list otherwise. -/
def Cards.readsEnded (c : Cards) (i : Fin 4) (rs : List ReadReq) (outcome : ReadOutcome) : Cards :=
  let last (f : SectorFrame) : SectorFrame := { f with last := true, outcome := outcome }
  { c with
    buffer := c.buffer.map fun f => if rs.any (fun r => f.uid == r.uid) then last f else f
    offered := c.offered.map fun f => if rs.any (fun r => f.uid == r.uid && !holdsFrame c.buffer r) then last f else f
    endings := c.endings ++
      (rs.filter fun r => !holdsFrame c.buffer r && !holdsFrame c.offered r).map fun r => endingFrame i r outcome }

/-- The slots and the transfer path once the binding of slot `i` has been dropped (R46, R66): the slot moves as R46 says, and
the reads of a BOUND slot end CANCELLED, but for the one in service with an attempt under way, whose cancel is pending. -/
def Cards.bindingDropped (c : Cards) (i : Fin 4) : Cards :=
  let x := c.slots[i]
  let reading : Bool := c.turnOf i && x.bus.phase != .idle && !x.bus.orphan
  let unbound (queue : List ReadReq) : Slot :=
    { x with
      bound := none, queue := queue
      state := match x.state with
        | .bound | .foreign => .ready
        | .absentBound => .empty
        | other => other
      allowance := if x.state = .bound ∨ x.state = .foreign then c.previewAllowance else x.allowance }
  if x.state = .bound then
    match reading, x.queue with
    | true, r :: rest =>
      { c.readsEnded i rest .cancelled with slots := c.slots.set i (unbound [{ r with cancelPending := true }]) }
    | _, _ => { c.readsEnded i x.queue .cancelled with slots := c.slots.set i (unbound []) }.turnEnded i
  else { c with slots := c.slots.set i (unbound x.queue) }

/-- The requests of a slot are told apart by their numbers, and none of a bound slot's is a preview (R55, log entry 26). -/
def Slot.readsApart (x : Slot) : Prop :=
  (∀ r ∈ x.queue, r.preview = false) ∧ ∀ r rest, x.queue = r :: rest → ∀ q ∈ rest, q.uid ≠ r.uid

/-- A frame as the transmitter begins it (R1, R2, R11): ALERT_ACTIVE as ALERT stands then, and the CRC. -/
def State.frameBegun (s : State) (cls : Byte) (tag : Nat) (payload : List Byte) : TxFrame :=
  let flags : Byte := if s.alert then 1 else 0
  { cls := cls, flags := flags, tag := tag, payload := payload, crc := crc16 (coveredBytes cls flags tag payload) }

/-- A REPLY has joined the tail of the reply queue, and an idle transmitter has taken the head (R10, R11). -/
def State.replied (s : State) (r : Reply) : State :=
  match s.lnk.tx, s.lnk.replies ++ [r] with
  | none, q :: rest =>
    { s with lnk := { s.lnk with tx := some (s.frameBegun 0x81 q.tag (q.code :: q.status.code :: q.result)), replies := rest } }
  | _, queue => { s with lnk := { s.lnk with replies := queue } }

/-- The offered position is refilled when it is empty (R62): from the ending list, oldest first, else from the transfer
buffer. -/
def Cards.offering (c : Cards) : Cards :=
  match c.offered, c.endings with
  | some _, _ => c
  | none, f :: rest => { c with offered := some f, endings := rest }
  | none, [] => { c with offered := c.buffer, buffer := none }

/-- The frames have moved on as far as R11 and R62 let them: the offered position is refilled, an idle transmitter takes the
head of the reply queue, else the offered SECTOR frame, and the place that leaves is refilled. Where a frame is being sent
and another is offered, nothing moves. -/
def State.framesMoved (s : State) : State :=
  let c := s.csu.offering
  match s.lnk.tx, s.lnk.replies, c.offered with
  | none, q :: rest, _ =>
    { s with
      lnk := { s.lnk with tx := some (s.frameBegun 0x81 q.tag (q.code :: q.status.code :: q.result)), replies := rest }
      csu := c }
  | none, [], some f =>
    { s with
      lnk := { s.lnk with tx := some (s.frameBegun 0x82 f.tag f.payload) }
      csu := { c with offered := none }.offering }
  | _, _, _ => { s with csu := c }

/-- An order's record once its binding is dropped (R46); an order without a slot keeps its fields. -/
def Order.unbound (o : Order) : Order := if o.slot.isSome then { o with slot := none, locked := none } else o

/-- The slots and the transfer path once an order's binding is dropped (R46). -/
def Cards.orderUnbound (c : Cards) (o : Order) : Cards :=
  match o.slot with
  | some i => c.bindingDropped i
  | none => c

/-- The requests of an order's slot are told apart. -/
def State.slotApart (s : State) (o : Order) : Prop := ∀ i, o.slot = some i → s.csu.slots[i].readsApart

/-- The frames have moved on once an order's binding is dropped: only the drop of a BOUND slot's ends reads (R46, R66). -/
def State.framesUnbound (t : State) (before : Cards) (o : Order) : State :=
  if o.slot.any fun i => before.slots[i].state == .bound then t.framesMoved else t

/-- The granted access of a requester that no longer wants it (R159). -/
def disowned (port : Option Access) (who : Requester) : Option Access :=
  port.map fun a => if a.who = who then { a with live := false } else a

/-- The receive frame assembler stands as given; all else is as it was. -/
def State.assembling (s : State) (a : Assembler) : State := { s with lnk := { s.lnk with asm := a } }

/-- A frame has been discarded (R4, R5): LINK_ERROR is captured, the link error count has risen, and so has the number of
discards since a snapshot that is outstanding; all else is as it was. -/
def State.discarded (s : State) : State :=
  { s with
    svc := s.svc.capture .linkError
    lnk := { s.lnk with
      errorCount := min (s.lnk.errorCount + 1) 65535
      discards := if s.svc.snapshot.isSome then min (s.lnk.discards + 1) 65535 else s.lnk.discards } }

/-- The receive frame assembler holds all of a frame but its second CRC byte: the bytes `frame` from the class to the end of
the payload, and the first CRC byte `lo` (R1, R3). -/
structure State.Framed (s : State) (frame : List Byte) (lo : Byte) : Prop where
  running : s.inReset = false
  check : s.lnk.asm.state = .check
  bytes : s.lnk.asm.bytes = frame ++ [lo]
  length : frame.length = 6 + u16 frame 4

/-- The receiver of the cashless line stands as given; all else is as it was. -/
def State.receiving (s : State) (r : Receiver) : State := { s with clc := { s.clc with rx := r } }

/-- The receiver of the cashless line holds a message of a type with a body, all but its check byte, and the byte `b` that now
comes is the sum of the others (R126, R127). -/
structure State.Heard (s : State) (type : Byte) (body : List Byte) (b : Byte) : Prop where
  running : s.inReset = false
  sum : s.clc.rx.state = .sum
  bytes : s.clc.rx.bytes = type :: byte body.length :: body
  check : b = sum8 (type :: byte body.length :: body)

/-- The outstanding operation has ended and no other waits for its place (R129). -/
def State.operationEnded (s : State) : State := { s with clc := { s.clc with outstanding := none } }

/-- The offsets of the reserved bytes of an entry (13.4). -/
def reservedOffsets : TableId → List Nat
  | .product => [1, 14, 15]
  | .priceKey => [1]
  | .params _ => [3]
  | .tone _ | .energy _ | .channels | .slotParams => []

/-- An entry as the part holds it: its reserved bytes are zero (R192). -/
def heldEntry (t : TableId) (entry : List Byte) : List Byte :=
  (List.range t.entrySize).map fun o => if o ∈ reservedOffsets t then 0 else entry.getD o 0

/-- The rule that an entry of a loadable table must keep, field by field (R48, R68, R69, R107, R145, R180, R181, R192),
`index` being its place in the table. -/
def entryRule (T : TableId) (index : Nat) (entry : List Byte) : Prop :=
  match T with
  | .product => u8 entry 0 = 0 ∨ (u8 entry 0 = 1 ∧ 2 ≤ u8 entry 8 ∧ u8 entry 8 ≤ u8 entry 9 ∧ u8 entry 9 ≤ 100
      ∧ u8 entry 10 % 4 ≠ 0 ∧ u8 entry 11 ≤ 15 ∧ u8 entry 12 ≤ 2 ∧ u8 entry 13 ≤ 3)
  | .priceKey => u8 entry 0 ≤ 7
  | .tone _ => if index < 9 then u16 entry 0 ≤ 511 ∨ 65024 ≤ u16 entry 0 else u16 entry 0 ≤ 255
  | .energy _ => u16 entry 0 ≤ 1023
  | .params _ => u8 entry 0 ≤ 60 ∧ u8 entry 1 ≤ 31 ∧ 1023 ≤ u32 entry 4 ∧ u32 entry 4 ≤ 1964160 ∧ u8 entry 8 ≤ 89
      ∧ u8 entry 8 < u8 entry 9 ∧ u8 entry 9 ≤ 90
  | .channels => u8 entry 0 ≤ 1 ∧ u8 entry 1 ≤ 1 ∧ 5 ≤ u16 entry 4 ∧ u16 entry 4 ≤ 250 ∧ u16 entry 4 ≤ u16 entry 6
      ∧ u16 entry 6 ≤ 500 ∧ 50 ≤ u16 entry 8 ∧ u16 entry 8 ≤ 1000
  | .slotParams => True

/-- A debounce timer of the service key runs at its index, those of the slots at theirs (R30). -/
def debouncePin (s : State) (src : Fin 5) : Bool := if h : src.val < 4 then s.pins.detect[src.val] else s.pins.key

/-- A slot that enters IDENTIFYING (R39). -/
def Slot.identifying (x : Slot) (resume : Option ResumeState) : Slot :=
  { x with
    state := .identifying, settling := none, holdComplete := false, resume := resume
    identify := some { limit := some 1000, read := none }, bus := { quietBus with phase := .awaiting .resetCard 0 } }

/-- A slot at the return to LIVE (R50): a settled card and one that was known before the park are identified; every other
slot stays as it is. -/
def Slot.woken (x : Slot) : Slot :=
  match x.state with
  | .settling => if x.holdComplete then x.identifying x.resume else x
  | .ready => x.identifying (some .ready)
  | .bound => x.identifying (some .bound)
  | .foreign => x.identifying (some .foreign)
  | .empty | .identifying | .absentBound | .fault => x

/-- A slot on entry to PARKED (R49): its bus goes quiet, and out of IDENTIFYING it returns to its resume state, or to SETTLING
with hold complete set when it has none. -/
def Slot.parked (x : Slot) : Slot :=
  if x.state = .identifying then
    match x.resume with
    | none => { x with state := .settling, holdComplete := true, identify := none, bus := quietBus }
    | some r =>
      let before : SlotState := match r with
        | .ready => .ready
        | .bound => .bound
        | .foreign => .foreign
      { x with state := before, resume := none, identify := none, bus := quietBus }
  else { x with bus := quietBus }

/-- An engine that has entered FAULT (R171, R189). -/
def Engine.faulted (en : Engine) (k : FaultKind) : Engine :=
  { en with
    state := .fault, fault := some k, panel := none, line := none, motion := none, readWaiting := false
    hdu := { en.hdu with drive := none } }

/-- An engine at the return to LIVE with an empty queue (R179): in IDLE it acts on a condition that its sensors report. -/
def Engine.restored (en : Engine) (condition : Option FaultKind) : Engine :=
  if en.state = .idle then
    match condition with
    | some k => en.faulted k
    | none => { en with panel := none, line := none, motion := none }
  else en

/-- What an IDLE engine with the item `id` at the head of its queue does (R166, R167), here when no other item waits behind
it: with no print remaining it needs media; otherwise the item is PRINTING, and with the media the record names a sheet is
taken and its draw starts, and with another the engine is in FAULT with the item left at the head. -/
def State.copyBegun (s : State) (e : EngineId) (id : Fin 64) (it : Item) : State :=
  let en := s.eng e
  if en.prints = 0 then (s.withEngine e { en with state := .needsMedia }).captured .mediaOut
  else
    let t := s.withItem id { it with state := .printing }
    if (s.toPart.sensors e).media.val = en.mediaKind then
      let loading := t.withEngine e { en with state := .loading, prints := en.prints - 1, motion := some .draw }
      if en.prints = 21 then loading.captured .mediaLow else loading
    else
      { (t.withEngine e (en.faulted .mediaMismatch)).captured .engineFault with
        spl := { s.spl with port := disowned s.spl.port (.engine e) } }

/-- An engine is eligible for an item (R88). -/
def State.mayTake (s : State) (e : EngineId) (it : Item) : Prop :=
  let en := s.eng e
  (match e with
    | .A => it.maskA
    | .B => it.maskB) = true
    ∧ en.state ∈ [.idle, .loading, .panel, .heatHold, .ejecting] ∧ en.offlinePending = false ∧ en.mediaKind = it.media
    ∧ en.queue.length < 8

/-- The regions once an item has let go of its own (R74). -/
def State.regionFreed (s : State) (id : Fin 64) (it : Item) : Vector Region 16 :=
  let held := s.spl.regions[it.region]
  s.spl.regions.set it.region (if held.holder = some id then { held with holder := none } else held)

/-- An order has work beside one of its items, so that it does not settle when that item ends (R99). -/
def State.worksBeside (s : State) (id : Fin 64) (o : Order) : Prop :=
  ∃ j ∈ o.items, j ≠ id ∧ ∃ other, s.ord.items[j] = some other ∧ other.state.terminal = false

/-- An engine has entered FAULT and its queue is empty (R171, R173). -/
def State.engineStopped (s : State) (e : EngineId) (k : FaultKind) : State :=
  { (s.withEngine e { (s.eng e).faulted k with queue := [] }).captured .engineFault with
    spl := { s.spl with port := disowned s.spl.port (.engine e) } }

/-- A command whose fault of kind `k` fails the copy in progress on engine `e` answers so (R171 to R173, R81, R85, R97): the
engine is in FAULT with an empty queue. At the item's first failed copy the item goes back to the front of the release list,
or is withdrawn when its order is cancelled; at its second it is FAILED. The QUEUED items behind it go back after it. No
item waits in the release list, the other engine takes none that goes back, and an order whose item ends here has other
work. -/
def State.copyFails (s : State) (e : EngineId) (k : FaultKind) (answer : Host.Outcome State Fault Refusal) : Prop :=
  ∀ (id : Fin 64) (waiting : List (Fin 64)) (it : Item) (o : Order), (s.eng e).queue = id :: waiting →
    s.ord.items[id] = some it → it.state = .printing → s.ord.orders[it.order] = some o → s.ord.release = [] →
    (∀ j ∈ waiting, ∃ w ow, s.ord.items[j] = some w ∧ w.state = .queued ∧ s.ord.orders[w.order] = some ow
      ∧ ow.cancel = false) →
    (∀ j ∈ id :: waiting, ∀ w, s.ord.items[j] = some w → ∀ other, other ≠ e →
      ¬ s.mayTake other w ∧ j ∉ (s.eng other).queue) →
    let stopped := s.engineStopped e k
    let back := if it.debited then it.price - it.price * it.copiesDone / it.copies else 0
    let marked (ids : List (Fin 64)) : List ReleaseEntry := ids.map fun j => { item := j, marked := true }
    let items (head : Item) (j : Fin 64) : Option Item :=
      if j = id then some head
      else if j ∈ waiting then (s.ord.items[j]).map fun w => { w with state := .spooled, engine := none }
      else s.ord.items[j]
    (it.reprintUsed = false → o.cancel = false →
        ∃ t, answer = .next t
          ∧ t = { stopped with ord := { s.ord with items := t.ord.items, release := marked (id :: waiting) } }
          ∧ ∀ j : Fin 64, t.ord.items[j] = items { it with reprintUsed := true, state := .spooled, engine := none } j)
      ∧ (it.reprintUsed = true → s.worksBeside id o →
        ∃ t, answer = .next t
          ∧ t = { stopped.captured .itemFailed with
              ord := { s.ord with
                orders := s.ord.orders.set it.order (some { o with consumed := o.consumed - back })
                items := t.ord.items, release := marked waiting }
              spl := { stopped.spl with regions := s.regionFreed id it } }
          ∧ ∀ j : Fin 64, t.ord.items[j] = items
            { it with state := .failed, reason := some .engineFaultTwice, engine := none, debited := false } j)
      ∧ (it.reprintUsed = false → o.cancel = true → s.worksBeside id o → waiting = [] →
        (∀ x, s.rin.intake[id] = some x → x.receiving = false) →
        answer = .next { stopped with
          ord := { s.ord with
            orders := s.ord.orders.set it.order
              (some { o with consumed := o.consumed - back, total := o.total - it.price })
            items := s.ord.items.set id (some { it with
              reprintUsed := true, state := .withdrawn, reason := none, engine := none, debited := false }) }
          spl := { stopped.spl with regions := s.regionFreed id it } })

/-- The engine that takes an item (R88): it is eligible, and when the other is eligible too its queue is the shorter one, A
taking the item when both are equal. -/
def State.takes (s : State) (e : EngineId) (it : Item) : Prop :=
  s.mayTake e it ∧ match e with
    | .A => s.mayTake .B it → s.engA.queue.length ≤ s.engB.queue.length
    | .B => s.mayTake .A it → s.engB.queue.length < s.engA.queue.length

/-- An order lets an item go (R87 steps 1 and 2, R94, R95). -/
def Order.letsItemGo (o : Order) (it : Item) : Prop :=
  (o.state = .opened ∨ o.state = .committed) ∧ o.cancel = false
    ∧ (it.debited = true
      ∨ (o.consumed + it.price ≤ o.cashIn + o.cardAuth ∧ o.consumed + it.price ≤ 16777215
        ∧ (o.funding = .prepay → o.state = .committed ∧ o.total ≤ o.cashIn + o.cardAuth)))

/-- A walk has released the one entry of the release list to engine `e` (R87 step 4, R96, R166): the item is debited and
QUEUED at the tail of the engine's queue, and an IDLE engine, whose queue was empty, begins its copy. -/
def State.released (s : State) (e : EngineId) (id : Fin 64) (it : Item) (o : Order) : State :=
  let queued : Item := { it with debited := true, state := .queued, engine := some e }
  let t := (s.withOrder it.order { o with consumed := if it.debited then o.consumed else o.consumed + it.price }).withItem id
    queued
  let u := { t with ord := { t.ord with release := [] } }.withEngine e
    { s.eng e with queue := (s.eng e).queue ++ [id] }
  if (s.eng e).state = .idle then u.copyBegun e id queued else u

/-- What a wake to LIVE leaves: the mode LIVE, every debounce timer stopped, every enable flag clear, WAKE captured, the
slots as R50 says and, where no item waits in the release list either, the engines as R179 says, the engine queues being
empty as R23 has them at a park, and the request flags, the alert mask, the strap, the spool's bytes and the tables as they
were (R25, R28, R29, R30). -/
def State.wokenFrom (t s : State) : Prop :=
  t.svc.mode = .live ∧ t.svc.debounce = Vector.replicate 5 none ∧ t.svc.enable = 0 ∧ t.svc.request = s.svc.request
    ∧ t.svc.captureSet.has .wake = true ∧ t.svc.alertMask = s.svc.alertMask ∧ t.svc.strap = s.svc.strap
    ∧ ((∀ e, (s.eng e).queue = []) → (∀ i : Fin 4, t.csu.slots[i] = s.csu.slots[i].woken)
      ∧ (s.ord.release = [] → ∀ e, t.eng e = (s.eng e).restored (s.toPart.sensors e).condition))
    ∧ t.spl.mem = s.spl.mem ∧ ∀ T, t.tableBytes T = s.tableBytes T

/-- The pulse source has set its request flag beside what the pulse itself made of the state, `t`, and a wake condition that
arises by it has acted (R24, R26, R29): it ends the grace in PARK_PENDING and wakes the part to LIVE in PARKED and WAKING.
That the wake leaves the money and the orders as the pulse made them is said where no engine and no release entry holds an
item. -/
def State.pulseWakes (s t : State) (answer : Host.Outcome State Fault Refusal) : Prop :=
  let asked : State := { t with svc := { t.svc with request := s.svc.request ||| 16 } }
  let arises : Prop := s.svc.enable.getLsbD 4 = true ∧ s.svc.request.getLsbD 4 = false
  (¬ arises ∨ s.svc.mode.serving = true → answer = .next asked)
    ∧ (arises → s.svc.mode = .parkPending →
      answer = .next { asked with svc := { asked.svc with mode := .drain, grace := none } })
    ∧ (arises → s.svc.mode.dark = true → ∃ u, answer = .next u
      ∧ u.wokenFrom asked ∧ (∀ k : CaptureKind, t.svc.captureSet.has k = true → u.svc.captureSet.has k = true)
      ∧ u.now = t.now ∧ u.pins = t.pins
      ∧ ((∀ e, (s.eng e).queue = []) → s.ord.release = [] → u.pay = t.pay ∧ u.ord = t.ord))

/-! ### Invariants -/

/-- The tone sets and energy tables have the number of words that 13.4 gives. -/
def State.tablesSized (s : State) : Prop :=
  (∀ k : Fin 4, s.rin.tones[k].length = 777) ∧ ∀ e : EngineId, (s.eng e).hdu.energy.length = 1024

/-- The spool memory of a state is in its canonical form. -/
def State.memoryOk (s : State) : Bool := Memory.wf s.spl.mem

/-- The cash of a live order record that is not CLOSED (R119). -/
def openCash : Option Order → Nat
  | some o => if o.state == .closed then 0 else o.cashIn
  | none => 0

/-- Tally counted equals kept, the pool and the cash of the live order records that are not CLOSED (R119). -/
def State.tallyHolds (s : State) : Prop :=
  s.pay.counted = s.pay.kept + s.pay.pool + (s.ord.orders.toList.map openCash).sum

/-- An order has consumed no more than its funds, and holds an authorized amount only after an approval (R92, R93, R131). -/
def Order.moneyOk (o : Order) : Prop :=
  o.consumed ≤ o.cashIn + o.cardAuth ∧
    ((o.cashless.state = .none ∨ o.cashless.state = .pending ∨ o.cashless.state = .declined ∨
      o.cashless.state = .timedOut) → o.cardAuth = 0)

/-- Every live order record keeps to its funds. -/
def State.moneyHolds (s : State) : Prop := ∀ k : Fin 32, ∀ o, s.ord.orders[k] = some o → o.moneyOk

end Sys2Proof.Machine
end

