-- ==== Sys2Proof/Certificates/Slice0/Obligations.lean ====
section
/-! DEFINITION. The statements for the provers, one per numbered rule or group of rules of the spec. -/

open Sys2Proof Sys2Proof.Machine

/-! ### The command queue, reset -/

/-- A step carries out the command at the front of the queue with the queue's rest, and idles on an empty queue. The form
of a step is the model's choice (log entry 2). -/
def Obligations.StepCarriesOutTheFrontCommand : Prop :=
  (∀ (c : Instr) (s : State) (rest : List Instr), s.pending = c :: rest →
      step s = exec c { s with pending := rest })
    ∧ ∀ s : State, s.pending = [] → step s = .next s

/-- A command answers a next state that leaves the commands that wait as they were (log entry 2), but for the completion of an
access that reaches beyond the 256 MiB of the spool memory (R153, log entry 10). -/
def Obligations.OnlyAnAccessBeyondTheSpoolStops : Prop :=
  ∀ (c : Instr) (s : State),
    (∃ t, exec c s = .next t ∧ t.pending = s.pending)
      ∨ (c = .spoolAccessDone ∧ exec c s = .fault .spoolAddress
          ∧ ∃ a, s.spl.port = some a ∧ 268435456 < a.addr + max a.len a.bytes.length)

/-- The values that the spec gives the part after power-on reset (R3, R5, R7, R10, R15, R18, R21, R33, R56, R91, R107, R108,
R116, R127, R129, R139, R145, R153, R159, R162, R180, R181). -/
def Obligations.ResetHoldsTheValuesOfTheRules : Prop :=
  let s := State.reset
  (s.svc.mode = .setup ∧ s.svc.grace = none ∧ s.svc.request = 0 ∧ s.svc.enable = 0
      ∧ s.svc.debounce = Vector.replicate 5 none ∧ s.svc.captureSet = 0 ∧ s.svc.alertMask = 0 ∧ s.svc.again = 0)
    ∧ (s.lnk.asm.state = .hunt ∧ s.lnk.asm.gap = none ∧ s.lnk.errorCount = 0 ∧ s.lnk.ctrl = [] ∧ s.lnk.replies = []
      ∧ s.lnk.tx = none)
    ∧ ((∀ i : Fin 4, s.csu.slots[i].state = .empty ∧ s.csu.slots[i].identity = none ∧ s.csu.slots[i].bound = none
          ∧ s.csu.slots[i].allowance = 0 ∧ s.csu.slots[i].delivered = 0 ∧ s.csu.slots[i].queue = [])
      ∧ s.csu.turn = none ∧ s.csu.lastServed = 3 ∧ s.csu.buffer = none ∧ s.csu.offered = none ∧ s.csu.endings = []
      ∧ s.csu.previewAllowance = 8192)
    ∧ ((∀ k : Fin 32, s.ord.orders[k] = none ∧ s.ord.products[k].valid = false) ∧ (∀ i : Fin 64, s.ord.items[i] = none)
      ∧ s.ord.priceKey = 0 ∧ s.ord.release = [])
    ∧ ((∀ c : Fin 6, s.pay.table[c]
            = { enabled := false, group := .coin, value := 0, minWidth := 20, maxWidth := 120, gap := 300 }
          ∧ s.pay.chans[c].jammed = false ∧ s.pay.chans[c].train = none)
      ∧ s.pay.focus = none)
    ∧ (s.clc.queue = [] ∧ s.clc.outstanding = none ∧ s.clc.late = [] ∧ s.clc.rx.state = .hunt)
    ∧ ((∀ k : Fin 4, s.rin.tones[k].length = 777 ∧ (s.rin.tones[k]).take 9 = [256, 0, 0, 0, 256, 0, 0, 0, 256])
      ∧ s.rin.queue = [] ∧ s.rin.conv = none)
    ∧ ((∀ r : Fin 16, s.spl.regions[r].valid = false) ∧ s.spl.port = none ∧ s.spl.lastServed = .engine .B)
    ∧ ∀ e : EngineId, (s.eng e).panel = none ∧ (s.eng e).fault = none ∧ (s.eng e).queue = []
        ∧ (s.eng e).offlinePending = false
        ∧ (s.eng e).params = { tref := 25, kT := 0, kH := 0, budget := 1964160, hold := 55, stop := 70 }
        ∧ (s.eng e).hdu.energy = List.replicate 1024 0

/-- The invariants that every step keeps hold after reset: the spool's bytes in their canonical form, the sizes of the tone
sets and energy tables (13.4), the sum of the tally (R119) and the money fields of the orders (R92). -/
def Obligations.InvariantsHoldAtReset : Prop :=
  State.reset.memoryOk = true ∧ State.reset.tablesSized ∧ State.reset.tallyHolds ∧ State.reset.moneyHolds

/-- Power-on reset sets the mode to SETUP, stops the timers, clears the wake flags and the capture set, empties every queue,
frees every order and item, and keeps the input levels and, of the tally, counted and the pool, kept becoming their
difference (R7, R10, R15, R18, R91, R106, R119). That the spool's bytes are kept, where R160 leaves the contents undefined,
is the model's choice (log entry 9), and so are that a write under way leaves none of its bytes (log entry 43) and engine B in
OFFLINE until RESET_RELEASE has latched the strap (log entry 8). -/
def Obligations.PowerOnResetKeepsTheMoney : Prop :=
  ∀ s : State, ∃ t, exec .powerOnReset s = .next t
    ∧ (t.svc.mode = .setup ∧ t.svc.grace = none ∧ t.svc.debounce = Vector.replicate 5 none ∧ t.svc.request = 0
        ∧ t.svc.enable = 0 ∧ t.svc.captureSet = 0 ∧ t.svc.alertMask = 0 ∧ t.svc.snapshot = none)
    ∧ t.lnk = State.reset.lnk ∧ t.csu = State.reset.csu ∧ t.ord = State.reset.ord ∧ t.clc = State.reset.clc
    ∧ t.rin = State.reset.rin ∧ t.spl = { State.reset.spl with mem := s.spl.mem }
    ∧ t.pay = { State.reset.pay with
        counted := s.pay.counted, kept := s.pay.counted - s.pay.pool, pool := s.pay.pool }
    ∧ (∀ e, (t.eng e).state = .offline ∧ (t.eng e).queue = [] ∧ (t.eng e).fault = none ∧ (t.eng e).mediaKind = 0
        ∧ (t.eng e).prints = 0)
    ∧ t.pins = s.pins ∧ t.pending = s.pending

/-- At reset release the strap is latched, engine B is ABSENT when it reads one engine, the temperatures are sampled, a slot
whose detect line is asserted starts to settle, and a channel whose line is asserted begins a pulse (R31, R33, R35, R108,
R162); all else is as the reset left it. That a service key held at that moment sets no request flag (log entry 36),
and that an ABSENT engine B keeps its temperature field (log entry 44), are the model's choices. -/
def Obligations.ResetReleaseLatchesTheStrap : Prop :=
  ∀ (s : State) (ms : Nat) (strap : Strap) (tempA tempB : Int), s.inReset = true → s.svc.mode = .setup →
    (∀ i : Fin 4, s.csu.slots[i].state = .empty) →
    ∃ t, exec (.resetRelease ms strap tempA tempB) s = .next t
      ∧ t = { s with
          now := max s.now ms, inReset := false, svc := { s.svc with strap := strap, request := t.svc.request }
          csu := { s.csu with slots := t.csu.slots }, pay := { s.pay with chans := t.pay.chans }
          engA := { s.engA with temperature := tempA }
          engB := if strap = .one then { s.engB with state := .absent } else { s.engB with temperature := tempB } }
      ∧ (∀ i : Fin 4, t.csu.slots[i]
            = (if s.pins.detect[i] then
                { s.csu.slots[i] with
                  state := .settling, delivered := 0, holdComplete := false, settling := some 250 }
              else s.csu.slots[i])
          ∧ t.svc.request.getLsbD i.val = (s.svc.request.getLsbD i.val || s.pins.detect[i]))
      ∧ (∀ j, 4 ≤ j → t.svc.request.getLsbD j = s.svc.request.getLsbD j)
      ∧ ∀ c : Fin 6, t.pay.chans[c]
          = if s.pins.pulse[c] then
              { s.pay.chans[c] with
                pulse := some { since := max s.now ms, jammer := false }
                train := s.pay.chans[c].train.map fun x => { x with gapSince := none } }
            else s.pay.chans[c]

/-! ### The order link -/

/-- HUNT, HEADER, PAYLOAD and the first byte of CHECK; the second byte of the payload length chooses between CHECK, PAYLOAD
and a discard, and a gap of more than 5 ms discards a frame that has begun but drops a lone 0xC3 in silence (R3, R4, R5). -/
def Obligations.LinkBytesAreAssembled : Prop :=
  ∀ s : State, s.inReset = false →
    let a := s.lnk.asm
    let taken (st : AsmState) (b : Byte) : Assembler :=
      { state := st, sawStart := false, bytes := a.bytes ++ [b], gap := some 5 }
    (∀ b : Byte,
        let after (x : Assembler) : Prop := exec (.linkByteReceived b) s = .next (s.assembling x)
        let n := u16 a.bytes 4
        (a.state = .hunt → a.sawStart = true → b = 0x3C →
            after { state := .header, sawStart := false, bytes := [], gap := some 5 })
          ∧ (a.state = .hunt → b = 0xC3 → after { state := .hunt, sawStart := true, bytes := [], gap := some 5 })
          ∧ (a.state = .hunt → b ≠ 0xC3 → (a.sawStart = true → b ≠ 0x3C) →
            after { state := .hunt, sawStart := false, bytes := [], gap := none })
          ∧ (a.state = .header → a.bytes.length < 5 → after (taken .header b))
          ∧ (a.state = .payload → a.bytes.length + 1 < 6 + n → after (taken .payload b))
          ∧ (a.state = .payload → a.bytes.length + 1 = 6 + n → after (taken .check b))
          ∧ (a.state = .check → a.bytes.length = 6 + n → after (taken .check b)))
      ∧ (∀ b : Byte, a.state = .header → a.bytes.length = 5 →
        let n := u16 (a.bytes ++ [b]) 4
        exec (.frameHeaderTaken b) s = .next
          (if n = 0 then s.assembling (taken .check b)
          else if n ≤ 4096 then s.assembling (taken .payload b)
          else s.discarded.assembling State.reset.lnk.asm))
      ∧ (a.gap ≠ none → exec .linkGapExpiry s = .next
          (if a.state = .hunt then s.assembling State.reset.lnk.asm else s.discarded.assembling State.reset.lnk.asm))

/-- A CTRL frame taken whole in SETUP, LIVE, DRAIN or PARK_PENDING joins the control request queue below 16 entries, is
answered QUEUE_FULL when 16 are held, and is discarded when the reply queue is full as well; in PARK_PENDING it returns the
mode to DRAIN whether or not it is queued (R3, R6, R7, R10, R24). The REPLY of a full queue joins the tail of the reply queue,
and an idle transmitter takes the head at once (R11). -/
def Obligations.CtrlFramesAreOffered : Prop :=
  ∀ (s : State) (frame : List Byte) (lo b : Byte), s.Framed frame lo →
    (crc16 frame).toNat = lo.toNat + 256 * b.toNat → frame.head? = some 0x01 → s.svc.mode.dark = false →
    let tag := u16 frame 2
    let payload := frame.drop 6
    let s' : State :=
      if s.svc.mode = .parkPending then
        { s.assembling State.reset.lnk.asm with svc := { s.svc with mode := .drain, grace := none } }
      else s.assembling State.reset.lnk.asm
    (s.lnk.ctrl.length < 16 →
        exec (.frameTaken b) s = .next
          { s' with lnk := { s'.lnk with ctrl := s.lnk.ctrl ++ [{ tag := tag, payload := payload }] } })
      ∧ (s.lnk.ctrl.length = 16 → s.lnk.replies.length < 8 →
        exec (.frameTaken b) s
          = .next (s'.replied { tag := tag, code := payload.getD 0 0, status := .queueFull, result := [] }))
      ∧ (s.lnk.ctrl.length = 16 → s.lnk.replies.length = 8 → exec (.frameTaken b) s = .next s'.discarded)

/-- A BAND frame taken whole joins the band queue, or is refused with BAND_DISCARD when four bands are held; a frame whose CRC
differs or whose class is neither CTRL nor BAND is discarded (R3, R4, R6, R139). -/
def Obligations.BandFramesAndBadFrames : Prop :=
  ∀ (s : State) (frame : List Byte) (lo b : Byte), s.Framed frame lo →
    let s' := s.assembling State.reset.lnk.asm
    let good := (crc16 frame).toNat = lo.toNat + 256 * b.toNat
    (good → frame.head? = some 0x02 → s.rin.queue.length < 4 →
        exec (.frameTaken b) s = .next { s' with rin := { s.rin with queue := s.rin.queue ++ [frame.drop 6] } })
      ∧ (good → frame.head? = some 0x02 → s.rin.queue.length = 4 →
        exec (.frameTaken b) s = .next { s' with svc := s.svc.capture .bandDiscard })
      ∧ (good → frame.head? ≠ some 0x01 → frame.head? ≠ some 0x02 → exec (.frameTaken b) s = .next s'.discarded)
      ∧ (¬ good → exec (.frameTaken b) s = .next s'.discarded)

/-- The handler hands its REPLY to the tail of the reply queue and what the request does at its hand-over takes place then; it
waits while eight replies are held (R10, R12, R20, R22, R23). A transmitter that is idle beside an empty reply queue begins
the REPLY at once, with ALERT_ACTIVE as ALERT stands then and the CRC of R2, and the reply queue stays empty (R1, R11). -/
def Obligations.RepliesAreHandedOver : Prop :=
  ∀ (s : State) (r : Reply) (h : Handover), s.inReset = false → s.lnk.handler = .serving r h →
    (8 ≤ s.lnk.replies.length → exec .replyHandover s = .next s)
      ∧ ∀ (tx : Option TxFrame) (replies : List Reply), s.lnk.replies.length < 8 →
        (s.lnk.tx ≠ none → tx = s.lnk.tx ∧ replies = s.lnk.replies ++ [r]) →
        (s.lnk.tx = none → s.lnk.replies = [] ∧ replies = []
          ∧ tx = some
            { cls := 0x81, flags := if s.alert then 1 else 0, tag := r.tag, payload := r.code :: r.status.code :: r.result
              crc := crc16 (coveredBytes 0x81 (if s.alert then 1 else 0) r.tag (r.code :: r.status.code :: r.result)) }) →
        let t : State := { s with lnk := { s.lnk with tx := tx, replies := replies, handler := .idle } }
        (h = .plain → exec .replyHandover s = .next t)
          ∧ (h = .goLive ∨ h = .resume → exec .replyHandover s = .next { t with svc := { s.svc with mode := .live } })
          ∧ (h = .drain → exec .replyHandover s = .next { t with svc := { s.svc with mode := .drain } })
          ∧ (h = .park → exec .replyHandover s
              = .next { t with svc := { s.svc with mode := .parkPending, grace := some 10000 } })
          ∧ (h = .pathReset → exec .replyHandover s = .next { t with lnk := { t.lnk with handler := .resetSending } })

/-- When the transmitter ends a frame it sends the REPLY at the head of the reply queue, else the SECTOR frame that the Card
Slot Unit offers, else nothing (R11). ALERT_ACTIVE is set as ALERT stands then, and the CRC is that of R2. An offered
position that is empty is refilled, from the oldest entry of the ending list, else from the transfer buffer, before the
choice and after it (R62). What the control handler holds stays, but for the wait for the end of the PATH_RESET REPLY, whose
effects are then due (R12; the two forms of PATH_RESET_EFFECTS are the model's, log entry 21). -/
def Obligations.TransmitterChoosesTheNextFrame : Prop :=
  ∀ (s : State) (f : TxFrame), s.inReset = false → s.lnk.tx = some f →
    let sent (cls : Byte) (tag : Nat) (payload : List Byte) : Option TxFrame :=
      let flags : Byte := if s.alert then 1 else 0
      some { cls := cls, flags := flags, tag := tag, payload := payload
             crc := crc16 (coveredBytes cls flags tag payload) }
    let handler : Handler :=
      if s.lnk.handler = .resetSending ∧ f.cls = 0x81 ∧ f.payload = [0x15, 0x00] then .resetDue else s.lnk.handler
    let c : Cards := s.csu
    let answers (tx : Option TxFrame) (replies : List Reply) (csu : Cards) : Prop :=
      exec .frameTransmitDone s
        = .next { s with lnk := { s.lnk with tx := tx, replies := replies, handler := handler }, csu := csu }
    (∀ r rs, s.lnk.replies = r :: rs →
        let begins (csu : Cards) : Prop := answers (sent 0x81 r.tag (r.code :: r.status.code :: r.result)) rs csu
        (c.offered ≠ none → begins c)
          ∧ (∀ e es, c.offered = none → c.endings = e :: es → begins { c with offered := some e, endings := es })
          ∧ (c.offered = none → c.endings = [] → begins { c with offered := c.buffer, buffer := none }))
      ∧ (∀ g, s.lnk.replies = [] → c.offered = some g →
        let begins (csu : Cards) : Prop := answers (sent 0x82 g.tag g.payload) [] csu
        (∀ e es, c.endings = e :: es → begins { c with offered := some e, endings := es })
          ∧ (c.endings = [] → begins { c with offered := c.buffer, buffer := none }))
      ∧ (s.lnk.replies = [] → c.offered = none → c.endings = [] → c.buffer = none → answers none [] c)
      ∧ (s.lnk.replies = [] → c.offered = none →
        exec .frameTransmitDone s
          = .next ({ s with lnk := { s.lnk with tx := none, handler := handler } } : State).framesMoved)

/-- The layout of the STATUS_READ result, of its slot summaries of 18 bytes and its engine summaries of 11, in bytes (13.2,
R191): an absent field is all ones, an absent order number 0 and an absent identity eight bytes of 0. -/
def statusLayout : Prop :=
  let bool (b : Bool) : Byte := if b then 1 else 0
  (∀ (s : State) (i : Fin 4),
      let x := s.csu.slots[i]
      s.toPart.slotSummary i
        = [byte (([.empty, .settling, .identifying, .ready, .bound, .absentBound, .foreign, .fault] : List SlotState).idxOf
              x.state),
            byte (x.queue.length + (s.csu.endings.filter fun f => f.slot == i).length)]
          ++ le4 ((x.identity.map (·.serial)).getD 0) ++ le4 ((x.identity.map (·.capacity)).getD 0)
          ++ le2 (x.bound.getD 0) ++ le2 x.allowance ++ le4 x.delivered
        ∧ (s.toPart.slotSummary i).length = 18)
    ∧ (∀ en : Engine,
      let panels : List Panel := [.Y, .M, .C, .F]
      let faults : List FaultKind := [.paperJam, .ribbonBreak, .headHot, .doorOpen, .mediaMismatch]
      en.summary
        = [byte (([.absent, .offline, .idle, .loading, .panel, .heatHold, .ejecting, .needsMedia, .fault]
              : List EngineState).idxOf en.state),
            (en.panel.map fun p => byte (panels.idxOf p)).getD 0xFF]
          ++ le2 (en.line.getD 0xFFFF)
          ++ [bool en.offlinePending, (en.fault.map fun k => byte (faults.idxOf k)).getD 0xFF,
            BitVec.ofInt 8 en.temperature, byte en.mediaKind]
          ++ le2 en.prints ++ [byte en.queue.length]
        ∧ en.summary.length = 11)
    ∧ ∀ s : State, ∃ orders : List Order,
      (orders.map (·.number)).Pairwise (· ≤ ·)
        ∧ orders.Perm (s.ord.orders.toList.filterMap id)
        ∧ s.toPart.statusResult
          = le4 s.svc.captureSet.toNat
            ++ [byte (([.setup, .live, .drain, .parkPending, .parked, .waking] : List Mode).idxOf s.svc.mode),
              byte s.svc.request.toNat, byte s.svc.enable.toNat, if s.svc.strap = .one then 1 else 2]
            ++ le2 s.lnk.errorCount
            ++ s.toPart.slotSummary 0 ++ s.toPart.slotSummary 1 ++ s.toPart.slotSummary 2 ++ s.toPart.slotSummary 3
            ++ s.engA.summary ++ s.engB.summary
            ++ [byte s.clc.queue.length, bool s.clc.outstanding.isSome, byte orders.length]
            ++ orders.flatMap fun o => le2 o.number ++ [byte (([.opened, .committed, .settling, .closed, .halted]
                : List OrderState).idxOf o.state)]

/-- STATUS_READ records the snapshot, clears the marks and leaves the capture set; its hand-over removes exactly the kinds
of the snapshot that have no mark, clears the marks, and clears the link error count to the discards taken since when the
request asked for it (R5, R17); the REPLY joins the reply queue, and an idle transmitter begins its head with ALERT as the
removal leaves it, the model's choice (log entry 45). A capture puts its kind into the set and leaves every other kind, and
marks a kind of the outstanding snapshot as captured again (R15, R17). The result holds the fields of 13.2 in their order, a
named value as its place in the table that first lists it (R191). -/
def Obligations.StatusReadClearsWhatItReported : Prop :=
  statusLayout ∧ (∀ (s : State) (tag : Nat) (clear : Byte) (rest : List CtrlEntry),
      s.Asks 0x03 tag [clear] rest → s.svc.mode.serving = true →
      let t := s.replying rest tag 0x03 .ok s.toPart.statusResult (.status (clear == 1))
      exec .statusRead s = .next
        (if 1 < clear.toNat then s.replying rest tag 0x03 .badArgument []
        else { t with svc := { s.svc with snapshot := some s.svc.captureSet, again := 0 }, lnk := { t.lnk with discards := 0 } }))
    ∧ (∀ (s : State) (r : Reply) (clear : Bool) (sn : CaptureSet), s.inReset = false →
      s.lnk.handler = .serving r (.status clear) → s.lnk.replies.length < 8 → s.svc.snapshot = some sn →
      ∃ kept : CaptureSet,
        exec .replyHandover s = .next (State.replied
          { s with
            svc := { s.svc with captureSet := kept, snapshot := none, again := 0 }
            lnk := { s.lnk with
              handler := .idle, discards := 0, errorCount := if clear then s.lnk.discards else s.lnk.errorCount } } r)
        ∧ ∀ k : CaptureKind, kept.has k = (s.svc.captureSet.has k && !(sn.has k && !s.svc.again.has k)))
    ∧ ∀ (v : Service) (k j : CaptureKind),
      (v.capture k).captureSet.has j = (v.captureSet.has j || decide (j = k))
        ∧ (v.capture k).again.has j
          = (v.again.has j || (decide (j = k) && (v.snapshot.map fun sn => sn.has k).getD false))
        ∧ v.capture k = { v with captureSet := (v.capture k).captureSet, again := (v.capture k).again }

/-- EVENT_MASK replaces the alert mask, answers the mask before, leaves the capture set, and ALERT follows; a bit beyond the
27 kinds gives BAD_ARGUMENT and leaves the mask (R16). -/
def Obligations.EventMaskReplacesTheMask : Prop :=
  ∀ (s : State) (tag : Nat) (args : List Byte) (rest : List CtrlEntry), s.Asks 0x04 tag args rest →
    s.svc.mode.serving = true → args.length = 4 →
    (134217728 ≤ u32 args 0 → exec .eventMask s = .next (s.replying rest tag 0x04 .badArgument []))
      ∧ (u32 args 0 < 134217728 → ∃ t : State,
        t = { s.replying rest tag 0x04 .ok (le4 s.svc.alertMask.toNat) with
              svc := { s.svc with alertMask := BitVec.ofNat 27 (u32 args 0) } }
          ∧ exec .eventMask s = .next t
          ∧ (t.alert = true ↔ ∃ k : CaptureKind, s.svc.captureSet.has k = true ∧ (u32 args 0).testBit k.index = true))

/-! ### Tables -/

/-- TABLE_WRITE makes the checks of R13 in their order: table and instance, count and length, range, the rule of every entry
(R68, R69, R107, R145, R180, R181, R192), then the table as a whole: IN_USE for a tone set that an item still receiving
names (R146), BUSY for an engine that is printing (R182). One that passes replaces the named entries as one change, answers
their previous contents, and leaves every other entry and every other table (R13, R192). For the channel table no pulse is
under way and no train is open here; TrainsPostAtTheirEnd states the others. That a product row with bits 2 to 7 of its engine
mask set succeeds and reads back as written is the model's choice where R68 is silent (log entry 20), and so is the time base
that a write of the channel table moves on (log entry 5). -/
def Obligations.TableWriteReplacesTheEntries : Prop :=
  (∀ (s : State) (ms tag : Nat) (args : List Byte) (rest : List CtrlEntry), s.Asks 0x01 tag args rest → 6 ≤ args.length →
      s.svc.mode.serving = true →
      let refused (st : Status) : Prop := exec (.tableWrite ms) s = .next (s.replying rest tag 0x01 st [])
      let first := u16 args 2
      let count := u16 args 4
      let entries := args.drop 6
      (tableArg (u8 args 0) (u8 args 1) = none → refused .badArgument)
        ∧ ∀ T, tableArg (u8 args 0) (u8 args 1) = some T →
          (count = 0 ∨ entries.length ≠ count * T.entrySize → refused .badArgument)
            ∧ (1 ≤ count → entries.length = count * T.entrySize →
              (T.entries < first + count → refused .outOfRange)
                ∧ (first + count ≤ T.entries →
                  (∀ j, j < count → ¬ entryRule T (first + j) (entryBytes T entries j) → refused .badArgument)
                    ∧ ((∀ j, j < count → entryRule T (first + j) (entryBytes T entries j)) →
                      (∀ (k : Fin 4) (id : Fin 64) (it : Item), T = .tone k → s.ord.items[id] = some it → it.tone = k →
                          (it.state = .defined ∨ it.state = .receiving) → refused .inUse)
                        ∧ ∀ e, (T = .energy e ∨ T = .params e) →
                          (s.eng e).state ∈ [EngineState.loading, .panel, .heatHold, .ejecting] → refused .busy))))
    ∧ ∀ (s : State) (ms tag : Nat) (id instance_ : Byte) (first count : Nat) (entries : List Byte) (rest : List CtrlEntry)
    (T : TableId), s.tablesSized → s.svc.mode.serving = true → first < 65536 → count < 65536 →
    s.Asks 0x01 tag (id :: instance_ :: (le2 first ++ le2 count ++ entries)) rest →
    tableArg id.toNat instance_.toNat = some T → 1 ≤ count → entries.length = count * T.entrySize →
    first + count ≤ T.entries → (∀ j, j < count → entryRule T (first + j) (entryBytes T entries j)) →
    (∀ k : Fin 4, T = .tone k → ∀ (id : Fin 64) (it : Item), s.ord.items[id] = some it → it.tone = k →
      it.state ≠ .defined ∧ it.state ≠ .receiving) →
    (∀ e, (T = .energy e ∨ T = .params e) →
      (s.eng e).state ∉ [EngineState.loading, .panel, .heatHold, .ejecting]) →
    (T = .channels → ∀ c : Fin 6, s.pay.chans[c].pulse = none ∧ s.pay.chans[c].train = none) →
    ∃ t, exec (.tableWrite ms) s = .next t
      ∧ t.lnk = (s.replying rest tag 0x01 .ok (s.tableSlice T first count)).lnk
      ∧ (∀ j, j < T.entries → t.tableSlice T j 1
          = if first ≤ j ∧ j < first + count then heldEntry T (entryBytes T entries (j - first)) else s.tableSlice T j 1)
      ∧ (∀ U, U ≠ T → t.tableBytes U = s.tableBytes U)
      ∧ t = { s with
          now := if T = .channels then max s.now ms else s.now, lnk := t.lnk
          ord := { s.ord with products := t.ord.products, priceKey := t.ord.priceKey }
          rin := { s.rin with tones := t.rin.tones }, pay := { s.pay with table := t.pay.table }
          csu := { s.csu with previewAllowance := t.csu.previewAllowance }
          engA := { s.engA with params := t.engA.params, hdu := { s.engA.hdu with energy := t.engA.hdu.energy } }
          engB := { s.engB with params := t.engB.params, hdu := { s.engB.hdu with energy := t.engB.hdu.energy } } }

/-- TABLE_READ answers the named entries as they stand, after the checks of table, count, range and reply length (R14). That
the check of the reply length comes last is the model's choice (log entry 35). -/
def Obligations.TableReadAnswersTheEntries : Prop :=
  ∀ (s : State) (tag : Nat) (id instance_ : Byte) (first count : Nat) (rest : List CtrlEntry),
    first < 65536 → count < 65536 → s.svc.mode.serving = true →
    s.Asks 0x02 tag (id :: instance_ :: (le2 first ++ le2 count)) rest →
    exec .tableRead s = .next
      (match tableArg id.toNat instance_.toNat with
      | none => s.replying rest tag 0x02 .badArgument []
      | some T =>
        if count = 0 then s.replying rest tag 0x02 .badArgument []
        else if T.entries < first + count then s.replying rest tag 0x02 .outOfRange []
        else if 4096 < 2 + count * T.entrySize then s.replying rest tag 0x02 .badArgument []
        else s.replying rest tag 0x02 .ok (((s.tableBytes T).drop (first * T.entrySize)).take (count * T.entrySize)))

/-! ### Service states -/

/-- The modes refuse requests as the table of R19 says, and a refused request changes nothing. -/
def Obligations.ModesRefuseRequests : Prop :=
  ∀ (s : State) (c : Instr) (code : Byte) (n tag : Nat) (args : List Byte) (rest : List CtrlEntry),
    s.Asks code tag args rest → args.length = n →
    let refused (st : Status) : Prop := exec c s = .next (s.replying rest tag code st [])
    let row : Instr × Byte × Nat := (c, code, n)
    (s.svc.mode = .setup →
        row ∈ [(.drain, 0x11, 0), (.resume, 0x12, 0), (.orderOpen, 0x30, 4), (.itemAdd, 0x36, 10), (.orderCommit, 0x31, 2),
          (.orderCancel, 0x32, 2), (.orderResume, 0x33, 2), (.orderRead, 0x34, 2), (.orderRelease, 0x35, 2),
          (.itemWithdraw, 0x37, 1), (.focusSet, 0x40, 2), (.focusClear, 0x41, 0), (.poolApply, 0x43, 8),
          (.sectorRead, 0x21, 8), (.cardAuthorize, 0x48, 8)] → refused .notLive)
      ∧ (s.svc.mode = .setup → row ∈ [(.park, 0x13, 0)] → refused .wrongState)
      ∧ (s.svc.mode = .live → row ∈ [(.goLive, 0x10, 2), (.resume, 0x12, 0), (.park, 0x13, 0)] → refused .wrongState)
      ∧ (s.svc.mode = .drain → row ∈ [(.goLive, 0x10, 2), (.drain, 0x11, 0)] → refused .wrongState)
      ∧ (s.svc.mode = .drain → row ∈ [(.orderOpen, 0x30, 4), (.itemAdd, 0x36, 10)] → refused .draining)

/-- A request whose payload is empty or opens with no code of the part is answered UNKNOWN_REQUEST; one whose arguments have
not the length of 13.1 is refused with BAD_ARGUMENT before the mode is looked at, and so is a payload of one byte (R8,
R191). That an empty payload gives code 0 in the REPLY is the model's choice (log entry 19). -/
def Obligations.IllFormedRequestsAreAnswered : Prop :=
  ∀ (s : State) (ms tag : Nat) (rest : List CtrlEntry), s.svc.mode.serving = true →
    (∀ payload, s.inReset = false → s.lnk.handler = .idle → s.lnk.ctrl = { tag := tag, payload := payload } :: rest →
        (∀ c ∈ payload.head?, c ∉ requestCodes) →
        exec .unknownRequest s = .next (s.replying rest tag (payload.getD 0 0) .unknownRequest []))
      ∧ (∀ (c : Instr) (code : Byte) (n : Nat) (args : List Byte), (c, code, n) ∈ requestRows ms → s.Asks code tag args rest →
        args.length ≠ n → exec c s = .next (s.replying rest tag code .badArgument []))
      ∧ (∀ args, s.Asks 0x01 tag args rest → args.length < 6 →
        exec (.tableWrite ms) s = .next (s.replying rest tag 0x01 .badArgument []))
      ∧ ∀ (c : Instr) (code : Byte) (n : Nat), (c, code, n) ∈ (.tableWrite ms, 0x01, 6) :: requestRows ms →
        s.inReset = false → s.lnk.handler = .idle → s.lnk.ctrl = { tag := tag, payload := [code] } :: rest →
        exec c s = .next (s.replying rest tag code .badArgument [])

/-- A request that the handler takes in PARK_PENDING is handled in DRAIN with the grace stopped (R18, R24). A request command
whose request is not the handler's next (another code at the head, an empty queue, a busy handler, PARKED or WAKING)
leaves the state as it is: the form of these commands is the model's choice (log entries 1 and 30). -/
def Obligations.RequestsWaitForTheHandler : Prop :=
  ∀ (s : State) (ms : Nat) (c : Instr) (code : Byte) (n : Nat),
    (c, code, n) ∈ (.tableWrite ms, 0x01, 6) :: requestRows ms →
    (∀ (tag : Nat) (args : List Byte) (rest : List CtrlEntry), s.Asks code tag args rest → s.svc.mode = .parkPending →
        exec c s = exec c { s with svc := { s.svc with mode := .drain, grace := none } })
      ∧ ((s.lnk.handler ≠ .idle ∨ s.svc.mode.dark = true ∨ ∀ e ∈ s.lnk.ctrl.head?, e.payload.head? ≠ some code) →
        exec c s = .next s)

/-- GO_LIVE compares its check with the sum of every word of the tables, answers the sum in both cases, and becomes LIVE at
the hand-over only when they match (R20); the sum after power-on reset is 44,586 (13.6). DRAIN, RESUME and PATH_RESET are
accepted with their effect at the hand-over or later: once the REPLY to PATH_RESET has been sent, its effects take the part to
SETUP, with the control request queue empty and the handler free (R12, R22, R32). -/
def Obligations.ModeRequestsAreAccepted : Prop :=
  (∀ (s : State) (tag : Nat) (args : List Byte) (rest : List CtrlEntry), s.Asks 0x10 tag args rest → args.length = 2 →
      s.svc.mode = .setup →
      let sum := (goLiveTables.map fun T => wordSum (s.tableBytes T)).sum % 65536
      exec .goLive s = .next
        (if u16 args 0 = sum then s.replying rest tag 0x10 .ok (le2 sum) .goLive
        else s.replying rest tag 0x10 .checkMismatch (le2 sum)))
    ∧ State.reset.tableSum = 44586
    ∧ (∀ (s : State) (tag : Nat) (rest : List CtrlEntry), s.Asks 0x11 tag [] rest → s.svc.mode = .live →
      exec .drain s = .next (s.replying rest tag 0x11 .ok [] .drain))
    ∧ (∀ (s : State) (tag : Nat) (rest : List CtrlEntry), s.Asks 0x12 tag [] rest → s.svc.mode = .drain →
      exec .resume s = .next (s.replying rest tag 0x12 .ok [] .resume))
    ∧ (∀ (s : State) (tag : Nat) (rest : List CtrlEntry), s.Asks 0x15 tag [] rest → s.svc.mode.serving = true →
      exec .pathReset s = .next (s.replying rest tag 0x15 .ok [] .pathReset))
    ∧ ∀ s : State, s.inReset = false → s.lnk.handler = .resetDue →
      ∃ t, exec .pathResetEffects s = .next t ∧ t.svc.mode = .setup ∧ t.lnk.handler = .idle ∧ t.lnk.ctrl = []

/-- PARK in DRAIN is BUSY while an order is OPEN, COMMITTED or SETTLING, an item QUEUED or PRINTING, a cashless operation
queued or outstanding, or a read requested; WAKE_PENDING while a source has both its flags set; and accepted otherwise
(R23). -/
def Obligations.ParkChecksTheWork : Prop :=
  ∀ (s : State) (tag : Nat) (rest : List CtrlEntry), s.Asks 0x13 tag [] rest → s.svc.mode = .drain →
    let works : Prop :=
      (∃ k : Fin 32, ∃ o, s.ord.orders[k] = some o ∧ (o.state = .opened ∨ o.state = .committed ∨ o.state = .settling))
        ∨ (∃ i : Fin 64, ∃ it, s.ord.items[i] = some it ∧ (it.state = .queued ∨ it.state = .printing))
        ∨ s.clc.queue ≠ [] ∨ s.clc.outstanding ≠ none
        ∨ ∃ i : Fin 4, s.csu.slots[i].queue ≠ []
    let wakes : Prop := ∃ j, s.svc.request.getLsbD j = true ∧ s.svc.enable.getLsbD j = true
    (works → exec .park s = .next (s.replying rest tag 0x13 .busy []))
      ∧ (¬ works → wakes → exec .park s = .next (s.replying rest tag 0x13 .wakePending []))
      ∧ (¬ works → ¬ wakes → exec .park s = .next (s.replying rest tag 0x13 .ok [] .park))

/-- WAKE_SET replaces the enable flags, clears the request flags that the clear set names, and answers the flags as they
stood; a set beyond the six sources is refused (R27). -/
def Obligations.WakeSetReplacesTheFlags : Prop :=
  ∀ (s : State) (tag : Nat) (enable clear : Byte) (rest : List CtrlEntry), s.Asks 0x14 tag [enable, clear] rest →
    s.svc.mode.serving = true →
    (64 ≤ enable.toNat ∨ 64 ≤ clear.toNat → exec .wakeSet s = .next (s.replying rest tag 0x14 .badArgument []))
      ∧ (enable.toNat < 64 → clear.toNat < 64 → ∃ t, exec .wakeSet s = .next t
        ∧ t = { s.replying rest tag 0x14 .ok [s.svc.enable.setWidth 8, s.svc.request.setWidth 8] with
            svc := { s.svc with enable := t.svc.enable, request := t.svc.request } }
        ∧ ∀ j, j < 6 → t.svc.enable.getLsbD j = enable.getLsbD j
          ∧ t.svc.request.getLsbD j = (s.svc.request.getLsbD j && !clear.getLsbD j))

/-- The service key sets its request flag; the wake condition that this makes ends the grace in PARK_PENDING, and in PARKED
and WAKING starts the key's debounce of 250 ms. Released in WAKING before its timer ran out it stops the timer and clears
its request flag, and with no other timer running the mode returns to PARKED; elsewhere only the level changes (R24, R26,
R29, R30). -/
def Obligations.ServiceKeyAsksToWake : Prop :=
  ∀ s : State, s.inReset = false →
    let t (level : Bool) (v : Service) : State := { s with pins := { s.pins with key := level }, svc := v }
    let asked : Service := { s.svc with request := s.svc.request ||| 32 }
    let arises : Prop := s.svc.enable.getLsbD 5 = true ∧ s.svc.request.getLsbD 5 = false
    (s.pins.key = false → (¬ arises ∨ s.svc.mode.serving = true) → exec .serviceKeyAssert s = .next (t true asked))
      ∧ (s.pins.key = false → arises → s.svc.mode = .parkPending →
        exec .serviceKeyAssert s = .next (t true { asked with mode := .drain, grace := none }))
      ∧ (s.pins.key = false → arises → s.svc.mode.dark = true →
        exec .serviceKeyAssert s
          = .next (t true { asked with mode := .waking, debounce := s.svc.debounce.set 4 (some 250) }))
      ∧ (s.pins.key = true → (s.svc.mode ≠ .waking ∨ s.svc.debounce[4] = none) →
        exec .serviceKeyDeassert s = .next (t false s.svc))
      ∧ (s.pins.key = true → s.svc.mode = .waking → s.svc.debounce[4] ≠ none →
        exec .serviceKeyDeassert s
          = .next (t false { s.svc with
              debounce := s.svc.debounce.set 4 none, request := s.svc.request &&& ~~~(32 : WakeSet)
              mode := if ∃ i : Fin 4, s.svc.debounce[i.val] ≠ none then .waking else .parked }))

/-- A debounce timer that runs out with its line still asserted, and a CTRL frame taken whole in PARKED or WAKING, wake the
part to LIVE: the enable flags are cleared, settled and known cards are identified afresh, and an IDLE engine acts on a
condition that its sensors report (R28, R30, R50, R179; of several conditions the first in the order of log entry 12). -/
def Obligations.HeldLinesAndFramesWake : Prop :=
  (∀ (s : State) (src : Fin 5), s.inReset = false → s.svc.mode = .waking → s.svc.debounce[src] ≠ none →
      debouncePin s src = true →
      ∃ t, exec (.debounceExpiry src) s = .next t ∧ t.wokenFrom s ∧ t.pins = s.pins ∧ t.pay.counted = s.pay.counted)
    ∧ ∀ (s : State) (frame : List Byte) (lo b : Byte), s.Framed frame lo →
      (crc16 frame).toNat = lo.toNat + 256 * b.toNat → frame.head? = some 0x01 → s.svc.mode.dark = true →
      s.lnk.ctrl.length < 16 →
      ∃ t, exec (.frameTaken b) s = .next t ∧ t.wokenFrom s
        ∧ t.lnk.ctrl = s.lnk.ctrl ++ [{ tag := u16 frame 2, payload := frame.drop 6 }]

/-- At the end of the grace the part parks when the conditions of R23 still hold, its card buses going quiet, a resume
identify going back to its resume state and a first one to SETTLING (R25, R49), and returns to DRAIN otherwise (R24). No
wake condition holds, as R29 says of the entry to PARKED. In PARKED and WAKING card power and head power are off, and the
spool is in self-refresh while no access of it is granted or waits; elsewhere card power and head power follow the states of
the slots and engines (R25, R34, R49, R161, R162, R171, R178, R179; the outputs are computed, log entry 27). -/
def Obligations.GraceEndsInParkedOrDrain : Prop :=
  (∀ s : State, s.inReset = false → s.svc.mode = .parkPending → s.svc.grace ≠ none →
      (s.mayPark = false → exec .graceExpiry s = .next { s with svc := { s.svc with mode := .drain, grace := none } })
        ∧ (s.mayPark = true → s.svc.request &&& s.svc.enable = 0 →
          exec .graceExpiry s = .next { s with
            svc := { s.svc with mode := .parked, grace := none }
            csu := { s.csu with slots := s.csu.slots.map Slot.parked } }))
    ∧ ∀ s : State, s.inReset = false →
      let off : Prop := s.svc.mode = .parked ∨ s.svc.mode = .waking
      (∀ i : Fin 4, s.toPart.cardPower i = true
          ↔ ¬ off ∧ s.csu.slots[i].state ∈ [SlotState.identifying, .ready, .bound, .foreign])
        ∧ (∀ e, s.toPart.headPower e = true ↔ ¬ off ∧ (s.eng e).state ≠ .absent ∧ (s.eng e).state ≠ .fault
          ∧ (s.eng e).motion ≠ some .abortEject)
        ∧ (s.toPart.selfRefresh = true
          ↔ off ∧ s.spl.port = none ∧ ∀ b, s.rin.conv = some b → b.writes = [])

/-- The effects of PATH_RESET begin when its REPLY has left: the frame in transmission is that REPLY, or FRAME_TRANSMIT_DONE
has ended it (log entry 21); with neither the command leaves the state. SVC is in SETUP. The control request queue, the band
queue, the read queues, the transfer path and the engine queues are empty; a read on a card bus runs on as an orphan (log
entry 22), and every other slot field is kept. Every region is invalid, and no access of the port is wanted. Every item not
yet ended is WITHDRAWN for PATH_RESET, and its order's total falls by its price and its consumed by what the copies not
delivered cost. An OPEN or COMMITTED order is HALTED and loses the focus; a cancelled one without a PENDING authorization
goes on to SETTLING, or closes when it has no card amount. A printing engine ejects, in EJECTING as the model reads R178
(log entry 15), NEEDS_MEDIA becomes IDLE or the fault that its sensors report, and line in drive and previous-line record
are absent. Captures are kept and, where no order settles and no such fault is reported, none is added, and the cashless
line, the bindings and the pool are as they were; an outstanding operation and its timer always are (R12, R32, R51, R67,
R104, R105, R125, R137, R152, R160, R165, R178, R190). The replies that wait are sent next, with ALERT as the effects leave
it (R12, log entry 45). Of several conditions the fault's kind is the first in the order of log entry 12. A
settlement operation waits only beside an outstanding one (R101, R129), and no two live orders have one number (R71, R75). -/
def Obligations.PathResetEmptiesTheQueues : Prop :=
  ∀ s : State, s.inReset = false → (s.clc.outstanding ≠ none ∨ s.ord.waiting = []) →
    (∀ (j k : Fin 32) (o o' : Order), s.ord.orders[j] = some o → s.ord.orders[k] = some o' → o.number = o'.number → j = k) →
    let leaving : Bool := s.lnk.handler == .resetSending && s.lnk.tx.any fun f => f.cls == 0x81 && f.payload == [0x15, 0x00]
    let sending := if leaving then none else s.lnk.tx
    let lasts (it : Item) : Bool := it.state ∈ [.done, .failed, .withdrawn]
    let taking (o : Order) : Prop := o.state = .opened ∨ o.state = .committed
    let settles (o : Order) : Prop := taking o ∧ o.cancel = true ∧ o.cashless.state ≠ .pending
    let back (it : Item) : Nat := if it.debited then it.price - it.price * it.copiesDone / it.copies else 0
    let fall (k : Fin 32) (f : Item → Nat) : Nat := ((List.finRange 64).map fun id =>
      ((s.ord.items[id]).map fun it => if it.order = k ∧ lasts it = false then f it else 0).getD 0).sum
    let charged (k : Fin 32) (o : Order) : Order :=
      { o with total := o.total - fall k (·.price), consumed := o.consumed - fall k back }
    let halted (o : Order) : Order := { o with state := if taking o then .halted else o.state }
    let ownBus (b : CardBus) : CardBus :=
      match b.phase with
      | .awaiting .readBlock _ | .awaiting .stop _ | .retryWait .readBlock _ | .retryWait .stop _ | .data =>
        { b with orphan := true }
      | _ => b
    let emptied (en : Engine) : Engine :=
      { en with queue := [], readWaiting := false, hdu := { en.hdu with prev := none, drive := none } }
    let rested (state : EngineState) (motion : Option Motion) (en : Engine) : Engine :=
      { en with state := state, panel := none, line := none, motion := motion }
    (s.lnk.handler ≠ .resetDue → leaving = false → exec .pathResetEffects s = .next s)
      ∧ (s.lnk.handler = .resetDue ∨ leaving = true →
        ∃ t, exec .pathResetEffects s = .next t
          ∧ (t.now = s.now ∧ t.inReset = false ∧ t.pins = s.pins ∧ t.pending = s.pending)
          ∧ t.svc = { s.svc with mode := .setup, captureSet := t.svc.captureSet, again := t.svc.again }
          ∧ (∀ k : CaptureKind, s.svc.captureSet.has k = true → t.svc.captureSet.has k = true)
          ∧ (t.lnk.handler = .idle ∧ t.lnk.ctrl = [] ∧ t.lnk.asm = s.lnk.asm ∧ t.lnk.errorCount = s.lnk.errorCount)
          ∧ (sending ≠ none ∨ s.lnk.replies = [] → t.lnk = { s.lnk with ctrl := [], handler := .idle, tx := sending })
          ∧ (∀ r rs, s.lnk.handler = .resetSending → s.lnk.replies = r :: rs →
            t.lnk = { s.lnk with
              ctrl := [], handler := .idle, replies := rs
              tx := some (t.frameBegun 0x81 r.tag (r.code :: r.status.code :: r.result)) })
          ∧ t.csu = { s.csu with
              slots := t.csu.slots, turn := none, lastServed := 3, buffer := none, offered := none, endings := [] }
          ∧ (∀ i : Fin 4, t.csu.slots[i].queue = []
            ∧ ((∀ (k : Fin 32) (o : Order), s.ord.orders[k] = some o → settles o → o.slot ≠ some i) →
              t.csu.slots[i] = { s.csu.slots[i] with queue := [], bus := ownBus s.csu.slots[i].bus }))
          ∧ t.rin = { s.rin with queue := [], conv := none, intake := t.rin.intake }
          ∧ (∀ id : Fin 64, t.rin.intake[id]
            = if (s.ord.items[id]).all lasts then s.rin.intake[id]
              else (s.rin.intake[id]).map fun x => { x with receiving := false })
          ∧ t.spl = { s.spl with
              regions := s.spl.regions.map fun g => { g with valid := false, holder := none }
              port := s.spl.port.map fun a => { a with live := false } }
          ∧ (∀ e, t.eng e = match (s.eng e).state with
            | .loading | .panel | .heatHold | .ejecting => rested .ejecting (some .abortEject) (emptied (s.eng e))
            | .needsMedia =>
              match (s.toPart.sensors e).condition with
              | some k => (emptied (s.eng e)).faulted k
              | none => rested .idle none (emptied (s.eng e))
            | _ => emptied (s.eng e))
          ∧ t.ord = { s.ord with
              orders := t.ord.orders, items := t.ord.items, waiting := t.ord.waiting
              release := s.ord.release.filter fun x => (s.ord.items[x.item]).all lasts }
          ∧ (∀ id : Fin 64, t.ord.items[id] = (s.ord.items[id]).map fun it => if lasts it then it
            else { it with state := .withdrawn, reason := some .pathReset, engine := none, debited := false })
          ∧ (∀ k : Fin 32, s.ord.orders[k] = none → t.ord.orders[k] = none)
          ∧ (∀ (k : Fin 32) (o : Order), s.ord.orders[k] = some o → ∃ o', t.ord.orders[k] = some o'
            ∧ (¬ settles o → o' = { halted (charged k o) with cashless := o'.cashless })
            ∧ (settles o →
              o' = { charged k o with
                state := if o.cardAuth = 0 then .closed else .settling
                change := some (o.cashIn - min o.cashIn (charged k o).consumed)
                captured := if o.cardAuth = 0 then some 0 else o.captured
                slot := if o.cardAuth = 0 then none else o.slot, locked := o'.locked, cashless := o'.cashless }))
          ∧ t.pay = { s.pay with focus := t.pay.focus, kept := t.pay.kept, pool := t.pay.pool }
          ∧ (∀ n, s.pay.focus = some n →
            ((∃ (k : Fin 32) (o : Order), s.ord.orders[k] = some o ∧ taking o ∧ o.number = n) → t.pay.focus = none)
              ∧ ((∀ (k : Fin 32) (o : Order), s.ord.orders[k] = some o → taking o → o.number ≠ n) → t.pay.focus = some n))
          ∧ (s.pay.focus = none → t.pay.focus = none)
          ∧ t.clc.rx = s.clc.rx
          ∧ (s.clc.outstanding ≠ none → t.clc = { s.clc with queue := t.clc.queue } ∧ s.clc.queue <+: t.clc.queue)
          ∧ ((∀ (k : Fin 32) (o : Order), s.ord.orders[k] = some o → ¬ settles o) →
            t.clc = s.clc ∧ t.ord.waiting = s.ord.waiting ∧ t.pay.kept = s.pay.kept ∧ t.pay.pool = s.pay.pool
              ∧ (∀ (k : Fin 32) (o : Order), s.ord.orders[k] = some o → t.ord.orders[k] = some (halted (charged k o)))
              ∧ ((∀ e, (s.eng e).state = .needsMedia → (s.toPart.sensors e).condition = none) →
                t.svc = { s.svc with mode := .setup }))
          ∧ ∀ T, t.tableBytes T = s.tableBytes T)

/-- The mode changes only on the events of the table of R18, and to the modes that it gives. That a wake condition acts at the
entry to PARKED as R29 says of one that arises there is the model's choice (log entry 24). -/
def Obligations.ModeChangesOnlyAsListed : Prop :=
  ∀ (c : Instr) (s t : State), exec c s = .next t → t.svc.mode ≠ s.svc.mode →
    match c with
    | .powerOnReset => t.svc.mode = .setup
    | .pathResetEffects => t.svc.mode = .setup
    | .replyHandover =>
      ∃ r h, s.lnk.handler = .serving r h
        ∧ ((h = .goLive ∧ t.svc.mode = .live) ∨ (h = .resume ∧ t.svc.mode = .live) ∨ (h = .drain ∧ t.svc.mode = .drain)
          ∨ (h = .park ∧ t.svc.mode = .parkPending))
    | .frameTaken _ =>
      (s.svc.mode = .parkPending ∧ t.svc.mode = .drain) ∨ (s.svc.mode.dark = true ∧ t.svc.mode = .live)
    | .graceExpiry =>
      s.svc.mode = .parkPending
        ∧ (t.svc.mode = .drain ∨ t.svc.mode = .parked
          ∨ (s.svc.request &&& s.svc.enable ≠ 0 ∧ (t.svc.mode = .waking ∨ t.svc.mode = .live)))
    | .serviceKeyAssert | .cardDetectAssert _ | .resetRelease .. =>
      (s.svc.mode = .parkPending ∧ t.svc.mode = .drain) ∨ (s.svc.mode = .parked ∧ t.svc.mode = .waking)
    | .pulseEnd .. =>
      (s.svc.mode = .parkPending ∧ t.svc.mode = .drain) ∨ (s.svc.mode.dark = true ∧ t.svc.mode = .live)
    | .serviceKeyDeassert | .cardRemoval _ => s.svc.mode = .waking ∧ t.svc.mode = .parked
    | .debounceExpiry _ => s.svc.mode = .waking ∧ (t.svc.mode = .live ∨ t.svc.mode = .parked)
    | .unknownRequest => s.svc.mode = .parkPending ∧ t.svc.mode = .drain
    | other => s.svc.mode = .parkPending ∧ t.svc.mode = .drain ∧ ∃ ms code n,
        (other, code, n) ∈ (.tableWrite ms, 0x01, 6) :: requestRows ms

/-! ### Card slots -/

/-- A detect line that asserts while its slot is EMPTY or ABSENT_BOUND starts the settling of 250 ms with the delivered count
at 0 and the binding kept; out of EMPTY it sets the slot's wake request flag in every mode (R26, R35). A wake condition that
this makes ends the grace in PARK_PENDING (R24), and in PARKED and WAKING the mode is then WAKING with the slot's debounce of
250 ms started (R29, R30). Where none arises, as with the source disabled or its flag already set, the mode stays (R29). -/
def Obligations.CardInsertionSettles : Prop :=
  ∀ (s : State) (i : Fin 4), s.inReset = false → s.pins.detect[i] = false →
    let x := s.csu.slots[i]
    let t : State :=
      { s.withSlot i { x with state := .settling, delivered := 0, holdComplete := false, settling := some 250 } with
        pins := { s.pins with detect := s.pins.detect.set i true } }
    let asked : Service := { s.svc with request := s.svc.request ||| BitVec.ofNat 6 (2 ^ i.val) }
    let arises : Prop := s.svc.enable.getLsbD i.val = true ∧ s.svc.request.getLsbD i.val = false
    (x.state = .empty → (¬ arises ∨ s.svc.mode.serving = true) →
        exec (.cardDetectAssert i) s = .next { t with svc := asked })
      ∧ (x.state = .empty → arises → s.svc.mode = .parkPending →
        exec (.cardDetectAssert i) s = .next { t with svc := { asked with mode := .drain, grace := none } })
      ∧ (x.state = .empty → arises → s.svc.mode.dark = true →
        exec (.cardDetectAssert i) s = .next { t with svc := { asked with
          mode := .waking, debounce := s.svc.debounce.set i.val (some 250) } })
      ∧ (x.state = .absentBound → exec (.cardDetectAssert i) s = .next t)

/-- The state that a removal takes a slot to (R43). -/
def removalState (state : SlotState) (bound : Bool) : SlotState :=
  match state with
  | .ready => .empty
  | .bound | .foreign => .absentBound
  | .settling | .identifying | .fault => if bound then .absentBound else .empty
  | .empty => .empty
  | .absentBound => .absentBound

/-- A removal captures CARD_OUT, quiets the bus, clears identity, resume state, hold complete and allowance, keeps the
delivered count and the binding, moves the slot as R43 says, and ends every request CARD_GONE, oldest first, LAST standing
in a frame that is still held and in an empty frame otherwise; the slot's turn ends and the next begins (R42, R43, R57, R60,
R63, R65). In WAKING a debounce of the slot that runs has failed: its timer stops, the slot's request flag is cleared, and
with no other timer running the mode returns to PARKED (R30). Frames that become ready move on, into an empty offered
position and to an idle transmitter, with ALERT as the removal leaves it (R11, R62, log entry 45). -/
def Obligations.CardRemovalEndsTheReads : Prop :=
  ∀ (s : State) (i : Fin 4), s.inReset = false → s.pins.detect[i] = true → s.csu.slots[i].state.cardPresent = true →
    let x := s.csu.slots[i]
    let removed (v : Service) : State := { s with
      pins := { s.pins with detect := s.pins.detect.set i false }
      svc := v.capture .cardOut
      csu := Cards.turnEnded { s.csu.readsEnded i x.queue .cardGone with
        slots := s.csu.slots.set i { x with
          state := removalState x.state x.bound.isSome, settling := none, identify := none, bus := quietBus
          identity := none, resume := none, holdComplete := false, allowance := 0, queue := [] } } i }
    (s.svc.mode ≠ .waking ∨ s.svc.debounce[i.val] = none → exec (.cardRemoval i) s = .next (removed s.svc).framesMoved)
      ∧ (s.svc.mode = .waking → s.svc.debounce[i.val] ≠ none →
        exec (.cardRemoval i) s = .next (removed { s.svc with
          debounce := s.svc.debounce.set i.val none, request := s.svc.request &&& ~~~(BitVec.ofNat 6 (2 ^ i.val))
          mode := if ∃ j : Fin 5, j.val ≠ i.val ∧ s.svc.debounce[j] ≠ none then .waking else .parked }).framesMoved)

/-- The settling timer that runs out with the line asserted powers the card and sends RESET_CARD with a limit of 1 s, or sets
hold complete in PARKED and WAKING (R36, R39). The identify then goes RESET_CARD, IDENTIFY, SELECT with the serial just
read; BUSY repeats the command 20 ms later; a bad response, a capacity of 0, a timeout of 100 ms and the limit of 1 s fail
it with SLOT_FAULT (R38 to R40). That the serial and the capacity come in little-endian order is the model's choice (log
entry 33), and that a BUSY to IDENTIFY needs no data its reading of R37 and R38 (log entry 28). -/
def Obligations.IdentifySequence : Prop :=
  ∀ (s : State) (i : Fin 4), s.inReset = false →
    let x := s.csu.slots[i]
    let sent (cmd : CardCmd) (arg : Nat) : CardBus := { x.bus with phase := .awaiting cmd arg }
    let failed : State := (s.withSlot i x.identifyFailed).captured .slotFault
    (x.state = .settling → x.settling ≠ none → s.pins.detect[i] = true →
        exec (.settlingExpiry i) s = .next
          (if s.svc.mode.dark then s.withSlot i { x with settling := none, holdComplete := true }
          else s.withSlot i { x with
            state := .identifying, settling := none, holdComplete := false
            identify := some { limit := some 1000, read := none }
            bus := { quietBus with phase := .awaiting .resetCard 0 } }))
      ∧ (∀ arg, x.bus.phase = .awaiting .resetCard arg →
        exec (.identifyResponse i 0x00 [] 0x00) s = .next (s.withSlot i { x with bus := sent .identify 0 }))
      ∧ (∀ (arg : Nat) (data : List Byte) (run : IdentifyRun), x.bus.phase = .awaiting .identify arg → data.length = 8 →
        x.identify = some run →
        exec (.identifyResponse i 0x00 data (sum8 data)) s = .next
          (if u32 data 4 = 0 then failed
          else s.withSlot i { x with
            identify := some { run with read := some { serial := u32 data 0, capacity := u32 data 4 } }
            bus := sent .select (u32 data 0) }))
      ∧ (∀ (cmd : CardCmd) (arg : Nat), cmd = .resetCard ∨ cmd = .identify ∨ cmd = .select → x.bus.phase = .awaiting cmd arg →
        exec (.identifyResponse i 0x01 [] 0x01) s
            = .next (s.withSlot i { x with bus := { x.bus with phase := .retryWait cmd arg, busyRun := none } })
          ∧ (∀ (status check : Byte) (data : List Byte),
            (check ≠ sum8 (status :: data) ∨ (status ≠ 0x00 ∧ status ≠ 0x01)) →
            exec (.identifyResponse i status data check) s = .next failed)
          ∧ exec (.cardResponseTimeout i) s = .next failed)
      ∧ (∀ (cmd : CardCmd) (arg : Nat), x.bus.phase = .retryWait cmd arg →
        exec (.busyRetryExpiry i) s = .next (s.withSlot i { x with bus := sent cmd arg }))
      ∧ (x.state = .identifying → (∃ run l, x.identify = some run ∧ run.limit = some l) →
        exec (.identifyLimitExpiry i) s = .next failed)

/-- SELECT answered OK ends the identify as the five rows of R41 say; the resume state is removed and the delivered count kept
in each. -/
def Obligations.IdentifyOutcomes : Prop :=
  ∀ (s : State) (i : Fin 4) (arg : Nat) (run : IdentifyRun) (c : Identity), s.inReset = false →
    s.csu.slots[i].bus.phase = .awaiting .select arg → s.csu.slots[i].identify = some run → run.read = some c →
    let x := s.csu.slots[i]
    let known : Prop := x.resume ≠ none ∧ x.identity = some c
    let ends (state : SlotState) (identity : Option Identity) (allowance : Nat) : State :=
      s.withSlot i { x with
        state := state, identity := identity, allowance := allowance, resume := none, identify := none, bus := quietBus }
    let t := exec (.identifyResponse i 0x00 [] 0x00) s
    (known → x.resume = some .ready → t = .next (ends .ready x.identity x.allowance))
      ∧ (known → x.resume = some .bound → x.bound ≠ none → t = .next (ends .bound x.identity x.allowance))
      ∧ (known → x.resume = some .foreign → x.bound ≠ none → t = .next (ends .foreign x.identity x.allowance))
      ∧ (known → x.resume ≠ some .ready → x.bound = none → t = .next (ends .ready x.identity s.csu.previewAllowance))
      ∧ (¬ known → x.bound = none → t = .next ((ends .ready (some c) s.csu.previewAllowance).captured .cardIn))
      ∧ (¬ known → x.bound ≠ none → s.toPart.lockedOf x.bound = some c →
        t = .next ((ends .bound (some c) 0).captured .cardIn))
      ∧ (¬ known → x.bound ≠ none → s.toPart.lockedOf x.bound ≠ some c →
        t = .next (((ends .foreign (some c) 0).captured .cardIn).captured .cardForeign))

/-- SLOT_UNBIND is refused for a slot beyond 3, an unbound slot and an order that is not HALTED; otherwise the order loses its
slot and locked identity and the slot its order, moving as R46 says, the reads of a BOUND slot ending CANCELLED, and the
REPLY carries its new state (R46, R47, R57, R60, R63, R66). Frames that become ready by those ends move on, into an empty
offered position and to an idle transmitter (R11, R62). -/
def Obligations.SlotUnbindFreesTheSlot : Prop :=
  ∀ (s : State) (tag : Nat) (arg : Byte) (rest : List CtrlEntry), s.Asks 0x20 tag [arg] rest → s.svc.mode.serving = true →
    (4 ≤ arg.toNat → exec .slotUnbind s = .next (s.replying rest tag 0x20 .badArgument []))
      ∧ ∀ i : Fin 4, arg.toNat = i.val →
        let x := s.csu.slots[i]
        (x.bound = none → exec .slotUnbind s = .next (s.replying rest tag 0x20 .wrongState []))
          ∧ ∀ (n : Nat) (k : Fin 32) (o : Order), x.bound = some n → s.toPart.orderIdx n = some k →
            s.ord.orders[k] = some o →
            (o.state ≠ .halted → exec .slotUnbind s = .next (s.replying rest tag 0x20 .wrongState []))
              ∧ (o.state = .halted → o.slot = some i → x.readsApart →
                let dropped := s.csu.bindingDropped i
                let t : State :=
                  { (s.replying rest tag 0x20 .ok [dropped.slots[i].state.code]).withOrder k
                      { o with slot := none, locked := none } with csu := dropped }
                exec .slotUnbind s = .next (if x.state = .bound then t.framesMoved else t))

/-! ### Sector reads -/

/-- SECTOR_READ makes the checks of R54 in their order, and an accepted request joins the tail of its slot's queue with the
owner tag of R55, a READY slot's allowance falling by the count; a turn begins when none runs (R57). -/
def Obligations.SectorReadJoinsTheQueue : Prop :=
  ∀ (s : State) (tag : Nat) (args : List Byte) (rest : List CtrlEntry), s.Asks 0x21 tag args rest → args.length = 8 →
    s.svc.mode.trading = true →
    let refused (st : Status) : Prop := exec .sectorRead s = .next (s.replying rest tag 0x21 st [])
    let first := u32 args 2
    let count := u16 args 6
    (4 ≤ u8 args 0 ∨ count = 0 ∨ 256 < count → refused .badArgument)
      ∧ ∀ i : Fin 4, u8 args 0 = i.val → 1 ≤ count → count ≤ 256 →
        let x := s.csu.slots[i]
        let capacity := (x.identity.map (·.capacity)).getD 0
        (x.state = .foreign → refused .cardForeign)
          ∧ (x.state ≠ .foreign → x.state ≠ .ready → x.state ≠ .bound → refused .wrongState)
          ∧ ((x.state = .ready ∨ x.state = .bound) →
            (capacity < first + count → refused .outOfRange)
              ∧ (first + count ≤ capacity → 8 ≤ s.toPart.occupancy i → refused .noRoom)
              ∧ (first + count ≤ capacity → s.toPart.occupancy i < 8 → x.state = .ready → x.allowance < count →
                refused .allowanceSpent)
              ∧ (first + count ≤ capacity → s.toPart.occupancy i < 8 → (x.state = .ready → count ≤ x.allowance) →
                let owner := if x.state = .ready then 0xFFF0 + i.val else x.bound.getD 0
                let left := if x.state = .ready then x.allowance - count else x.allowance
                let r : ReadReq :=
                  { uid := s.csu.nextUid, tag := tag, first := first, count := count, next := first, produced := 0
                    owner := owner, preview := decide (x.state = .ready), cancelPending := false, retried := false }
                ∃ t, exec .sectorRead s = .next t
                  ∧ t = { (s.replying rest tag 0x21 .ok (le2 owner ++ le2 left)).withSlot i
                          { x with queue := x.queue ++ [r], allowance := left } with
                        csu := { s.csu with
                          slots := s.csu.slots.set i { x with queue := x.queue ++ [r], allowance := left }
                          nextUid := s.csu.nextUid + 1, turn := t.csu.turn } }
                  ∧ (∀ v, s.csu.turn = some v → t.csu.turn = some v)
                  ∧ (s.csu.turn = none → (∀ j : Fin 4, s.csu.slots[j].queue = []) →
                    t.csu.turn = some { slot := i, count := 0 })))

/-- READ_CANCEL is refused for a slot beyond 3 and when the slot's queue holds no request with the tag; a request in service
with an attempt under way has cancel pending set, and any other ends CANCELLED at once, LAST standing in its last frame
where that is still held, a preview's unread count going back to the allowance, and its turn ending when it was in service
(R57, R60, R63, R64). An empty ending that becomes ready moves on, into an empty offered position and to an idle transmitter
(R11, R62). That the REPLY carries one byte, 0 waiting or 1 in service, and two bytes of
produced count is the model's reading of R191 (log entry 19). -/
def Obligations.ReadCancelEndsTheRequest : Prop :=
  ∀ (s : State) (tag : Nat) (args : List Byte) (rest : List CtrlEntry), s.Asks 0x22 tag args rest →
    args.length = 4 → s.svc.mode.serving = true →
    (4 ≤ u8 args 0 → exec .readCancel s = .next (s.replying rest tag 0x22 .badArgument []))
    ∧ ∀ i : Fin 4, u8 args 0 = i.val →
    let x := s.csu.slots[i]
    (x.queue.find? (fun r => r.tag == u16 args 2) = none →
        exec .readCancel s = .next (s.replying rest tag 0x22 .badArgument []))
      ∧ ∀ r, x.queue.find? (fun r => r.tag == u16 args 2) = some r → (∀ q ∈ x.queue, q.uid = r.uid → q = r) →
        (s.toPart.inService i r = true → s.toPart.attempting i = true →
            exec .readCancel s = .next ((s.replying rest tag 0x22 .ok (1 :: le2 r.produced)).withSlot i
              { x with queue := x.queue.map fun q => if q.uid = r.uid then { q with cancelPending := true } else q }))
          ∧ ((s.toPart.inService i r = false ∨ s.toPart.attempting i = false) →
            let ended : Cards := { s.csu.readsEnded i [r] .cancelled with
              slots := s.csu.slots.set i { x with
                queue := x.queue.filter fun q => q.uid != r.uid
                allowance := if r.preview then x.allowance + (r.count - r.produced) else x.allowance } }
            exec .readCancel s = .next (State.framesMoved
              { s.replying rest tag 0x22 .ok ((if s.toPart.inService i r then 1 else 0) :: le2 r.produced) with
                csu := if s.toPart.inService i r then ended.turnEnded i else ended }))

/-- A sector attempt: READ_BLOCK with the next sector when the transfer buffer is empty; OK opens the data phase; BUSY repeats
the command for up to 1 s; a bad response, a data check that differs, a timeout and the end of the BUSY run are followed by
STOP; STOP answered OK starts the second attempt (R37, R38, R58, R59). That the end of the BUSY run abandons a READ_BLOCK
that awaits its response is the model's reading (log entry 23). -/
def Obligations.SectorAttempts : Prop :=
  ∀ (s : State) (i : Fin 4), s.inReset = false →
    let x := s.csu.slots[i]
    let bus (b : CardBus) : State := s.withSlot i { x with bus := b }
    let stop : State := bus { x.bus with phase := .awaiting .stop 0, busyRun := none }
    (∀ n r rest, s.csu.turn = some { slot := i, count := n } → x.queue = r :: rest → s.csu.buffer = none →
        x.bus.phase = .idle → (∀ j : Fin 4, s.csu.slots[j].bus.orphan = false) →
        exec .sectorAttemptStart s = .next (bus { x.bus with phase := .awaiting .readBlock r.next }))
      ∧ (∀ arg, x.bus.phase = .awaiting .readBlock arg →
        exec (.readBlockResponse i 0x00 0x00) s = .next (bus { x.bus with phase := .data, busyRun := none })
          ∧ exec (.readBlockResponse i 0x01 0x01) s
            = .next (bus { x.bus with phase := .retryWait .readBlock arg, busyRun := some 1000 })
          ∧ (∀ status check : Byte, (check ≠ status ∨ (status ≠ 0x00 ∧ status ≠ 0x01)) →
            exec (.readBlockResponse i status check) s = .next stop)
          ∧ exec (.cardResponseTimeout i) s = .next stop)
      ∧ (∀ arg, (x.bus.phase = .awaiting .readBlock arg ∨ x.bus.phase = .retryWait .readBlock arg) → x.bus.busyRun ≠ none →
        exec (.readBusyLimit i) s = .next stop)
      ∧ (x.bus.phase = .data → exec (.dataPhaseTimeout i) s = .next stop)
      ∧ (∀ (data : List Byte) (low high : Byte), x.bus.phase = .data → data.length = 512 →
        (crc16 data).toNat ≠ low.toNat + 256 * high.toNat →
        exec (.dataPhaseComplete i data [low, high]) s = .next stop)
      ∧ (∀ arg r rest, x.bus.phase = .awaiting .stop arg → x.bus.orphan = false → x.queue = r :: rest → r.retried = false →
        exec (.stopResponse i 0x00 0x00) s = .next (s.withSlot i { x with
          queue := { r with retried := true } :: rest, bus := { quietBus with phase := .awaiting .readBlock r.next } }))

/-- A sector that is read goes into the transfer buffer with the header of R61, and the request, the turn and the slot count
it; at the request's last sector the frame carries LAST with OK and the request leaves its queue, and with cancel pending
set it does so with CANCELLED at any sector, a preview's unread count going back to the allowance; the turn ends with the
request and at its eighth sector (R57, R58, R60, R61, R63, R64). Where the offered position is empty the frame moves on into
it, the buffer becoming empty, and where the transmitter is idle, with no REPLY waiting, its sending begins at once, with the
ALERT_ACTIVE flag and the CRC of R11 (R62). -/
def Obligations.SectorsAreProduced : Prop :=
  ∀ (s : State) (i : Fin 4) (data : List Byte) (r : ReadReq) (rest : List ReadReq) (n : Nat), s.inReset = false →
    s.csu.slots[i].bus.phase = .data → s.csu.slots[i].bus.orphan = false → data.length = 512 →
    s.csu.turn = some { slot := i, count := n } → s.csu.slots[i].queue = r :: rest → (∀ q ∈ rest, q.uid ≠ r.uid) →
    let x := s.csu.slots[i]
    let r' : ReadReq := { r with produced := r.produced + 1, next := r.next + 1, retried := false }
    let ends : Bool := r.cancelPending || r.produced + 1 == r.count
    let frame : SectorFrame :=
      { uid := r.uid, tag := r.tag, slot := i, preview := r.preview, retried := r.retried, last := ends
        outcome := if r.cancelPending then .cancelled else .ok, sector := r.next, owner := r.owner, data := data }
    let produced : Cards := { s.csu with
      slots := s.csu.slots.set i { x with
        queue := if ends then rest else r' :: rest
        allowance := if r.cancelPending ∧ r.preview then x.allowance + (r.count - (r.produced + 1)) else x.allowance
        delivered := (x.delivered + 1) % 4294967296, bus := quietBus }
      buffer := some frame, turn := some { slot := i, count := n + 1 } }
    let t : Cards := if ends ∨ 8 ≤ n + 1 then produced.turnEnded i else produced
    let answers (lnk : Link) (csu : Cards) : Prop :=
      exec (.dataPhaseComplete i data (le2 (crc16 data).toNat)) s = .next { s with lnk := lnk, csu := csu }
    (s.csu.offered ≠ none → s.lnk.tx ≠ none → answers s.lnk t)
      ∧ (s.csu.offered = none → s.csu.endings = [] → s.lnk.tx ≠ none →
        answers s.lnk { t with offered := some frame, buffer := none })
      ∧ (s.csu.offered = none → s.csu.endings = [] → s.lnk.tx = none → s.lnk.replies = [] →
        let flags : Byte := if s.alert then 1 else 0
        let sent : TxFrame :=
          { cls := 0x82, flags := flags, tag := r.tag, payload := frame.payload
            crc := crc16 (coveredBytes 0x82 flags r.tag frame.payload) }
        answers { s.lnk with tx := some sent } { t with buffer := none })
      ∧ exec (.dataPhaseComplete i data (le2 (crc16 data).toNat)) s = .next ({ s with csu := t } : State).framesMoved

/-- STOP answered BUSY is sent again for up to 1 s; answered bad, timed out or still BUSY after 1 s it puts the slot into
FAULT with SLOT_FAULT, the binding kept and every request ended READ_ERROR; answered OK after a failed second attempt it
ends the request READ_ERROR, or CANCELLED with cancel pending set, a preview's unread count then going back to the
allowance; LAST stands in a frame that is still held and in an empty frame otherwise (R38, R57, R59, R60, R63 to R65).
Frames that become ready move on, into an empty offered position and to an idle transmitter, with ALERT as the fault leaves
it (R11, R62, log entry 45). That a slot in FAULT has no identity and keeps its allowance is the model's reading of R34 (log
entry 25), and that the end of the BUSY run abandons a STOP that awaits its response that of R38 (log entry 23). That a
request whose cancel is pending ends READ_ERROR like the others when its STOP is answered bad is its choice between R38, R65
and R64 (log entry 47). -/
def Obligations.StopOutcomes : Prop :=
  ∀ (s : State) (i : Fin 4), s.inReset = false →
    let x := s.csu.slots[i]
    let faulted : State := State.framesMoved { s with
      svc := s.svc.capture .slotFault
      csu := Cards.turnEnded { s.csu.readsEnded i x.queue .readError with
        slots := s.csu.slots.set i { x with state := .fault, identity := none, bus := quietBus, queue := [] } } i }
    (∀ arg, x.bus.phase = .awaiting .stop arg →
        exec (.stopResponse i 0x01 0x01) s
            = .next (s.withSlot i { x with bus := { x.bus with phase := .retryWait .stop arg, busyRun := some 1000 } })
          ∧ (∀ status check : Byte, (check ≠ status ∨ (status ≠ 0x00 ∧ status ≠ 0x01)) →
            exec (.stopResponse i status check) s = .next faulted)
          ∧ exec (.cardResponseTimeout i) s = .next faulted)
      ∧ (∀ arg, (x.bus.phase = .awaiting .stop arg ∨ x.bus.phase = .retryWait .stop arg) → x.bus.busyRun ≠ none →
        exec (.stopBusyLimit i) s = .next faulted)
      ∧ ∀ arg r rest, x.bus.phase = .awaiting .stop arg → x.bus.orphan = false → x.queue = r :: rest → r.retried = true →
        (∀ q ∈ rest, q.uid ≠ r.uid) →
        exec (.stopResponse i 0x00 0x00) s = .next (State.framesMoved { s with
          csu := Cards.turnEnded { s.csu.readsEnded i [r] (if r.cancelPending then .cancelled else .readError) with
            slots := s.csu.slots.set i { x with
              queue := rest, bus := quietBus
              allowance := if r.cancelPending ∧ r.preview then x.allowance + (r.count - r.produced) else x.allowance } } i })

/-! ### Orders and items -/

/-- ORDER_OPEN makes the checks of R75 in their order, and takes a free record (the lowest: the model's choice, log entry 18)
with the fields that R71 and R128 give, binding the slot it names (R44, R55). That a request of the slot whose cancel is
pending takes the new order's number too is the model's choice (log entry 34). -/
def Obligations.OrderOpenTakesARecord : Prop :=
  ∀ (s : State) (tag : Nat) (args : List Byte) (rest : List CtrlEntry), s.Asks 0x30 tag args rest → args.length = 4 →
    s.svc.mode = .live →
    let n := u16 args 0
    let refused (st : Status) : Prop := exec .orderOpen s = .next (s.replying rest tag 0x30 st [])
    let valid : Prop := 1 ≤ n ∧ u8 args 2 ≤ 1 ∧ (u8 args 3 ≤ 3 ∨ u8 args 3 = 255)
    let used : Prop := ∃ k : Fin 32, ∃ o, s.ord.orders[k] = some o ∧ o.number = n
    let record (slot : Option (Fin 4)) (locked : Option Identity) : Order :=
      { number := n, state := .opened, funding := if u8 args 2 = 0 then .prepay else .perItem, slot := slot
        locked := locked, items := [], total := 0, cashIn := 0, cardAuth := 0, consumed := 0, cancel := false
        change := none, captured := none
        cashless := { state := .none, requested := 0, approved := 0, reason := none, lateSeen := false } }
    (¬ valid → refused .badArgument)
      ∧ (valid → used → refused .inUse)
      ∧ (valid → ¬ used → (∀ k : Fin 32, s.ord.orders[k] ≠ none) → refused .noRoom)
      ∧ ∀ k : Fin 32, valid → ¬ used → s.ord.orders[k] = none → (∀ j : Fin 32, j < k → s.ord.orders[j] ≠ none) →
        (u8 args 3 = 255 → exec .orderOpen s = .next
            ((s.replying rest tag 0x30 .ok [0, 0, 0, 0, 0, 0, 0, 0, 0]).withOrder k (record none none)))
          ∧ ∀ i : Fin 4, u8 args 3 = i.val →
            let x := s.csu.slots[i]
            (x.state ≠ .ready → refused .wrongState)
              ∧ (x.state = .ready → exec .orderOpen s = .next
                (((s.replying rest tag 0x30 .ok (0 :: optIdentity x.identity)).withOrder k
                  (record (some i) x.identity)).withSlot i { x with
                    state := .bound, bound := some n
                    queue := x.queue.map fun r => { r with owner := n, preview := false } }))

/-- ITEM_ADD makes the checks of R76 in their order; an accepted one takes the lowest free item ID with the price of R70 and
the settings of its row, joins the order's list, raises its total, holds the region and starts to receive (R69, R70, R73,
R77, R142, R157). -/
def Obligations.ItemAddFillsAnEntry : Prop :=
  ∀ (s : State) (tag : Nat) (args : List Byte) (rest : List CtrlEntry), s.Asks 0x36 tag args rest → args.length = 10 →
    s.svc.mode = .live →
    let refused (st : Status) : Prop := exec .itemAdd s = .next (s.replying rest tag 0x36 st [])
    let code := u16 args 2
    let copies := u8 args 4
    let w := u16 args 6
    let l := u16 args 8
    let row := s.ord.products[(code / 2 ^ s.ord.priceKey) % 32]'(Nat.mod_lt _ (by decide))
    let price := copies * (if copies < row.t2 then row.p1 else if copies < row.t3 then row.p2 else row.p3)
    let raster : Prop := 1 ≤ copies ∧ copies ≤ 99 ∧ w % 2 = 0 ∧ 2 ≤ w ∧ w ≤ 1920 ∧ 1 ≤ l ∧ l ≤ 2400
    (s.toPart.orderIdx (u16 args 0) = none → refused .badArgument)
      ∧ ∀ (k : Fin 32) (o : Order), s.toPart.orderIdx (u16 args 0) = some k → s.ord.orders[k] = some o →
        (o.state ≠ .opened ∨ o.cancel = true → refused .wrongState)
          ∧ (o.state = .opened → o.cancel = false →
            (16 ≤ o.items.length ∨ (∀ id : Fin 64, s.ord.items[id] ≠ none) → refused .noRoom)
              ∧ ∀ id : Fin 64, o.items.length < 16 → s.ord.items[id] = none → (∀ j : Fin 64, j < id → s.ord.items[j] ≠ none) →
                (4095 < code → refused .badArgument)
                  ∧ (code ≤ 4095 → row.valid = false → refused .noProduct)
                  ∧ (code ≤ 4095 → row.valid = true → (¬ raster ∨ 16 ≤ u8 args 5) → refused .badArgument)
                  ∧ ∀ r : Fin 16, code ≤ 4095 → row.valid = true → raster → u8 args 5 = r.val →
                    let g := s.spl.regions[r]
                    (g.valid = false → refused .noRoom)
                      ∧ (g.valid = true → g.holder ≠ none → refused .inUse)
                      ∧ (g.valid = true → g.holder = none → g.size * 1048576 / 4 < w * l → refused .noRoom)
                      ∧ (g.valid = true → g.holder = none → w * l ≤ g.size * 1048576 / 4 →
                        (9999999 < o.total + price → refused .amountLimit)
                          ∧ ∀ (f : Finish) (tone : Fin 4), o.total + price ≤ 9999999 → finishArg row.finish = some f →
                            row.tone = tone.val →
                            let t := s.replying rest tag 0x36 .ok (byte id.val :: (le4 price ++ le4 (o.total + price)))
                            exec .itemAdd s = .next { t with
                              ord := { s.ord with
                                items := s.ord.items.set id (some
                                  { order := k, sequence := s.ord.admission, code := code, price := price
                                    maskA := row.mask.getLsbD 0, maskB := row.mask.getLsbD 1, media := row.media
                                    finish := f, tone := tone, copies := copies, copiesDone := 0, width := w
                                    length := l, region := r, received := 0, state := .defined, debited := false
                                    reprintUsed := false, engine := none, reason := none })
                                admission := (s.ord.admission + 1) % 4294967296
                                orders := s.ord.orders.set k
                                  (some { o with items := o.items ++ [id], total := o.total + price }) }
                              spl := { s.spl with regions := s.spl.regions.set r { g with holder := some id } }
                              rin := { s.rin with
                                intake := s.rin.intake.set id (some { segments := [], receiving := true }) } }))

/-- ITEM_WITHDRAW is refused for an item that is not in use, is PRINTING or has ended; otherwise the item becomes WITHDRAWN,
its debit is reversed but for the copies delivered, the total falls by its price, its region loses its holder, it leaves the
release list and the engine queues, and its bands are dropped (R78, R97, R98, R142, R144). That the REPLY holds 0 where no
reversal is made is the model's choice (log entry 40). The order keeps an item at work or is OPEN, so that it does not
settle, and no other item waits in the release list. -/
def Obligations.ItemWithdrawTakesTheItemBack : Prop :=
  ∀ (s : State) (tag : Nat) (arg : Byte) (rest : List CtrlEntry), s.Asks 0x37 tag [arg] rest → s.svc.mode.trading = true →
    let refused (st : Status) : Prop := exec .itemWithdraw s = .next (s.replying rest tag 0x37 st [])
    (64 ≤ arg.toNat → refused .badArgument)
      ∧ ∀ id : Fin 64, arg.toNat = id.val →
        (s.ord.items[id] = none → refused .badArgument)
          ∧ ∀ it, s.ord.items[id] = some it →
            (it.state = .printing → refused .busy)
              ∧ (it.state = .done ∨ it.state = .failed ∨ it.state = .withdrawn → refused .wrongState)
              ∧ ∀ (o : Order) (x : Intake),
                (it.state = .defined ∨ it.state = .receiving ∨ it.state = .spooled ∨ it.state = .queued) →
                s.ord.orders[it.order] = some o → s.rin.intake[id] = some x → o.cancel = false →
                (o.state = .opened ∨ (o.state = .committed
                  ∧ ∃ j ∈ o.items, j ≠ id ∧ ∃ other, s.ord.items[j] = some other ∧ other.state.terminal = false)) →
                (∀ e ∈ s.ord.release, e.item = id) →
                let back := if it.debited then it.price - it.price * it.copiesDone / it.copies else 0
                let o' := { o with total := o.total - it.price, consumed := o.consumed - back }
                let t := s.replying rest tag 0x37 .ok (le4 (o.total - it.price) ++ le4 back)
                let stopped : Prop := x.receiving = true ∧ ∃ b, s.rin.conv = some b ∧ b.item = id
                let dropped : Prop := x.receiving = true ∧ ∃ b ∈ s.rin.queue, bandNames id b = true
                let funded : Prop := o.state = .committed ∧ o.cashIn + o.cardAuth < o.total ∧ o'.total ≤ o.cashIn + o.cardAuth
                ∃ u, exec .itemWithdraw s = .next u
                  ∧ u = { t with
                      ord := { s.ord with
                        items := s.ord.items.set id (some
                          { it with state := .withdrawn, reason := none, engine := none, debited := false })
                        orders := s.ord.orders.set it.order (some o'), release := [] }
                      engA := { s.engA with queue := s.engA.queue.filter (· != id) }
                      engB := { s.engB with queue := s.engB.queue.filter (· != id) }
                      spl := { s.spl with
                        regions := s.spl.regions.set it.region (if s.spl.regions[it.region].holder = some id then
                          { s.spl.regions[it.region] with holder := none } else s.spl.regions[it.region])
                        port := u.spl.port }
                      rin := { s.rin with
                        intake := s.rin.intake.set id (some { x with receiving := false })
                        conv := u.rin.conv, queue := u.rin.queue }
                      svc := u.svc }
                  ∧ (stopped → u.rin.conv = none
                    ∧ u.spl.port = s.spl.port.map fun a => if a.who = .intake then { a with live := false } else a)
                  ∧ (¬ stopped → u.rin.conv = s.rin.conv ∧ u.spl.port = s.spl.port)
                  ∧ u.rin.queue = s.rin.queue.filter (fun b => !(x.receiving && bandNames id b))
                  ∧ (¬ dropped → ¬ funded → u.svc = s.svc) ∧ (dropped → ¬ funded → u.svc = s.svc.capture .bandDiscard)
                  ∧ (¬ dropped → funded → u.svc = s.svc.capture .orderFunded)
                  ∧ (dropped → funded → u.svc = (s.svc.capture .bandDiscard).capture .orderFunded)

/-- ORDER_COMMIT makes an OPEN order COMMITTED, captures ORDER_FUNDED when the funds already reach the total, and with every
item ended and no authorization pending settles it: without a card amount it closes at once, its cash going to kept and the
pool and its slot unbound; with one a CAPTURE of what the cash does not cover, or a RELEASE, is handed to the cashless line.
The walk that follows tries the item of the order that waits alone in the release list: it is debited and QUEUED when the
order lets it go and an engine is eligible, an IDLE engine begins its copy at once, and it stays otherwise. ORDER_RESUME
makes a HALTED order OPEN (R46, R79, R82, R86 to R88, R94 to R96, R98 to R102, R116, R120, R166, R167). But for that item
the release list is empty. Frames that become ready as a slot is unbound move on, with ALERT as the close leaves it (R11, R62,
log entry 45). -/
def Obligations.OrderCommitSettlesOrWaits : Prop :=
  ∀ (s : State) (tag : Nat) (args : List Byte) (rest : List CtrlEntry), args.length = 2 → s.svc.mode.trading = true →
    (s.toPart.orderIdx (u16 args 0) = none →
        (s.Asks 0x31 tag args rest → exec .orderCommit s = .next (s.replying rest tag 0x31 .badArgument []))
          ∧ (s.Asks 0x33 tag args rest → exec .orderResume s = .next (s.replying rest tag 0x33 .badArgument [])))
      ∧ ∀ (k : Fin 32) (o : Order), s.toPart.orderIdx (u16 args 0) = some k → s.ord.orders[k] = some o →
        (s.Asks 0x33 tag args rest →
            exec .orderResume s = .next (if o.state = .halted ∧ o.cancel = false then
              (s.replying rest tag 0x33 .ok []).withOrder k { o with state := .opened }
            else s.replying rest tag 0x33 .wrongState []))
          ∧ (s.Asks 0x31 tag args rest → (o.state ≠ .opened ∨ o.cancel = true) →
            exec .orderCommit s = .next (s.replying rest tag 0x31 .wrongState []))
          ∧ (s.Asks 0x31 tag args rest → o.state = .opened → o.cancel = false →
            ∀ (x : ReleaseEntry) (it : Item), s.ord.release = [x] → s.ord.items[x.item] = some it → it.order = k →
            it.state = .spooled → x.item ∈ o.items →
            let o' := { o with state := .committed }
            let v := if o.total ≤ o.cashIn + o.cardAuth then s.svc.capture .orderFunded else s.svc
            let t : State := { (s.replying rest tag 0x31 .ok []).withOrder k o' with svc := v }
            ((¬ o'.letsItemGo it ∨ ∀ e, ¬ s.mayTake e it) → exec .orderCommit s = .next t)
              ∧ ∀ e, o'.letsItemGo it → s.takes e it → ((s.eng e).state = .idle → (s.eng e).queue = []) →
                exec .orderCommit s = .next (t.released e x.item it o'))
          ∧ (s.Asks 0x31 tag args rest → o.state = .opened → o.cancel = false → s.ord.release = [] →
            let ended : Prop := ∀ id ∈ o.items, ∀ it, s.ord.items[id] = some it → it.state.terminal = true
            let used := min o.cashIn o.consumed
            let v := if o.total ≤ o.cashIn + o.cardAuth then s.svc.capture .orderFunded else s.svc
            let t : State := { s.replying rest tag 0x31 .ok [] with svc := v }
            let settled := { o with state := .settling, change := some (o.cashIn - used) }
            let unfocused : Payment := if s.pay.focus = some o.number then { s.pay with focus := none } else s.pay
            (¬ ended ∨ o.cashless.state = .pending →
                exec .orderCommit s = .next (t.withOrder k { o with state := .committed }))
              ∧ (ended → o.cashless.state ≠ .pending → o.cardAuth = 0 → s.slotApart o →
                exec .orderCommit s = .next (State.framesUnbound
                  { t.withOrder k { settled.unbound with state := .closed, captured := some 0 } with
                    svc := v.capture .orderClosed
                    csu := s.csu.orderUnbound o
                    pay := { unfocused with kept := s.pay.kept + used, pool := s.pay.pool + (o.cashIn - used) } } s.csu o))
              ∧ (ended → o.cashless.state ≠ .pending → 0 < o.cardAuth → s.clc.outstanding = none → s.clc.queue = [] →
                s.ord.waiting = [] → s.clc.late = [] →
                let op : CashlessOp :=
                  if o.consumed = used then { kind := .release, ref := o.number, amount := 0 }
                  else { kind := .capture, ref := o.number, amount := o.consumed - used }
                exec .orderCommit s = .next { t.withOrder k { settled with
                    cashless := { o.cashless with state := if o.consumed = used then .releasing else .capturing } } with
                  pay := unfocused, clc := { s.clc with outstanding := some { op := op, timer := none } } })
              ∧ (ended → o.cashless.state ≠ .pending → 0 < o.cardAuth → 8 ≤ s.clc.queue.length →
                let op : CashlessOp :=
                  if o.consumed = used then { kind := .release, ref := o.number, amount := 0 }
                  else { kind := .capture, ref := o.number, amount := o.consumed - used }
                exec .orderCommit s = .next { t.withOrder k settled with
                  pay := unfocused
                  ord := { (t.withOrder k settled).ord with waiting := s.ord.waiting ++ [op] } }))

/-- ORDER_CANCEL is refused for an unknown order and for one that is SETTLING or CLOSED, changes nothing when the flag is
already set, and otherwise sets the flag, withdraws every item not yet printed and leaves the others as they are: the total
falls by their prices, their debits are reversed but for the copies delivered, their regions lose their holders, they leave
the release list and the engine queues, and their bands are dropped. The REPLY counts the items withdrawn and says whether
one is PRINTING; while one is, or an authorization is PENDING, the order does not settle (R80, R81, R97, R144). The reply to
a repeated cancel is the model's choice (log entry 19). The release list holds items of this order only. -/
def Obligations.OrderCancelWithdrawsItems : Prop :=
  ∀ (s : State) (tag : Nat) (args : List Byte) (rest : List CtrlEntry), s.Asks 0x32 tag args rest → args.length = 2 →
    s.svc.mode.trading = true →
    (s.toPart.orderIdx (u16 args 0) = none → exec .orderCancel s = .next (s.replying rest tag 0x32 .badArgument []))
      ∧ ∀ (k : Fin 32) (o : Order), s.toPart.orderIdx (u16 args 0) = some k → s.ord.orders[k] = some o →
        let printing := o.items.any fun id => s.toPart.itemState id == some .printing
        let leaves (it : Item) : Bool := it.state ∈ [.defined, .receiving, .spooled, .queued]
        let gone := o.items.filter fun id => (s.ord.items[id]).any leaves
        let receives (id : Fin 64) : Bool := (s.rin.intake[id]).any (·.receiving)
        let total (f : Item → Nat) : Nat := (gone.map fun id => ((s.ord.items[id]).map f).getD 0).sum
        let back (it : Item) : Nat := if it.debited then it.price - it.price * it.copiesDone / it.copies else 0
        let stopped : Bool := s.rin.conv.any fun b => b.item ∈ gone && receives b.item
        let names (band : List Byte) : Bool := gone.any fun id => receives id && bandNames id band
        let answered := s.replying rest tag 0x32 .ok [byte gone.length, if printing then 1 else 0]
        (o.state = .settling ∨ o.state = .closed →
            exec .orderCancel s = .next (s.replying rest tag 0x32 .wrongState []))
          ∧ (o.state ≠ .settling → o.state ≠ .closed → o.cancel = true →
            exec .orderCancel s = .next (s.replying rest tag 0x32 .ok [0, if printing then 1 else 0]))
          ∧ (o.state ≠ .settling → o.state ≠ .closed → o.cancel = false → o.items.Nodup →
            (∀ e ∈ s.ord.release, ∀ it, s.ord.items[e.item] = some it → it.order = k) →
            (∀ id ∈ o.items, ∃ it, s.ord.items[id] = some it ∧ it.order = k) →
            ∃ t, exec .orderCancel s = .next t
              ∧ (∀ id : Fin 64, t.ord.items[id]
                  = if id ∈ gone then (s.ord.items[id]).map fun it =>
                      { it with state := .withdrawn, reason := none, engine := none, debited := false }
                    else s.ord.items[id])
              ∧ (∃ o', t.ord.orders[k] = some o' ∧ o'.cancel = true ∧ o'.number = o.number ∧ o'.items = o.items
                ∧ o'.cashIn = o.cashIn ∧ o'.cardAuth = o.cardAuth ∧ o'.total = o.total - total (·.price)
                ∧ o'.consumed = o.consumed - total back
                ∧ (printing = false → o.cashless.state ≠ .pending → o'.state = .settling ∨ o'.state = .closed)
                ∧ ((printing = true ∨ o.cashless.state = .pending) →
                  o' = { o with cancel := true, total := o'.total, consumed := o'.consumed }
                    ∧ t.pay = s.pay ∧ t.clc = s.clc ∧ t.csu = s.csu ∧ t.lnk = answered.lnk
                    ∧ (∀ j : Fin 32, j ≠ k → t.ord.orders[j] = s.ord.orders[j])
                    ∧ t.svc = if s.rin.queue.any names then s.svc.capture .bandDiscard else s.svc))
              ∧ t.ord.release = s.ord.release.filter (fun e => e.item ∉ gone)
              ∧ (∀ e, t.eng e = { s.eng e with queue := (s.eng e).queue.filter fun id => id ∉ gone })
              ∧ (∀ r : Fin 16, t.spl.regions[r]
                  = if ∃ id ∈ gone, s.spl.regions[r].holder = some id ∧ (s.ord.items[id]).any (fun it => it.region == r) then
                      { s.spl.regions[r] with holder := none }
                    else s.spl.regions[r])
              ∧ t.spl.port = (if stopped then disowned s.spl.port .intake else s.spl.port)
              ∧ t.rin.conv = (if stopped then none else s.rin.conv)
              ∧ t.rin.queue = s.rin.queue.filter (fun band => !names band)
              ∧ (∀ id : Fin 64, t.rin.intake[id]
                  = if id ∈ gone then (s.rin.intake[id]).map fun x => { x with receiving := false } else s.rin.intake[id])
              ∧ t.lnk.handler = answered.lnk.handler ∧ t.lnk.ctrl = rest
              ∧ t.svc.mode = s.svc.mode ∧ t.pay.counted = s.pay.counted ∧ t.spl.mem = s.spl.mem)

/-- The bytes of an order record (13.2), with the encodings of R191: the 50 bytes of the order, and 14 for each of its items
in list order. -/
def recordBytes (s : State) (o : Order) : List Byte :=
  let bool (b : Bool) : Byte := if b then 1 else 0
  let place {A : Type} [BEq A] (table : List A) (x : A) : Byte := byte (table.idxOf x)
  let orAbsent {A : Type} (x : Option A) (f : A → Byte) : Byte := (x.map f).getD 0xFF
  let amount (x : Option Nat) : List Byte := (x.map le4).getD [0xFF, 0xFF, 0xFF, 0xFF]
  let card := (o.locked.map fun c => le4 c.serial ++ le4 c.capacity).getD [0, 0, 0, 0, 0, 0, 0, 0]
  let cash := o.cashless
  le2 o.number
    ++ [place [OrderState.opened, .committed, .settling, .closed, .halted] o.state, place [Funding.prepay, .perItem] o.funding,
      orAbsent o.slot fun i => byte i.val]
    ++ card ++ le4 o.total ++ le4 o.cashIn ++ le4 o.cardAuth ++ le4 o.consumed
    ++ [bool o.cancel] ++ amount o.change ++ amount o.captured
    ++ [place [CashlessState.none, .pending, .approved, .declined, .timedOut, .capturing, .captured, .releasing, .released,
      .unconfirmed] cash.state]
    ++ le4 cash.requested ++ le4 cash.approved ++ (cash.reason.map le2).getD [0xFF, 0xFF] ++ [byte o.items.length]
    ++ o.items.flatMap fun id =>
      ((s.ord.items[id]).map fun it =>
        [byte id.val,
          place [ItemState.defined, .receiving, .spooled, .queued, .printing, .done, .failed, .withdrawn] it.state]
        ++ le4 it.price ++ [byte it.copies, byte it.copiesDone] ++ le2 it.received
        ++ [bool it.debited, bool it.reprintUsed, orAbsent it.engine (place [EngineId.A, .B]),
          orAbsent it.reason (place [FailReason.engineFaultTwice, .pathReset])]).getD []

/-- ORDER_READ answers the record as it stands and changes nothing; ORDER_RELEASE frees a CLOSED order with its item entries
and their intake records, answering the record as it stood; both refuse an unknown order, and the release an order in any
other state (R83, R84, R142). A record takes 50 bytes and 14 for each of its items (13.2, R191). -/
def Obligations.OrderReadAndRelease : Prop :=
  ∀ (s : State) (tag : Nat) (args : List Byte) (rest : List CtrlEntry), args.length = 2 → s.svc.mode.trading = true →
    (s.toPart.orderIdx (u16 args 0) = none →
        (s.Asks 0x34 tag args rest → exec .orderRead s = .next (s.replying rest tag 0x34 .badArgument []))
          ∧ (s.Asks 0x35 tag args rest → exec .orderRelease s = .next (s.replying rest tag 0x35 .badArgument [])))
      ∧ ∀ (k : Fin 32) (o : Order), s.toPart.orderIdx (u16 args 0) = some k → s.ord.orders[k] = some o →
        (s.Asks 0x34 tag args rest → exec .orderRead s = .next (s.replying rest tag 0x34 .ok (recordBytes s o)))
          ∧ ((∀ id ∈ o.items, s.ord.items[id] ≠ none) → (recordBytes s o).length = 50 + 14 * o.items.length)
          ∧ (s.Asks 0x35 tag args rest → o.state ≠ .closed →
            exec .orderRelease s = .next (s.replying rest tag 0x35 .wrongState []))
          ∧ (s.Asks 0x35 tag args rest → o.state = .closed →
            ∃ t, exec .orderRelease s = .next t
              ∧ t = { s.replying rest tag 0x35 .ok (recordBytes s o) with
                  ord := { s.ord with orders := s.ord.orders.set k none, items := t.ord.items }
                  rin := { s.rin with intake := t.rin.intake } }
              ∧ ∀ id, t.ord.items[id] = (if id ∈ o.items then none else s.ord.items[id])
                ∧ t.rin.intake[id] = if id ∈ o.items then none else s.rin.intake[id])

/-! ### Cash -/

/-- The state after a posting of `amount` from a channel (R114, R115): refused with a jam when counted would pass
4,294,967,295; to the focus order when it is OPEN or COMMITTED and owes money; to the pool otherwise. A release walk that a
posting to an order makes is not part of it. -/
def postedState (s : State) (c : Fin 6) (amount : Nat) : State :=
  if 4294967295 < s.pay.counted + amount then
    { s.withChan c { s.pay.chans[c] with jammed := true } with svc := s.svc.capture .channelJam }
  else
    match s.pay.focus.bind s.toPart.liveOrder with
    | some (k, o) =>
      if (o.state = .opened ∨ o.state = .committed) ∧ o.cashIn + o.cardAuth < o.total then
        let v := s.svc.capture .credit
        let funded : Prop := o.state = .committed ∧ o.cancel = false ∧ o.total ≤ o.cashIn + amount + o.cardAuth
        { s.withOrder k { o with cashIn := o.cashIn + amount } with
          pay := { s.pay with counted := s.pay.counted + amount }
          svc := if funded then v.capture .orderFunded else v }
      else
        { s with
          pay := { s.pay with counted := s.pay.counted + amount, pool := s.pay.pool + amount }
          svc := s.svc.capture .poolCredit }
    | none =>
      { s with
        pay := { s.pay with counted := s.pay.counted + amount, pool := s.pay.pool + amount }
        svc := s.svc.capture .poolCredit }

/-- A pulse begins when its line asserts and stops the gap timer of an open train; a train whose gap has been reached by
then has ended with its posting before the pulse begins (R112; also at that very millisecond, the model's choice, log entry
46). At its end it is noise below the min width, a coin posts its channel's value from the min to the max width, and a pulse
of a disabled or JAMMED channel is uncounted, but for the one that jammed it. A valid pulse, a coin here and a bill pulse in
TrainsPostAtTheirEnd, asks to wake in every mode, after its posting: in PARK_PENDING a wake condition that arises ends the
grace, and in PARKED and WAKING it wakes the part to LIVE (R24, R26, R29, R108 to R111, R114, R115). That a coin posting
refused by the overflow check leaves an open train of its channel (log entry 32), and the time base that the widths are
measured with (log entry 5), are the model's choices. No item waits in the release list, but in PARKED and WAKING, where a
posting makes no walk (R86). -/
def Obligations.PulsesAreClassified : Prop :=
  ∀ (s : State) (c : Fin 6) (ms : Nat), s.inReset = false →
    let now := max s.now ms
    let ch := s.pay.chans[c]
    let e := s.pay.table[c]
    let at_ (level : Bool) (x : Channel) : State :=
      { s.withChan c x with now := now, pins := { s.pins with pulse := s.pins.pulse.set c level } }
    let begun : Pulse := { since := now, jammer := false }
    (s.pins.pulse[c] = false →
        ((∀ t g, ch.train = some t → t.gapSince = some g → now < g + e.gap) →
            exec (.pulseAssert c ms) s = .next (at_ true
              { ch with pulse := some begun, train := ch.train.map fun t => { t with gapSince := none } }))
          ∧ ∀ t g, ch.train = some t → t.gapSince = some g → g + e.gap ≤ now →
            s.ord.release = [] ∨ s.svc.mode.dark = true →
            let posted := postedState (at_ true { ch with train := none }) c (t.n * t.value)
            exec (.pulseAssert c ms) s = .next (posted.withChan c { posted.pay.chans[c] with pulse := some begun }))
      ∧ ∀ u, s.pins.pulse[c] = true → ch.pulse = some u →
        let w := now - u.since
        let passed := at_ false { ch with pulse := none, train := ch.train.map fun t => { t with gapSince := some now } }
        (e.enabled = true → ch.jammed = false → w < e.minWidth → w ≤ e.maxWidth →
            exec (.pulseEnd c ms) s = .next (passed.captured .noisePulse))
          ∧ ((e.enabled = false ∨ ch.jammed = true) → u.jammer = false →
            exec (.pulseEnd c ms) s = .next (passed.captured .uncountedPulse))
          ∧ ((e.enabled = false ∨ ch.jammed = true) → u.jammer = true → exec (.pulseEnd c ms) s = .next passed)
          ∧ (e.enabled = true → ch.jammed = false → e.minWidth ≤ w → w ≤ e.maxWidth → e.group = .coin →
            s.ord.release = [] ∨ s.svc.mode.dark = true →
            s.pulseWakes (postedState passed c e.value) (exec (.pulseEnd c ms) s))

/-- A pulse has jammed its channel (R109). -/
def jammedState (s : State) (c : Fin 6) (u : Pulse) : State :=
  (s.withChan c { s.pay.chans[c] with jammed := true, pulse := some { u with jammer := true } }).captured .channelJam

/-- Bill pulses form a train: the first opens it with the channel's value, each later one is counted, and the hundredth, the
expiry of the train gap, or a jam ends it with one posting. A pulse that lasts max width + 1 ms jams its channel, after the
train has posted. A write of a channel's entry finds what was due by the entry before it done, and acts at that moment by
the new one: a pulse past the jam point of either jams, and otherwise a train past the gap of either ends (R107 to R109,
R112 to R115). The time base moves on to the moment of each event, the model's choice (log entry 5), and so are what is due
in the very millisecond of the write (log entry 46), the jam where the write enables the channel (log entry 37) and that a
pulse whose jam ends a train with a refused posting is the one that jammed (log entry 41). A valid pulse asks to wake in
every mode, after its credit (R24, R26, R29). No item waits in the release list, and at a write no gap timer runs beside a
pulse (R108). -/
def Obligations.TrainsPostAtTheirEnd : Prop :=
  (∀ (s : State) (c : Fin 6) (ms : Nat), s.inReset = false → s.ord.release = [] →
    let ch := s.pay.chans[c]
    let e := s.pay.table[c]
    (∀ u, s.pins.pulse[c] = true → ch.pulse = some u → e.enabled = true → ch.jammed = false → e.group = .bill →
        let now := max s.now ms
        let w := now - u.since
        let after (t : Option Train) : State :=
          { s.withChan c { ch with pulse := none, train := t } with
            now := now, pins := { s.pins with pulse := s.pins.pulse.set c false } }
        let leaves (t : State) : Prop := s.pulseWakes t (exec (.pulseEnd c ms) s)
        e.minWidth ≤ w → w ≤ e.maxWidth →
        (ch.train = none → leaves (after (some { n := 1, value := e.value, gapSince := some now })))
          ∧ ∀ t, ch.train = some t →
            (t.n + 1 < 100 → leaves (after (some { n := t.n + 1, value := t.value, gapSince := some now })))
              ∧ (t.n + 1 = 100 → leaves (postedState (after none) c (100 * t.value))))
      ∧ (∀ t g, ch.train = some t → t.gapSince = some g → exec (.trainGapExpiry c) s = .next
        (postedState { s.withChan c { ch with train := none } with now := max s.now (g + e.gap) } c (t.n * t.value)))
      ∧ ∀ u, e.enabled = true → ch.jammed = false → ch.pulse = some u →
        let at_ (t : Option Train) : State :=
          { s.withChan c { ch with train := t } with now := max s.now (u.since + e.maxWidth + 1) }
        (ch.train = none → exec (.pulseJam c) s = .next (jammedState (at_ none) c u))
          ∧ ∀ t, ch.train = some t →
            exec (.pulseJam c) s = .next (jammedState (postedState (at_ none) c (t.n * t.value)) c u))
    ∧ ∀ (s : State) (c : Fin 6) (ms tag : Nat) (entry : List Byte) (rest : List CtrlEntry),
      s.Asks 0x01 tag (0x06 :: 0x00 :: (le2 c.val ++ le2 1 ++ entry)) rest → s.svc.mode.serving = true →
      s.ord.release = [] → entry.length = 10 → entryRule .channels c.val entry →
      (∀ u t g, s.pay.chans[c].pulse = some u → s.pay.chans[c].train = some t → t.gapSince ≠ some g) →
      let now := max s.now ms
      let ch := s.pay.chans[c]
      let before := s.pay.table[c]
      let e : ChannelEntry :=
        { enabled := u8 entry 0 == 1, group := if u8 entry 1 = 0 then .coin else .bill, value := u16 entry 2
          minWidth := u16 entry 4, maxWidth := u16 entry 6, gap := u16 entry 8 }
      let pay : Payment := { s.pay with table := s.pay.table.set c e }
      let written : State :=
        { s.replying rest tag 0x01 .ok (s.tableSlice .channels c.val 1) with now := now, pay := pay }
      let done : State := written.withChan c { ch with train := none }
      let jams (u : Pulse) : Prop := ch.jammed = false ∧ ch.pulse = some u
        ∧ (before.enabled = true ∧ u.since + before.maxWidth < now ∨ e.enabled = true ∧ u.since + e.maxWidth < now)
      let ends (t : Train) (g : Nat) : Prop :=
        ch.train = some t ∧ t.gapSince = some g ∧ (g + before.gap ≤ now ∨ g + e.gap ≤ now)
      (∀ u, jams u → ch.train = none → exec (.tableWrite ms) s = .next (jammedState written c u))
        ∧ (∀ u t, jams u → ch.train = some t →
          exec (.tableWrite ms) s = .next (jammedState (postedState done c (t.n * t.value)) c u))
        ∧ (∀ t g, (∀ u, ¬ jams u) → ends t g → exec (.tableWrite ms) s = .next (postedState done c (t.n * t.value)))
        ∧ ((∀ u, ¬ jams u) → (∀ t g, ¬ ends t g) → exec (.tableWrite ms) s = .next written)

/-- FOCUS_SET puts the focus on an OPEN or COMMITTED order and answers the earlier one, FOCUS_CLEAR removes it, and
CHANNEL_RESET makes a JAMMED channel NORMAL, a line still asserted beginning a pulse at that moment; what was due on the
channel by then has happened before: a pulse past its jam point has jammed it, and a train whose gap has been reached has
ended with its posting (R109, R112, R116, R118; also at that very millisecond, the model's choice, log entry 46). A channel
NORMAL even so is answered WRONG_STATE, nothing changed. The time base that CHANNEL_RESET carries is the model's (log entry
5). At such a posting no item waits in the release list. -/
def Obligations.FocusAndChannelRequests : Prop :=
  ∀ (s : State) (tag ms : Nat) (args : List Byte) (rest : List CtrlEntry), s.svc.mode.serving = true →
    let before := le2 (s.pay.focus.getD 0)
    let focused (t : State) (f : Option Nat) : State := { t with pay := { s.pay with focus := f } }
    (s.Asks 0x41 tag [] rest → s.svc.mode.trading = true →
        exec .focusClear s = .next (focused (s.replying rest tag 0x41 .ok before) none))
      ∧ (s.Asks 0x40 tag args rest → args.length = 2 → s.svc.mode.trading = true →
        (s.toPart.orderIdx (u16 args 0) = none → exec .focusSet s = .next (s.replying rest tag 0x40 .badArgument []))
          ∧ ∀ (k : Fin 32) (o : Order), s.toPart.orderIdx (u16 args 0) = some k → s.ord.orders[k] = some o →
            exec .focusSet s = .next (if o.state = .opened ∨ o.state = .committed then
              focused (s.replying rest tag 0x40 .ok before) (some (u16 args 0))
            else s.replying rest tag 0x40 .wrongState []))
      ∧ (s.Asks 0x42 tag args rest → args.length = 1 →
        (6 ≤ u8 args 0 → exec (.channelReset ms) s = .next (s.replying rest tag 0x42 .badArgument []))
          ∧ ∀ c : Fin 6, u8 args 0 = c.val →
            let ch := s.pay.chans[c]
            let e := s.pay.table[c]
            let now := max s.now ms
            let refused : Prop := exec (.channelReset ms) s = .next (s.replying rest tag 0x42 .wrongState [])
            let at_ (train : Option Train) : State :=
              { (s.replying rest tag 0x42 .ok []).withChan c { ch with train := train } with now := now }
            let posted (x : Train) : State := postedState (at_ none) c (x.n * x.value)
            let resets (u : State) : Prop :=
              let x := u.pay.chans[c]
              exec (.channelReset ms) s = .next (u.withChan c (if s.pins.pulse[c] then
                { x with
                  jammed := false, pulse := some { since := now, jammer := false }
                  train := x.train.map fun y => { y with gapSince := none } }
              else { x with jammed := false }))
            let jams (u : Pulse) : Prop :=
              e.enabled = true ∧ ch.jammed = false ∧ ch.pulse = some u ∧ u.since + e.maxWidth < now
            let ends (x : Train) (g : Nat) : Prop := ch.train = some x ∧ x.gapSince = some g ∧ g + e.gap ≤ now
            (ch.jammed = false → (∀ u, ¬ jams u) → (∀ x g, ¬ ends x g) → refused)
              ∧ (∀ x g, ch.jammed = false → (∀ u, ¬ jams u) → ends x g → s.ord.release = [] →
                if 4294967295 < s.pay.counted + x.n * x.value then resets (posted x) else refused)
              ∧ (ch.jammed = true → (∀ x g, ¬ ends x g) → resets (at_ ch.train))
              ∧ (∀ x g, ch.jammed = true → ends x g → s.ord.release = [] → resets (posted x))
              ∧ (∀ u, jams u → ch.train = none → resets (jammedState (at_ none) c u))
              ∧ ∀ u x, jams u → ch.train = some x → s.ord.release = [] → resets (jammedState (posted x) c u))

/-- POOL_APPLY moves money from the pool to an order after the checks of R121; POOL_PAYOUT takes it from the pool and from
counted; TALLY_READ answers the record of R123, with the two inhibit outputs, each deasserted while the mode is LIVE, a focus
order owes money and no channel of the group is JAMMED; TALLY_CLEAR takes kept out of counted (R117, R121 to R124). No item
waits in the release list. The layout of the TALLY_READ result is the model's reading of R191 (log entry 19). -/
def Obligations.PoolAndTallyRequests : Prop :=
  ∀ (s : State) (tag : Nat) (args : List Byte) (rest : List CtrlEntry), s.svc.mode.serving = true → s.ord.release = [] →
    let tally (y : Payment) : List Byte := le4 y.counted ++ le4 y.kept ++ le4 y.pool
    let paid (t : State) (y : Payment) : State := { t with pay := y }
    (∀ g : Group, s.toPart.inhibit g = false ↔ s.svc.mode = .live
        ∧ (∃ n k o, s.pay.focus = some n ∧ s.toPart.orderIdx n = some k ∧ s.ord.orders[k] = some o
          ∧ o.cashIn + o.cardAuth < o.total)
        ∧ ∀ c : Fin 6, s.pay.table[c].group = g → s.pay.chans[c].jammed = false)
      ∧ (s.Asks 0x43 tag args rest → args.length = 8 → s.svc.mode.trading = true →
        let amount := u32 args 4
        let refused (st : Status) : Prop := exec .poolApply s = .next (s.replying rest tag 0x43 st [])
        (s.toPart.orderIdx (u16 args 0) = none → refused .badArgument)
          ∧ ∀ (k : Fin 32) (o : Order), s.toPart.orderIdx (u16 args 0) = some k → s.ord.orders[k] = some o →
            (o.state ≠ .opened → o.state ≠ .committed → refused .wrongState)
              ∧ ((o.state = .opened ∨ o.state = .committed) →
                (amount = 0 ∨ s.pay.pool < amount ∨ 16777215 < o.cashIn + amount → refused .badArgument)
                  ∧ (1 ≤ amount → amount ≤ s.pay.pool → o.cashIn + amount ≤ 16777215 →
                    let funded : Prop := o.state = .committed ∧ o.cancel = false ∧ o.cashIn + o.cardAuth < o.total
                      ∧ o.total ≤ o.cashIn + amount + o.cardAuth
                    let t := paid ((s.replying rest tag 0x43 .ok
                      (le4 (o.cashIn + amount) ++ le4 (s.pay.pool - amount))).withOrder k
                        { o with cashIn := o.cashIn + amount }) { s.pay with pool := s.pay.pool - amount }
                    exec .poolApply s = .next (if funded then t.captured .orderFunded else t))))
      ∧ (s.Asks 0x44 tag args rest → args.length = 4 →
        let amount := u32 args 0
        let y := { s.pay with counted := s.pay.counted - amount, pool := s.pay.pool - amount }
        exec .poolPayout s = .next (if amount = 0 ∨ s.pay.pool < amount then s.replying rest tag 0x44 .badArgument []
          else paid (s.replying rest tag 0x44 .ok (tally y)) y))
      ∧ (s.Asks 0x45 tag [] rest → exec .tallyRead s = .next (s.replying rest tag 0x45 .ok
        (tally s.pay ++ le2 (s.pay.focus.getD 0)
          ++ s.pay.chans.toList.flatMap (fun ch =>
            [if ch.jammed then 1 else 0, (ch.train.map fun t => byte t.n).getD 0xFF])
          ++ [if s.toPart.inhibit .coin then 1 else 0, if s.toPart.inhibit .bill then 1 else 0])))
      ∧ (s.Asks 0x46 tag [] rest → exec .tallyClear s = .next (paid (s.replying rest tag 0x46 .ok (le4 s.pay.kept))
        { s.pay with counted := s.pay.counted - s.pay.kept, kept := 0 }))

/-! ### The cashless line -/

/-- CARD_AUTHORIZE makes the checks of R130 in their order; an accepted one makes the order PENDING and joins the queue, or
is sent at once when nothing is outstanding. The timer of an operation starts when its message has left, toward 60 s for an
AUTHORIZE and 15 s for the others (R126, R129, R130). That the message which leaves is that of the operation now
outstanding, also when an answer came before the one before it had left, is the model's choice (log entry 42). -/
def Obligations.CardAuthorizeJoinsTheQueue : Prop :=
  (∀ (s : State) (tag : Nat) (args : List Byte) (rest : List CtrlEntry), s.Asks 0x48 tag args rest → args.length = 8 →
      s.svc.mode.trading = true →
      let amount := u32 args 4
      let refused (st : Status) : Prop := exec .cardAuthorize s = .next (s.replying rest tag 0x48 st [])
      (s.toPart.orderIdx (u16 args 0) = none → refused .badArgument)
        ∧ ∀ (k : Fin 32) (o : Order), s.toPart.orderIdx (u16 args 0) = some k → s.ord.orders[k] = some o →
          let open_ : Prop := (o.state = .opened ∨ o.state = .committed)
            ∧ (o.cashless.state = .none ∨ o.cashless.state = .declined)
          let owed : Prop := 1 ≤ amount ∧ amount + o.cashIn + o.cardAuth ≤ o.total
          let op : CashlessOp := { kind := .authorize, ref := u16 args 0, amount := amount }
          let o' := { o with cashless := { o.cashless with
            state := .pending, requested := amount, approved := 0, reason := none } }
          let asked (ahead : Nat) : State := (s.replying rest tag 0x48 .ok [byte ahead]).withOrder k o'
          (¬ open_ → refused .wrongState)
            ∧ (open_ → ¬ owed → refused .badArgument)
            ∧ (open_ → owed → 8 ≤ s.clc.queue.length → refused .noRoom)
            ∧ (open_ → owed → s.clc.queue.length < 8 → s.clc.outstanding ≠ none →
              exec .cardAuthorize s = .next { asked (s.clc.queue.length + 1) with
                clc := { s.clc with queue := s.clc.queue ++ [op] } })
            ∧ (open_ → owed → s.clc.queue = [] → s.clc.outstanding = none → s.ord.waiting = [] → s.clc.late = [] →
              exec .cardAuthorize s = .next { asked 0 with
                clc := { s.clc with outstanding := some { op := op, timer := none } } }))
    ∧ ∀ (s : State) (op : CashlessOp), s.inReset = false → s.clc.outstanding = some { op := op, timer := none } →
      exec .cashlessMessageSent s = .next { s with clc := { s.clc with
        outstanding := some { op := op, timer := some (if op.kind = .authorize then 60000 else 15000) } } }

/-- The receiver finds the start byte in HUNT, takes the type and the body length in HEADER and the body in BODY; a gap of
more than 50 ms, a bad stop bit and a wrong check byte discard the message in silence, and a message whose type or body
length the terminal does not send is stray (R127, R136, R193). -/
def Obligations.CashlessBytesAreAssembled : Prop :=
  ∀ (s : State) (b : Byte), s.inReset = false →
    let r := s.clc.rx
    let after (c : Instr) (x : Receiver) : Prop := exec c s = .next (s.receiving x)
    let hunt : Receiver := { state := .hunt, bytes := [], gap := none }
    let taken (st : RxState) (bytes : List Byte) : Receiver := { state := st, bytes := bytes, gap := some 50 }
    let received := after (.cashlessByteReceived b)
    (r.state = .hunt → b = 0xA5 → received (taken .header []))
      ∧ (r.state = .hunt → b ≠ 0xA5 → received r)
      ∧ (r.state = .header → r.bytes = [] → received (taken .header [b]))
      ∧ (∀ type, r.state = .header → r.bytes = [type] → received (taken (if b = 0 then .sum else .body) [type, b]))
      ∧ (∀ type n body, r.state = .body → r.bytes = type :: n :: body → body.length < n.toNat →
        received (taken (if body.length + 1 = n.toNat then .sum else .body) (type :: n :: (body ++ [b]))))
      ∧ (r.gap ≠ none → after .cashlessGapExpiry hunt)
      ∧ after .cashlessStopBitError hunt
      ∧ (r.state = .sum → b ≠ sum8 r.bytes → after (.cashlessCheckDiscard b) hunt)
      ∧ ∀ (type n : Byte) (body : List Byte), r.state = .sum → r.bytes = type :: n :: body → b = sum8 r.bytes →
        ¬ (type = 0x81 ∧ n = 6) → ¬ (type = 0x82 ∧ n = 3) → ¬ (type = 0x83 ∧ n = 2) → ¬ (type = 0x84 ∧ n = 2) →
        exec (.unknownTerminalMessage b) s = .next ((s.receiving hunt).captured .strayMessage)

/-- An APPROVED ends its AUTHORIZE with the amount it carries, no more than requested, and funds the order; one of 0 and a
DECLINED end it DECLINED; 60 s without an answer end it TIMED_OUT. An APPROVED for a TIMED_OUT order captures LATE_APPROVAL
once and owes a release, sent at once when nothing is outstanding; a late DECLINED has no effect; a message that names no
order, and a second late APPROVED, are stray (R93, R98, R131 to R133, R136). An answer may come before its operation's
message has left (R126), and the model then keeps nothing of that message (its choice, log entry 42). The order does not
settle at it, and no item waits in the release list. -/
def Obligations.AuthorizationsEnd : Prop :=
  ∀ (s : State) (b : Byte) (ref amount reason : Nat), ref < 65536 → amount < 4294967296 → reason < 256 →
    let approves : Prop := s.Heard 0x81 (le2 ref ++ le4 amount) b
    let declines : Prop := s.Heard 0x82 (le2 ref ++ [byte reason]) b
    let t := s.receiving { state := .hunt, bytes := [], gap := none }
    (s.toPart.orderIdx ref = none → (approves → exec (.approved b) s = .next (t.captured .strayMessage))
        ∧ (declines → exec (.declined b) s = .next (t.captured .strayMessage)))
      ∧ ∀ (k : Fin 32) (o : Order), s.toPart.orderIdx ref = some k → s.ord.orders[k] = some o →
        let cl (o : Order) (c : Cashless) : Order := { o with cashless := c }
        let ends (t : State) (st : CashlessState) (why : Option Nat) : State :=
          (t.operationEnded.withOrder k (cl o { o.cashless with state := st, reason := why })).captured .authResult
        (∀ x, s.clc.outstanding = some x → x.op.kind = .authorize → x.op.ref = ref → s.clc.queue = [] →
            o.cashless.state = .pending → s.ord.release = [] →
            ((o.state ≠ .committed ∧ o.cancel = false)
              ∨ ∃ id ∈ o.items, ∃ it, s.ord.items[id] = some it ∧ it.state.terminal = false) →
            (approves → 1 ≤ amount →
                let a := min amount o.cashless.requested
                let funded : Prop := o.state = .committed ∧ o.cancel = false ∧ o.cashIn + o.cardAuth < o.total
                  ∧ o.total ≤ o.cashIn + a
                let u := (t.operationEnded.withOrder k
                  (cl { o with cardAuth := a } { o.cashless with state := .approved, approved := a })).captured .authResult
                exec (.approved b) s = .next (if funded then u.captured .orderFunded else u))
              ∧ (approves → amount = 0 → exec (.approved b) s = .next (ends t .declined none))
              ∧ (declines → exec (.declined b) s = .next (ends t .declined (some reason)))
              ∧ (s.inReset = false → x.timer ≠ none →
                exec .authorizeTimeout s = .next (ends s .timedOut o.cashless.reason)))
          ∧ (o.cashless.state = .timedOut →
            let late := t.withOrder k (cl o { o.cashless with lateSeen := true })
            let op : CashlessOp := { kind := .lateRelease, ref := ref, amount := 0 }
            (declines → exec (.declined b) s = .next t)
              ∧ (approves → o.cashless.lateSeen = true → exec (.approved b) s = .next (t.captured .strayMessage))
              ∧ (approves → o.cashless.lateSeen = false → s.clc.queue.length < 8 → s.clc.outstanding ≠ none →
                exec (.approved b) s = .next
                  { late.captured .lateApproval with clc := { t.clc with queue := s.clc.queue ++ [op] } })
              ∧ (approves → o.cashless.lateSeen = false → s.clc.queue = [] → s.clc.outstanding = none →
                s.ord.waiting = [] → s.clc.late = [] →
                exec (.approved b) s = .next
                  { late.captured .lateApproval with clc := { t.clc with outstanding := some { op := op, timer := none } } })
              ∧ (approves → o.cashless.lateSeen = false → 8 ≤ s.clc.queue.length → s.clc.late.length < 8 →
                exec (.approved b) s = .next
                  { late.captured .lateApproval with clc := { t.clc with late := s.clc.late ++ [ref] } })
              ∧ (approves → o.cashless.lateSeen = false → 8 ≤ s.clc.queue.length → 8 ≤ s.clc.late.length →
                exec (.approved b) s = .next ((t.captured .lateApproval).captured .strayMessage)))

/-- CAPTURED and RELEASED end the operation they answer and 15 s without an answer end it UNCONFIRMED, and the SETTLING order
closes, its cash going to kept and the pool; a LATE_RELEASE ends on either answer or on its timer with no record changed;
an answer to no outstanding operation is stray. The place that an ended operation leaves is given to the queue's head, and
the head's entry to a settlement operation that waits (R46, R102, R120, R129, R134 to R136), also when the answer comes
before its operation's message has left (R126; that nothing of that message is kept is the model's choice, log entry 42).
Frames that become ready as a slot is unbound move on, with ALERT as the close leaves it (R11, R62, log entry 45). -/
def Obligations.SettlementOperationsEnd : Prop :=
  ∀ (s : State) (b : Byte) (ref : Nat), ref < 65536 →
    let captures : Prop := s.Heard 0x83 (le2 ref) b
    let releases : Prop := s.Heard 0x84 (le2 ref) b
    let t := s.receiving { state := .hunt, bytes := [], gap := none }
    (∀ (x : Outstanding) (k : Fin 32) (o : Order), s.clc.outstanding = some x → x.op.ref = ref → s.clc.queue = [] →
        s.toPart.orderIdx ref = some k → s.ord.orders[k] = some o → o.state = .settling → s.slotApart o →
        let used := min o.cashIn o.consumed
        let closes (t : State) (st : CashlessState) (kind : CaptureKind) (captured : Option Nat) : State :=
          let u := t.operationEnded.withOrder k { o.unbound with
            state := .closed, captured := captured, cashless := { o.cashless with state := st } }
          State.framesUnbound { u with
            svc := (s.svc.capture kind).capture .orderClosed
            csu := s.csu.orderUnbound o
            pay := { s.pay with
              kept := s.pay.kept + used, pool := s.pay.pool + (o.cashIn - used)
              focus := if s.pay.focus = some ref then none else s.pay.focus } } s.csu o
        (x.op.kind = .capture → captures →
            exec (.captured b) s = .next (closes t .captured .cashlessDone (some (o.consumed - used))))
          ∧ (x.op.kind = .release → releases →
            exec (.released b) s = .next (closes t .released .cashlessDone (some 0)))
          ∧ ((x.op.kind = .capture ∨ x.op.kind = .release) → s.inReset = false → x.timer ≠ none →
            exec .settlementOpTimeout s = .next (closes s .unconfirmed .cashlessUnconfirmed none)))
      ∧ (∀ x : Outstanding, s.clc.outstanding = some x → x.op.kind = .lateRelease → s.clc.queue = [] →
        (x.op.ref = ref → captures → exec (.captured b) s = .next t.operationEnded)
          ∧ (x.op.ref = ref → releases → exec (.released b) s = .next t.operationEnded)
          ∧ (s.inReset = false → x.timer ≠ none →
            exec .lateReleaseTimeout s = .next (s.operationEnded.captured .cashlessUnconfirmed)))
      ∧ ((∀ x, s.clc.outstanding = some x → x.op.ref = ref → x.op.kind = .authorize ∨ x.op.kind = .release) →
        captures → exec (.captured b) s = .next (t.captured .strayMessage))
      ∧ ((∀ x, s.clc.outstanding = some x → x.op.ref = ref → x.op.kind = .authorize ∨ x.op.kind = .capture) →
        releases → exec (.released b) s = .next (t.captured .strayMessage))
      ∧ ∀ (x : Outstanding) (next : CashlessOp) (queue : List CashlessOp), s.inReset = false →
        s.clc.outstanding = some x → x.op.kind = .lateRelease → x.timer ≠ none → s.clc.queue = next :: queue →
        let sent : Option Outstanding := some { op := next, timer := none }
        let u := s.captured .cashlessUnconfirmed
        (s.ord.waiting = [] → s.clc.late = [] →
            exec .lateReleaseTimeout s = .next { u with clc := { s.clc with outstanding := sent, queue := queue } })
          ∧ (∀ r late, s.ord.waiting = [] → s.clc.late = r :: late →
            exec .lateReleaseTimeout s = .next { u with clc := { s.clc with
              outstanding := sent, queue := queue ++ [{ kind := .lateRelease, ref := r, amount := 0 }], late := late } })
          ∧ ∀ w waiting (k : Fin 32) (o : Order), s.ord.waiting = w :: waiting → s.toPart.orderIdx w.ref = some k →
            s.ord.orders[k] = some o →
            exec .lateReleaseTimeout s = .next
              { u with
                ord := { s.ord with
                  waiting := waiting
                  orders := s.ord.orders.set k (some { o with cashless := { o.cashless with
                    state := if w.kind = .capture then .capturing else .releasing } }) }
                clc := { s.clc with outstanding := sent, queue := queue ++ [w] } }

/-! ### Raster intake and spool -/

/-- RIN takes the oldest band when none is in conversion. A band that fails a check of R140 is dropped with BAND_DISCARD; an
accepted one makes its item RECEIVING and puts W/2 bytes into each of the four planes at the addresses of R154, dot by dot the
yellow, magenta, cyan and finish bytes of R147 to R149 (R139 to R141, R147 to R150). -/
def Obligations.BandsAreConverted : Prop :=
  ∀ (s : State) (band : List Byte) (rest : List (List Byte)), s.inReset = false → s.rin.conv = none →
    s.rin.queue = band :: rest →
    let discarded : State := { s.captured .bandDiscard with rin := { s.rin with queue := rest } }
    let passes (it : Item) : Prop := (it.state = .defined ∨ it.state = .receiving) ∧ u8 band 1 ≤ 1 ∧ u16 band 2 < it.length
      ∧ ((u8 band 4 = 0 ∧ band.length = 6 + 3 * (it.width / 2)) ∨ (u8 band 4 = 1 ∧ band.length = 6 + 4 * (it.width / 2)))
    (band.length < 6 ∨ 64 ≤ u8 band 0 → exec .bandTake s = .next discarded)
      ∧ ∀ id : Fin 64, 6 ≤ band.length → u8 band 0 = id.val →
        (s.ord.items[id] = none → exec .bandTake s = .next discarded)
          ∧ ∀ it, s.ord.items[id] = some it →
            (¬ passes it → exec .bandTake s = .next discarded)
              ∧ (passes it → ∃ writes : List PlaneWrite,
                exec .bandTake s = .next { s.withItem id { it with state := .receiving } with
                    rin := { s.rin with
                      queue := rest, conv := some { item := id, row := u16 band 2, half := u8 band 1, writes := writes } } }
                  ∧ writes.length = 4
                  ∧ ∀ (p : Fin 4) (w : PlaneWrite), writes[p.val]? = some w →
                    let g := s.spl.regions[it.region]
                    let n := it.width / 2
                    let dye (row curve : Nat) (j : Nat) : Byte :=
                      let tone := s.rin.tones[it.tone]
                      let k (i : Nat) : Int := signed16 (tone.getD (row + i) 0)
                      let inverted (i : Nat) : Int := 255 - ((band.getD (6 + 3 * j + i) 0).toNat : Int)
                      let mix : Int := (k 0 * inverted 0 + k 1 * inverted 1 + k 2 * inverted 2 + 128) / 256
                      byte (tone.getD (curve + (max 0 (min 255 mix)).toNat) 0)
                    w.addr = g.base + p.val * (g.size * 1048576 / 4) + u16 band 2 * it.width + u8 band 1 * n
                      ∧ w.bytes.length = n
                      ∧ ∀ j, j < n →
                        (p = 0 → w.bytes[j]? = some (dye 6 521 j)) ∧ (p = 1 → w.bytes[j]? = some (dye 3 265 j))
                          ∧ (p = 2 → w.bytes[j]? = some (dye 0 9 j))
                          ∧ (p = 3 → w.bytes[j]? = some (match it.finish with
                            | .gloss => 0
                            | .matte => 0xFF
                            | .pattern => if u8 band 4 = 1 then band.getD (6 + 3 * n + j) 0 else 0)))

/-- REGION_OPEN and REGION_CLOSE make their checks in order and answer what R155 and R156 list (R153, R155, R156). That a size
stands in the result as one byte is the model's reading of R191 (log entry 19). -/
def Obligations.RegionsOpenAndClose : Prop :=
  ∀ (s : State) (tag : Nat) (args : List Byte) (rest : List CtrlEntry), s.svc.mode.serving = true →
    let region (t : State) (r : Fin 16) (g : Region) : State :=
      { t with spl := { s.spl with regions := s.spl.regions.set r g } }
    let extent (base size : Nat) : List Byte := le4 base ++ [byte size]
    (s.Asks 0x50 tag args rest → args.length = 8 →
        let answered (st : Status) (result : List Byte) : Prop :=
          exec .regionOpen s = .next (s.replying rest tag 0x50 st result)
        let size := u8 args 1
        let base := u32 args 4
        let covers (q : Fin 16) : Prop := s.spl.regions[q].valid = true ∧ s.spl.regions[q].base < base + size * 1048576
          ∧ base < s.spl.regions[q].base + s.spl.regions[q].size * 1048576
        (16 ≤ u8 args 0 ∨ size ∉ [4, 8, 16, 32, 64] → answered .badArgument [])
          ∧ ∀ r : Fin 16, u8 args 0 = r.val → size ∈ [4, 8, 16, 32, 64] →
            (base % (size * 1048576) ≠ 0 → answered .misaligned [])
              ∧ (base % (size * 1048576) = 0 →
                (268435456 < base + size * 1048576 → answered .outOfRange [])
                  ∧ (base + size * 1048576 ≤ 268435456 →
                    let g := s.spl.regions[r]
                    (g.valid = true → answered .inUse (extent g.base g.size))
                      ∧ (g.valid = false → ∀ q : Fin 16, covers q → (∀ q' : Fin 16, q' < q → ¬ covers q') →
                        answered .overlap [byte q.val])
                      ∧ (g.valid = false → (∀ q : Fin 16, ¬ covers q) → exec .regionOpen s = .next
                        (region (s.replying rest tag 0x50 .ok (byte r.val :: extent base size)) r
                          { valid := true, base := base, size := size, holder := none })))))
      ∧ (s.Asks 0x51 tag args rest → args.length = 1 →
        let answered (st : Status) (result : List Byte) : Prop :=
          exec .regionClose s = .next (s.replying rest tag 0x51 st result)
        (16 ≤ u8 args 0 → answered .badArgument [])
          ∧ ∀ r : Fin 16, u8 args 0 = r.val →
            let g := s.spl.regions[r]
            (g.valid = false → answered .wrongState [])
              ∧ (∀ id, g.valid = true → g.holder = some id → answered .inUse [byte id.val])
              ∧ (g.valid = true → g.holder = none → exec .regionClose s = .next
                (region (s.replying rest tag 0x51 .ok (extent g.base g.size)) r { g with valid := false })))

/-- A free port is granted to the first requester that waits after the one served last, in the cycle RIN, engine A, engine
B, whichever of the others wait behind it: a plane write of the band (which of them comes first is a free choice, log entry
13), or the row of the engine's panel and line. A granted write puts its bytes at its addresses and leaves every other byte
of the spool, whose list is in its canonical form; the last write of a band joins its segment to the item, once, and the
item's last segment makes it SPOOLED with ITEM_SPOOLED, the walk that follows releasing it to an eligible engine when its
order lets it go; a read reaches the head drive unit unless the engine has left the line (R86 to R88, R94 to R96, R142,
R143, R150, R154, R159, R166, R167). -/
def Obligations.ThePortServesOneAccess : Prop :=
  ∀ (s : State) (pick : Nat), s.inReset = false →
    let cycle : List Requester := match s.spl.lastServed with
      | .intake => [.engine .A, .engine .B, .intake]
      | .engine .A => [.engine .B, .intake, .engine .A]
      | .engine .B => [.intake, .engine .A, .engine .B]
    let rests (w : Requester) : Prop := match w with
      | .intake => ∀ b, s.rin.conv = some b → b.writes = []
      | .engine e => (s.eng e).readWaiting = false
    let first (w : Requester) : Prop := ∀ v ∈ cycle.takeWhile (· != w), rests v
    (s.spl.port = none →
        (∀ (b : BandConv) (w : PlaneWrite), s.rin.conv = some b → b.writes[pick % b.writes.length]? = some w →
            first .intake →
            exec (.spoolGrant pick) s = .next { s with
              rin := { s.rin with conv := some { b with writes := b.writes.eraseIdx (pick % b.writes.length) } }
              spl := { s.spl with
                lastServed := .intake
                port := some { who := .intake, addr := w.addr, len := w.bytes.length, bytes := w.bytes, live := true } } })
          ∧ ∀ (e : EngineId) (id : Fin 64) (items : List (Fin 64)) (panel : Panel) (line : Nat) (it : Item),
            (s.eng e).readWaiting = true → (s.eng e).queue = id :: items → (s.eng e).panel = some panel →
            (s.eng e).line = some line → s.ord.items[id] = some it →
            first (.engine e) →
            let g := s.spl.regions[it.region]
            exec (.spoolGrant pick) s = .next { s.withEngine e { s.eng e with readWaiting := false } with
              spl := { s.spl with
                lastServed := .engine e
                port := some
                  { who := .engine e, addr := g.base + panel.code * (g.size * 1048576 / 4) + line * it.width
                    len := it.width, bytes := [], live := true } } })
      ∧ ∀ a, s.spl.port = some a → a.addr + max a.len a.bytes.length ≤ 268435456 →
        let freed (t : State) : State := { t with spl := { s.spl with port := none } }
        (a.who = .intake → s.memoryOk = true → (a.live = false ∨ s.rin.conv = none
            ∨ ∃ b, s.rin.conv = some b ∧ b.writes ≠ []) →
            ∃ t, exec .spoolAccessDone s = .next t ∧ t = { s with spl := { s.spl with port := none, mem := t.spl.mem } }
              ∧ ∀ x, memRead t.spl.mem x
                = if a.addr ≤ x ∧ x < a.addr + a.bytes.length then a.bytes.getD (x - a.addr) 0 else memRead s.spl.mem x)
          ∧ (∀ (b : BandConv) (x : Intake) (it : Item), a.who = .intake → s.memoryOk = true →
            a.live = true → s.rin.conv = some b → b.writes = [] → s.rin.intake[b.item] = some x →
            s.ord.items[b.item] = some it → x.segments.length + 1 < 2 * it.length →
            ∃ t, exec .spoolAccessDone s = .next t
              ∧ t = (if (b.row, b.half) ∈ x.segments then
                  { s with spl := { s.spl with port := none, mem := t.spl.mem }, rin := { s.rin with conv := none } }
                else { s.withItem b.item { it with received := it.received + 1 } with
                  spl := { s.spl with port := none, mem := t.spl.mem }
                  rin := { s.rin with
                    conv := none
                    intake := s.rin.intake.set b.item
                      (some { x with segments := x.segments ++ [(b.row, b.half)] }) } })
              ∧ ∀ x, memRead t.spl.mem x
                = if a.addr ≤ x ∧ x < a.addr + a.bytes.length then a.bytes.getD (x - a.addr) 0 else memRead s.spl.mem x)
          ∧ (∀ (b : BandConv) (x : Intake) (it : Item) (o : Order), a.who = .intake → s.memoryOk = true →
            a.live = true → s.rin.conv = some b → b.writes = [] → s.rin.intake[b.item] = some x →
            s.ord.items[b.item] = some it → x.segments.length + 1 = 2 * it.length → (b.row, b.half) ∉ x.segments →
            s.ord.orders[it.order] = some o → s.ord.release = [] → (∀ band ∈ s.rin.queue, bandNames b.item band = false) →
            let it' := { it with received := it.received + 1, state := .spooled }
            let joined (mem : List Host.Cell) : State := { s.captured .itemSpooled with
              spl := { s.spl with port := none, mem := mem }
              rin := { s.rin with
                conv := none
                intake := s.rin.intake.set b.item (some { segments := x.segments ++ [(b.row, b.half)], receiving := false }) }
              ord := { s.ord with
                items := s.ord.items.set b.item (some it'), release := [{ item := b.item, marked := false }] } }
            ∃ mem : List Host.Cell,
              (∀ y, memRead mem y
                = if a.addr ≤ y ∧ y < a.addr + a.bytes.length then a.bytes.getD (y - a.addr) 0 else memRead s.spl.mem y)
              ∧ ((s.svc.mode.dark = true ∨ ¬ o.letsItemGo it ∨ ∀ e, ¬ s.mayTake e it) →
                exec .spoolAccessDone s = .next (joined mem))
              ∧ ∀ e, s.svc.mode.dark = false → o.letsItemGo it → s.takes e it →
                ((s.eng e).state = .idle → (s.eng e).queue = []) →
                exec .spoolAccessDone s = .next ((joined mem).released e b.item it' o))
          ∧ ∀ e, a.who = .engine e →
            (a.live = false ∨ (s.eng e).panel = none → exec .spoolAccessDone s = .next (freed s))
              ∧ ∀ panel, a.live = true → (s.eng e).panel = some panel →
                let en := s.eng e
                let row := (List.range a.len).map fun j => memRead s.spl.mem (a.addr + j)
                let codes := lineCodes en.hdu.energy en.params panel en.temperature (en.hdu.prev.getD []) row
                let drive : Drive :=
                  { codes := finalCodes codes en.params.budget, groups := groupCount codes en.params.budget, fired := 0 }
                let t := freed (s.withEngine e { en with hdu := { en.hdu with drive := some drive } })
                exec .spoolAccessDone s = .next (if lineClipped codes en.params.budget then t.captured .budgetClip else t)

/-! ### Print engines -/

/-- ENGINE_ONLINE, ENGINE_OFFLINE, ENGINE_CLEAR and MEDIA_SET, each with its checks and its REPLY's engine state, and the
entry to IDLE that three of them make: with a jam, break or open door reported the engine is in FAULT at once, and with an
item in its queue it begins a copy (R163, R165 to R167, R171, R174 to R177). That ENGINE_CLEAR answers a failed check by its
place in the list of R177, and the layout of MEDIA_SET's result, are the model's reading of R191 (log entry 19); that a
refused MEDIA_SET answers no media record (log entry 39), and which of several conditions is the fault's kind (log entry
12), are its choices. At an entry to IDLE the queue holds one item at most, PRINTING where a condition is reported, and no
item waits in the release list. -/
def Obligations.EngineRequestsChangeTheState : Prop :=
  (∀ (s : State) (c : Instr) (code : Byte) (n tag : Nat) (args : List Byte) (rest : List CtrlEntry),
      (c, code, n) ∈ [(Instr.engineOnline, (0x60 : Byte), 1), (.engineOffline, 0x61, 1), (.engineClear, 0x62, 1),
        (.mediaSet, 0x63, 4)] → s.Asks code tag args rest → args.length = n → s.svc.mode.serving = true →
      2 ≤ u8 args 0 → exec c s = .next (s.replying rest tag code .badArgument []))
    ∧ ∀ (s : State) (tag : Nat) (args : List Byte) (rest : List CtrlEntry) (e : EngineId), s.svc.mode.serving = true →
    u8 args 0 = engineCode e → s.ord.release = [] →
    let en := s.eng e
    let sensors := s.toPart.sensors e
    let quiet : Prop := sensors.paperJam = false ∧ sensors.ribbonBreak = false ∧ sensors.doorOpen = false
    let answer (code : Byte) (st : Status) (result : List Byte) : State := s.replying rest tag code st result
    let rested (state : EngineState) (x : Engine) : Engine :=
      { x with state := state, panel := none, line := none, motion := none }
    let enters (x : Engine) (t : State) : Prop :=
      (sensors.condition = none ∧ x.queue = [] ∧ t = s.withEngine e (rested .idle x))
        ∨ (∃ id it, sensors.condition = none ∧ x.queue = [id] ∧ s.ord.items[id] = some it
          ∧ (it.state = .queued ∨ it.state = .printing) ∧ t = (s.withEngine e (rested .idle x)).copyBegun e id it)
        ∨ ∃ k, sensors.condition = some k
          ∧ (x.queue = [] ∨ ∃ id it, x.queue = [id] ∧ s.ord.items[id] = some it ∧ it.state = .printing)
          ∧ t = { (s.withEngine e (x.faulted k)).captured .engineFault with
              spl := { s.spl with port := disowned s.spl.port (.engine e) } }
    let answered (code : Byte) (more : List Byte) (t : State) : State :=
      { t with lnk := (answer code .ok ((t.eng e).state.code :: more)).lnk }
    (s.Asks 0x60 tag args rest → args.length = 1 →
        (en.state = .offline → ∀ t, enters en t → exec .engineOnline s = .next (answered 0x60 [] t))
          ∧ (en.state = .absent ∨ (en.state ≠ .offline ∧ en.offlinePending = false) →
            exec .engineOnline s = .next (answer 0x60 .wrongState [en.state.code]))
          ∧ (en.state ≠ .absent → en.state ≠ .offline → en.offlinePending = true → exec .engineOnline s
            = .next ((answer 0x60 .ok [en.state.code]).withEngine e { en with offlinePending := false })))
      ∧ (s.Asks 0x61 tag args rest → args.length = 1 →
        (en.state = .absent → exec .engineOffline s = .next (answer 0x61 .wrongState [en.state.code]))
          ∧ (en.state = .offline → exec .engineOffline s = .next (answer 0x61 .ok [en.state.code]))
          ∧ (en.state = .idle ∨ en.state = .needsMedia → exec .engineOffline s
            = .next ((answer 0x61 .ok [EngineState.offline.code]).withEngine e { en with state := .offline }))
          ∧ (en.state.printing = true ∨ en.state = .fault → exec .engineOffline s
            = .next ((answer 0x61 .ok [en.state.code]).withEngine e { en with offlinePending := true })))
      ∧ (s.Asks 0x62 tag args rest → args.length = 1 →
        let cool : Prop := en.temperature < en.params.stop
        let failed (k : Byte) : Prop :=
          exec .engineClear s = .next (answer 0x62 .wrongState [EngineState.fault.code, k])
        (en.state ≠ .fault → exec .engineClear s = .next (answer 0x62 .wrongState [en.state.code]))
          ∧ (en.state = .fault →
            (sensors.paperJam = true → failed 0)
              ∧ (sensors.paperJam = false → sensors.ribbonBreak = true → failed 1)
              ∧ (sensors.paperJam = false → sensors.ribbonBreak = false → sensors.doorOpen = true → failed 2)
              ∧ (quiet → sensors.media.val ≠ en.mediaKind → failed 3)
              ∧ (quiet → sensors.media.val = en.mediaKind → ¬ cool → failed 4)
              ∧ (quiet → sensors.media.val = en.mediaKind → cool →
                (en.offlinePending = true → exec .engineClear s
                  = .next ((answer 0x62 .ok [EngineState.offline.code]).withEngine e
                    { rested .offline en with fault := none, offlinePending := false }))
                  ∧ (en.offlinePending = false → ∀ t, enters { en with fault := none } t →
                    exec .engineClear s = .next (answered 0x62 [] t)))))
      ∧ (s.Asks 0x63 tag args rest → args.length = 4 →
        let kind := u8 args 1
        let count := u16 args 2
        let before := byte en.mediaKind :: le2 en.prints
        let loaded : Engine := { en with mediaKind := kind, prints := count }
        let refused (st : Status) : Prop := exec .mediaSet s = .next (answer 0x63 st [en.state.code])
        (15 < kind ∨ 1000 < count → refused .badArgument)
          ∧ (kind ≤ 15 → count ≤ 1000 →
            (en.state.printing = true → refused .busy)
              ∧ (en.state = .absent → refused .wrongState)
              ∧ (en.state ∈ [.offline, .idle, .needsMedia, .fault] → kind ≠ en.mediaKind → en.queue ≠ [] →
                refused .wrongState)
              ∧ (kind = en.mediaKind ∨ en.queue = [] →
                (en.state = .offline ∨ en.state = .idle ∨ en.state = .fault → exec .mediaSet s
                  = .next ((answer 0x63 .ok (en.state.code :: before)).withEngine e loaded))
                  ∧ (en.state = .needsMedia → en.offlinePending = true → exec .mediaSet s
                    = .next ((answer 0x63 .ok (EngineState.offline.code :: before)).withEngine e
                      { rested .offline loaded with offlinePending := false }))
                  ∧ (en.state = .needsMedia → en.offlinePending = false → ∀ t, enters loaded t →
                    exec .mediaSet s = .next (answered 0x63 before t)))))

/-- The reports of the mechanism: the draw is followed by panel Y; a panel's motion by line 0, or by HEAT_HOLD when the sample
reaches the hold limit; the eject by the next copy or the end of the item, and then the next item's copy; the aborting eject
by IDLE or OFFLINE; and a motion of more than 5 s by a PAPER_JAM fault, as a sample of line 0 at the stop limit is by a
HEAD_HOT fault: each fails the copy, at the first failure the item going back to the front of the release list, or being
withdrawn when its order is cancelled, at the second being FAILED, and the QUEUED items behind it going back after it (R81,
R85, R97, R165 to R173, R178, R183). That the engine stays in LOADING during the
motion of panel Y, and that its report carries the samples of the panel and of line 0, are the model's choices (log entry
14). No sensor condition is reported, the item's order keeps another item at work, no item waits in the release list, and
the other engine takes none that goes back. -/
def Obligations.MechanismReportsMoveTheCopy : Prop :=
  ∀ (s : State) (e : EngineId), s.inReset = false → s.svc.mode.dark = false → s.ord.release = [] →
    (s.toPart.sensors e).condition = none →
    let en := s.eng e
    let rested (state : EngineState) (x : Engine) : Engine :=
      { x with state := state, panel := none, line := none, motion := none }
    let left (x : Engine) : Engine :=
      if en.offlinePending then { rested .offline x with offlinePending := false } else rested .idle x
    (en.motion = some .abortEject → en.queue = [] →
        exec (.abortEjectComplete e) s = .next (s.withEngine e (left en))
          ∧ (en.state.printing = true → exec (.motionTimeout e) s = .next (s.engineStopped e .paperJam)))
      ∧ (en.motion ≠ none → en.motion ≠ some .abortEject → en.state.printing = true →
        s.copyFails e .paperJam (exec (.motionTimeout e) s))
      ∧ ∀ (id : Fin 64) (waiting : List (Fin 64)) (it : Item), en.queue = id :: waiting → s.ord.items[id] = some it →
        (en.motion = some .draw → exec (.drawComplete e) s = .next (s.withEngine e { en with
            motion := some (.panelStart .Y), hdu := { en.hdu with prev := some (List.replicate it.width 0) } }))
          ∧ (∀ (panel : Panel) (panelTemp lineTemp : Int), en.motion = some (.panelStart panel) →
            (panelTemp < en.params.hold → lineTemp < en.params.stop →
                exec (.panelMotionComplete e panelTemp lineTemp) s = .next (s.withEngine e { en with
                  state := .panel, panel := some panel, line := some 0, motion := none, temperature := lineTemp
                  readWaiting := true }))
              ∧ (panelTemp < en.params.hold → en.params.stop ≤ lineTemp →
                (s.withEngine e { en with temperature := lineTemp }).copyFails e .headHot
                  (exec (.panelMotionComplete e panelTemp lineTemp) s))
              ∧ (en.params.hold ≤ panelTemp →
                exec (.panelMotionComplete e panelTemp lineTemp) s = .next ((s.withEngine e { en with
                  state := .heatHold, panel := some panel, line := none, motion := none
                  temperature := panelTemp }).captured .heatHold)))
          ∧ (∀ o : Order, en.motion = some .eject → s.ord.orders[it.order] = some o → s.worksBeside id o →
            (it.copiesDone + 1 = it.copies →
                let t : State := { s.captured .itemDone with
                  ord := { s.ord with
                    items := s.ord.items.set id (some { it with copiesDone := it.copies, state := .done, engine := none }) }
                  spl := { s.spl with regions := s.regionFreed id it } }
                let u := t.withEngine e (left { en with queue := waiting })
                (waiting = [] ∨ en.offlinePending = true → exec (.ejectComplete e) s = .next u)
                  ∧ ∀ (j : Fin 64) (next : Item), waiting = [j] → en.offlinePending = false → j ≠ id →
                    s.ord.items[j] = some next → next.state = .queued →
                    exec (.ejectComplete e) s = .next (u.copyBegun e j next))
              ∧ (it.copiesDone + 1 ≠ it.copies →
                let printed : Item := { it with copiesDone := it.copiesDone + 1 }
                let u := (s.withEngine e (left en)).withItem id printed
                (en.offlinePending = true → exec (.ejectComplete e) s = .next u)
                  ∧ (en.offlinePending = false → it.state = .printing → waiting = [] →
                    exec (.ejectComplete e) s = .next (u.copyBegun e id printed))))

/-- A sensor input takes its new level, and in IDLE a jam, a break or an open door is a fault; a sample replaces the
temperature, and one at or below the hold limit less 3 ends a heat hold; a strobe pass is followed by the next pass, the
next line, the next panel or the eject; a jam, a break or an open door in a printing state, and a line-start sample at the
stop limit, at line 0 after a heat hold as at any other, are faults that fail the copy, its item and queue going back or
ending as R172 and R173 say, but for the aborting eject of R178, which concerns no item; the head data of a pass hold the
final codes of its group's dots, and 0 at every other dot (R81, R85, R97, R165, R168, R169, R171 to R173, R178, R183, R188).
In IDLE the engine's queue is empty, and where a copy fails no item waits in the release list and the other engine takes
none that goes back. That the end of a condition and another media kind only set the input (log entry 11), and that the
panel and line fields keep their values while the next panel's motion runs (log entry 14), are the model's choices. -/
def Obligations.SensorsSamplesAndPasses : Prop :=
  ∀ (s : State) (e : EngineId), s.inReset = false → s.svc.mode.dark = false →
    let en := s.eng e
    let sensed (x : Sensors) : State :=
      match e with
      | .A => { s with pins := { s.pins with sensorsA := x } }
      | .B => { s with pins := { s.pins with sensorsB := x } }
    let changes (r : SensorReport) : Host.Outcome State Fault Refusal := exec (.sensorFaultCondition e r) s
    let now := s.toPart.sensors e
    s.toPart.headData e = (en.hdu.drive.map fun d =>
        (List.range d.codes.length).map fun i => if i % d.groups = d.fired then d.codes.getD i 0 else 0)
      ∧ (∀ kind, changes (.media kind) = .next (sensed { now with media := kind }))
      ∧ changes (.paperJam false) = .next (sensed { now with paperJam := false })
      ∧ changes (.ribbonBreak false) = .next (sensed { now with ribbonBreak := false })
      ∧ changes (.doorOpen false) = .next (sensed { now with doorOpen := false })
      ∧ (en.state ≠ .idle → en.state.printing = false →
        changes (.paperJam true) = .next (sensed { now with paperJam := true })
          ∧ changes (.ribbonBreak true) = .next (sensed { now with ribbonBreak := true })
          ∧ changes (.doorOpen true) = .next (sensed { now with doorOpen := true }))
      ∧ (en.state.printing = true → en.motion ≠ some .abortEject →
        let fails (r : SensorReport) (x : Sensors) (k : FaultKind) : Prop := (sensed x).copyFails e k (changes r)
        fails (.paperJam true) { now with paperJam := true } .paperJam
          ∧ fails (.ribbonBreak true) { now with ribbonBreak := true } .ribbonBreak
          ∧ fails (.doorOpen true) { now with doorOpen := true } .doorOpen)
      ∧ ((en.state = .idle ∨ (en.state.printing = true ∧ en.motion = some .abortEject)) → en.queue = [] →
        let faults (x : Sensors) (k : FaultKind) (t : State) : Prop :=
          t = { (sensed x).withEngine e { en with
              state := .fault, fault := some k, panel := none, line := none, motion := none, readWaiting := false
              hdu := { en.hdu with drive := none } } with
            svc := s.svc.capture .engineFault, spl := { s.spl with port := t.spl.port } }
        (∃ t, changes (.paperJam true) = .next t ∧ faults { now with paperJam := true } .paperJam t)
          ∧ (∃ t, changes (.ribbonBreak true) = .next t ∧ faults { now with ribbonBreak := true } .ribbonBreak t)
          ∧ ∃ t, changes (.doorOpen true) = .next t ∧ faults { now with doorOpen := true } .doorOpen t)
      ∧ (∀ t : Int,
        (en.state = .absent ∨ en.state = .panel → exec (.thermistorSample e t) s = .next s)
          ∧ (en.state ≠ .absent → en.state ≠ .panel → (en.state ≠ .heatHold ∨ (en.params.hold : Int) - 3 < t) →
            exec (.thermistorSample e t) s = .next (s.withEngine e { en with temperature := t }))
          ∧ ∀ panel, en.state = .heatHold → en.panel = some panel → t ≤ (en.params.hold : Int) - 3 →
            (t < en.params.stop →
                exec (.thermistorSample e t) s = .next (s.withEngine e { en with
                  state := .panel, panel := some panel, line := some 0, motion := none, temperature := t
                  readWaiting := true }))
              ∧ (en.params.stop ≤ t →
                (s.withEngine e { en with temperature := t }).copyFails e .headHot (exec (.thermistorSample e t) s)))
      ∧ ∀ (d : Drive) (panel : Panel) (line : Nat) (id : Fin 64) (waiting : List (Fin 64)) (it : Item) (t : Int),
        en.hdu.drive = some d → en.panel = some panel → en.line = some line → en.queue = id :: waiting →
        s.ord.items[id] = some it →
        let strobed : Engine := { en with hdu := { en.hdu with prev := some d.codes, drive := none } }
        let after (x : Engine) : Prop := exec (.strobePassDone e t) s = .next (s.withEngine e x)
        (d.fired + 1 < d.groups → after { en with hdu := { en.hdu with drive := some { d with fired := d.fired + 1 } } })
          ∧ (d.groups ≤ d.fired + 1 → line + 1 < it.length → t < en.params.stop →
            after { strobed with line := some (line + 1), temperature := t, readWaiting := true })
          ∧ (d.groups ≤ d.fired + 1 → line + 1 < it.length → en.params.stop ≤ t → en.state.printing = true →
            en.motion ≠ some .abortEject →
            (s.withEngine e { strobed with temperature := t }).copyFails e .headHot (exec (.strobePassDone e t) s))
          ∧ (d.groups ≤ d.fired + 1 → line + 1 < it.length → en.params.stop ≤ t → waiting = [] →
            ∃ u, exec (.strobePassDone e t) s = .next u
              ∧ (u.eng e).state = .fault ∧ (u.eng e).fault = some .headHot ∧ (u.eng e).temperature = t
              ∧ (u.eng e).readWaiting = false ∧ (u.eng e).hdu.drive = none
              ∧ u.svc.captureSet.has .engineFault = true)
          ∧ (d.groups ≤ d.fired + 1 → it.length ≤ line + 1 → panel ≠ .F →
            after { strobed with
              motion := some (.panelStart (match panel with
                | .Y => .M
                | .M => .C
                | .C => .F
                | .F => .F))
              hdu := { energy := en.hdu.energy, prev := some (List.replicate it.width 0), drive := none } })
          ∧ (d.groups ≤ d.fired + 1 → it.length ≤ line + 1 → panel = .F →
            after { strobed with state := .ejecting, panel := none, line := none, motion := some .eject })

/-- The codes of a line: the corrected energy of R184, the heat history of R185, and the groups of R186, the smallest of 1,
2 and 4 whose sums keep the budget; when none does, four groups, each over the budget clipped by R187. Every final code lies
in 0..1023, none exceeds its code before the clip, and no group's sum exceeds the budget (R184 to R187). -/
def Obligations.StrobeCodesKeepTheBudget : Prop :=
  ∀ (energy : List Nat) (q : EngineParams) (panel : Panel) (t : Int) (prev : List Nat) (row : List Byte),
    let w := row.length
    let codes := lineCodes energy q panel t prev row
    let final := finalCodes codes q.budget
    let g := groupCount codes q.budget
    let f : Int := max 512 (min 1536 (1024 - (q.kT : Int) * (t - q.tref)))
    let sum (line : List Nat) (g k : Nat) : Nat := ((List.range w).map fun i => if i % g = k then line.getD i 0 else 0).sum
    let fits (g : Nat) : Prop := ∀ k, k < g → sum codes g k ≤ q.budget
    codes.length = w ∧ final.length = w
      ∧ (∀ i, i < w →
        let e1 := energy.getD (256 * panel.code + (row.getD i 0).toNat) 0 * f.toNat / 1024
        let h := (prev.getD (i - 1) 0 + 2 * prev.getD i 0 + prev.getD (min (i + 1) (w - 1)) 0) / 4
        codes.getD i 0 = min 1023 (e1 - q.kH * h / 256))
      ∧ (fits 1 → g = 1) ∧ (¬ fits 1 → fits 2 → g = 2) ∧ (¬ fits 1 → ¬ fits 2 → g = 4)
      ∧ ((fits 1 ∨ fits 2 ∨ fits 4) → final = codes)
      ∧ (¬ fits 1 → ¬ fits 2 → ¬ fits 4 → ∀ i, i < w →
        final.getD i 0 = (if q.budget < sum codes 4 (i % 4) then codes.getD i 0 * q.budget / sum codes 4 (i % 4)
          else codes.getD i 0))
      ∧ (∀ i, i < w → final.getD i 0 ≤ 1023 ∧ final.getD i 0 ≤ codes.getD i 0)
      ∧ ∀ k, k < g → sum final g k ≤ q.budget

/-! ### What every step keeps -/

/-- Every step keeps tally counted equal to kept, the pool and the cash of the live orders that are not CLOSED. -/
def Obligations.TheTallyStaysBalanced : Prop :=
  ∀ s t : State, s.tallyHolds → step s = .next t → t.tallyHolds

/-- Every step keeps consumed within the funds of its order, and an authorized amount only after an approval (R92, R131 to
R133). -/
def Obligations.OrdersStayWithinTheirFunds : Prop :=
  ∀ s t : State, s.moneyHolds → step s = .next t → t.moneyHolds

/-- Every step keeps the spool's bytes in their canonical form, with no address beyond the spool (R153; the form is the
model's, log entry 9), and the sizes of the tone sets and of the energy tables (13.4). -/
def Obligations.StoresKeepTheirForm : Prop :=
  (∀ s t : State, s.memoryOk = true → step s = .next t → t.memoryOk = true)
    ∧ ∀ s t : State, s.tablesSized → step s = .next t → t.tablesSized
end

