-- ==== Sys2Proof/Laws/State.lean ====
section
/-! SUPPORT. The fields of the part after each record update: one lemma per field per update. -/

set_option Elab.async false

namespace Sys2Proof.Machine

@[simp] theorem Part.capture_now (p : Part) (k : CaptureKind) : (p.capture k).now = p.now := rfl
@[simp] theorem Part.capture_inReset (p : Part) (k : CaptureKind) : (p.capture k).inReset = p.inReset := rfl
@[simp] theorem Part.capture_pins (p : Part) (k : CaptureKind) : (p.capture k).pins = p.pins := rfl
@[simp] theorem Part.capture_lnk (p : Part) (k : CaptureKind) : (p.capture k).lnk = p.lnk := rfl
@[simp] theorem Part.capture_svc (p : Part) (k : CaptureKind) : (p.capture k).svc = p.svc.capture k := rfl
@[simp] theorem Part.capture_csu (p : Part) (k : CaptureKind) : (p.capture k).csu = p.csu := rfl
@[simp] theorem Part.capture_ord (p : Part) (k : CaptureKind) : (p.capture k).ord = p.ord := rfl
@[simp] theorem Part.capture_pay (p : Part) (k : CaptureKind) : (p.capture k).pay = p.pay := rfl
@[simp] theorem Part.capture_clc (p : Part) (k : CaptureKind) : (p.capture k).clc = p.clc := rfl
@[simp] theorem Part.capture_rin (p : Part) (k : CaptureKind) : (p.capture k).rin = p.rin := rfl
@[simp] theorem Part.capture_spl (p : Part) (k : CaptureKind) : (p.capture k).spl = p.spl := rfl
@[simp] theorem Part.capture_engA (p : Part) (k : CaptureKind) : (p.capture k).engA = p.engA := rfl
@[simp] theorem Part.capture_engB (p : Part) (k : CaptureKind) : (p.capture k).engB = p.engB := rfl

@[simp] theorem Part.modSlot_now (p : Part) (i : Fin 4) (f : Slot → Slot) : (p.modSlot i f).now = p.now := rfl
@[simp] theorem Part.modSlot_inReset (p : Part) (i : Fin 4) (f : Slot → Slot) :
    (p.modSlot i f).inReset = p.inReset := rfl
@[simp] theorem Part.modSlot_pins (p : Part) (i : Fin 4) (f : Slot → Slot) : (p.modSlot i f).pins = p.pins := rfl
@[simp] theorem Part.modSlot_lnk (p : Part) (i : Fin 4) (f : Slot → Slot) : (p.modSlot i f).lnk = p.lnk := rfl
@[simp] theorem Part.modSlot_svc (p : Part) (i : Fin 4) (f : Slot → Slot) : (p.modSlot i f).svc = p.svc := rfl
@[simp] theorem Part.modSlot_csu (p : Part) (i : Fin 4) (f : Slot → Slot) :
    (p.modSlot i f).csu = { p.csu with slots := p.csu.slots.set i (f p.csu.slots[i]) } := rfl
@[simp] theorem Part.modSlot_ord (p : Part) (i : Fin 4) (f : Slot → Slot) : (p.modSlot i f).ord = p.ord := rfl
@[simp] theorem Part.modSlot_pay (p : Part) (i : Fin 4) (f : Slot → Slot) : (p.modSlot i f).pay = p.pay := rfl
@[simp] theorem Part.modSlot_clc (p : Part) (i : Fin 4) (f : Slot → Slot) : (p.modSlot i f).clc = p.clc := rfl
@[simp] theorem Part.modSlot_rin (p : Part) (i : Fin 4) (f : Slot → Slot) : (p.modSlot i f).rin = p.rin := rfl
@[simp] theorem Part.modSlot_spl (p : Part) (i : Fin 4) (f : Slot → Slot) : (p.modSlot i f).spl = p.spl := rfl
@[simp] theorem Part.modSlot_engA (p : Part) (i : Fin 4) (f : Slot → Slot) : (p.modSlot i f).engA = p.engA := rfl
@[simp] theorem Part.modSlot_engB (p : Part) (i : Fin 4) (f : Slot → Slot) : (p.modSlot i f).engB = p.engB := rfl

@[simp] theorem Part.modBus_now (p : Part) (i : Fin 4) (f : CardBus → CardBus) : (p.modBus i f).now = p.now := rfl
@[simp] theorem Part.modBus_inReset (p : Part) (i : Fin 4) (f : CardBus → CardBus) :
    (p.modBus i f).inReset = p.inReset := rfl
@[simp] theorem Part.modBus_pins (p : Part) (i : Fin 4) (f : CardBus → CardBus) : (p.modBus i f).pins = p.pins := rfl
@[simp] theorem Part.modBus_lnk (p : Part) (i : Fin 4) (f : CardBus → CardBus) : (p.modBus i f).lnk = p.lnk := rfl
@[simp] theorem Part.modBus_svc (p : Part) (i : Fin 4) (f : CardBus → CardBus) : (p.modBus i f).svc = p.svc := rfl
@[simp] theorem Part.modBus_csu (p : Part) (i : Fin 4) (f : CardBus → CardBus) :
    (p.modBus i f).csu = { p.csu with slots := p.csu.slots.set i { p.csu.slots[i] with bus := f p.csu.slots[i].bus } } := rfl
@[simp] theorem Part.modBus_ord (p : Part) (i : Fin 4) (f : CardBus → CardBus) : (p.modBus i f).ord = p.ord := rfl
@[simp] theorem Part.modBus_pay (p : Part) (i : Fin 4) (f : CardBus → CardBus) : (p.modBus i f).pay = p.pay := rfl
@[simp] theorem Part.modBus_clc (p : Part) (i : Fin 4) (f : CardBus → CardBus) : (p.modBus i f).clc = p.clc := rfl
@[simp] theorem Part.modBus_rin (p : Part) (i : Fin 4) (f : CardBus → CardBus) : (p.modBus i f).rin = p.rin := rfl
@[simp] theorem Part.modBus_spl (p : Part) (i : Fin 4) (f : CardBus → CardBus) : (p.modBus i f).spl = p.spl := rfl
@[simp] theorem Part.modBus_engA (p : Part) (i : Fin 4) (f : CardBus → CardBus) : (p.modBus i f).engA = p.engA := rfl
@[simp] theorem Part.modBus_engB (p : Part) (i : Fin 4) (f : CardBus → CardBus) : (p.modBus i f).engB = p.engB := rfl

@[simp] theorem Part.modOrder_now (p : Part) (k : Fin 32) (f : Order → Order) : (p.modOrder k f).now = p.now := rfl
@[simp] theorem Part.modOrder_inReset (p : Part) (k : Fin 32) (f : Order → Order) :
    (p.modOrder k f).inReset = p.inReset := rfl
@[simp] theorem Part.modOrder_pins (p : Part) (k : Fin 32) (f : Order → Order) : (p.modOrder k f).pins = p.pins := rfl
@[simp] theorem Part.modOrder_lnk (p : Part) (k : Fin 32) (f : Order → Order) : (p.modOrder k f).lnk = p.lnk := rfl
@[simp] theorem Part.modOrder_svc (p : Part) (k : Fin 32) (f : Order → Order) : (p.modOrder k f).svc = p.svc := rfl
@[simp] theorem Part.modOrder_csu (p : Part) (k : Fin 32) (f : Order → Order) : (p.modOrder k f).csu = p.csu := rfl
@[simp] theorem Part.modOrder_ord (p : Part) (k : Fin 32) (f : Order → Order) :
    (p.modOrder k f).ord = { p.ord with orders := p.ord.orders.set k (p.ord.orders[k].map f) } := rfl
@[simp] theorem Part.modOrder_pay (p : Part) (k : Fin 32) (f : Order → Order) : (p.modOrder k f).pay = p.pay := rfl
@[simp] theorem Part.modOrder_clc (p : Part) (k : Fin 32) (f : Order → Order) : (p.modOrder k f).clc = p.clc := rfl
@[simp] theorem Part.modOrder_rin (p : Part) (k : Fin 32) (f : Order → Order) : (p.modOrder k f).rin = p.rin := rfl
@[simp] theorem Part.modOrder_spl (p : Part) (k : Fin 32) (f : Order → Order) : (p.modOrder k f).spl = p.spl := rfl
@[simp] theorem Part.modOrder_engA (p : Part) (k : Fin 32) (f : Order → Order) : (p.modOrder k f).engA = p.engA := rfl
@[simp] theorem Part.modOrder_engB (p : Part) (k : Fin 32) (f : Order → Order) : (p.modOrder k f).engB = p.engB := rfl

@[simp] theorem Part.modItem_now (p : Part) (id : Fin 64) (f : Item → Item) : (p.modItem id f).now = p.now := rfl
@[simp] theorem Part.modItem_inReset (p : Part) (id : Fin 64) (f : Item → Item) :
    (p.modItem id f).inReset = p.inReset := rfl
@[simp] theorem Part.modItem_pins (p : Part) (id : Fin 64) (f : Item → Item) : (p.modItem id f).pins = p.pins := rfl
@[simp] theorem Part.modItem_lnk (p : Part) (id : Fin 64) (f : Item → Item) : (p.modItem id f).lnk = p.lnk := rfl
@[simp] theorem Part.modItem_svc (p : Part) (id : Fin 64) (f : Item → Item) : (p.modItem id f).svc = p.svc := rfl
@[simp] theorem Part.modItem_csu (p : Part) (id : Fin 64) (f : Item → Item) : (p.modItem id f).csu = p.csu := rfl
@[simp] theorem Part.modItem_ord (p : Part) (id : Fin 64) (f : Item → Item) :
    (p.modItem id f).ord = { p.ord with items := p.ord.items.set id (p.ord.items[id].map f) } := rfl
@[simp] theorem Part.modItem_pay (p : Part) (id : Fin 64) (f : Item → Item) : (p.modItem id f).pay = p.pay := rfl
@[simp] theorem Part.modItem_clc (p : Part) (id : Fin 64) (f : Item → Item) : (p.modItem id f).clc = p.clc := rfl
@[simp] theorem Part.modItem_rin (p : Part) (id : Fin 64) (f : Item → Item) : (p.modItem id f).rin = p.rin := rfl
@[simp] theorem Part.modItem_spl (p : Part) (id : Fin 64) (f : Item → Item) : (p.modItem id f).spl = p.spl := rfl
@[simp] theorem Part.modItem_engA (p : Part) (id : Fin 64) (f : Item → Item) : (p.modItem id f).engA = p.engA := rfl
@[simp] theorem Part.modItem_engB (p : Part) (id : Fin 64) (f : Item → Item) : (p.modItem id f).engB = p.engB := rfl

@[simp] theorem Part.modChan_now (p : Part) (c : Fin 6) (f : Channel → Channel) : (p.modChan c f).now = p.now := rfl
@[simp] theorem Part.modChan_inReset (p : Part) (c : Fin 6) (f : Channel → Channel) :
    (p.modChan c f).inReset = p.inReset := rfl
@[simp] theorem Part.modChan_pins (p : Part) (c : Fin 6) (f : Channel → Channel) :
    (p.modChan c f).pins = p.pins := rfl
@[simp] theorem Part.modChan_lnk (p : Part) (c : Fin 6) (f : Channel → Channel) : (p.modChan c f).lnk = p.lnk := rfl
@[simp] theorem Part.modChan_svc (p : Part) (c : Fin 6) (f : Channel → Channel) : (p.modChan c f).svc = p.svc := rfl
@[simp] theorem Part.modChan_csu (p : Part) (c : Fin 6) (f : Channel → Channel) : (p.modChan c f).csu = p.csu := rfl
@[simp] theorem Part.modChan_ord (p : Part) (c : Fin 6) (f : Channel → Channel) : (p.modChan c f).ord = p.ord := rfl
@[simp] theorem Part.modChan_pay (p : Part) (c : Fin 6) (f : Channel → Channel) :
    (p.modChan c f).pay = { p.pay with chans := p.pay.chans.set c (f p.pay.chans[c]) } := rfl
@[simp] theorem Part.modChan_clc (p : Part) (c : Fin 6) (f : Channel → Channel) : (p.modChan c f).clc = p.clc := rfl
@[simp] theorem Part.modChan_rin (p : Part) (c : Fin 6) (f : Channel → Channel) : (p.modChan c f).rin = p.rin := rfl
@[simp] theorem Part.modChan_spl (p : Part) (c : Fin 6) (f : Channel → Channel) : (p.modChan c f).spl = p.spl := rfl
@[simp] theorem Part.modChan_engA (p : Part) (c : Fin 6) (f : Channel → Channel) :
    (p.modChan c f).engA = p.engA := rfl
@[simp] theorem Part.modChan_engB (p : Part) (c : Fin 6) (f : Channel → Channel) :
    (p.modChan c f).engB = p.engB := rfl

@[simp] theorem Part.modRegion_now (p : Part) (r : Fin 16) (f : Region → Region) :
    (p.modRegion r f).now = p.now := rfl
@[simp] theorem Part.modRegion_inReset (p : Part) (r : Fin 16) (f : Region → Region) :
    (p.modRegion r f).inReset = p.inReset := rfl
@[simp] theorem Part.modRegion_pins (p : Part) (r : Fin 16) (f : Region → Region) :
    (p.modRegion r f).pins = p.pins := rfl
@[simp] theorem Part.modRegion_lnk (p : Part) (r : Fin 16) (f : Region → Region) :
    (p.modRegion r f).lnk = p.lnk := rfl
@[simp] theorem Part.modRegion_svc (p : Part) (r : Fin 16) (f : Region → Region) :
    (p.modRegion r f).svc = p.svc := rfl
@[simp] theorem Part.modRegion_csu (p : Part) (r : Fin 16) (f : Region → Region) :
    (p.modRegion r f).csu = p.csu := rfl
@[simp] theorem Part.modRegion_ord (p : Part) (r : Fin 16) (f : Region → Region) :
    (p.modRegion r f).ord = p.ord := rfl
@[simp] theorem Part.modRegion_pay (p : Part) (r : Fin 16) (f : Region → Region) :
    (p.modRegion r f).pay = p.pay := rfl
@[simp] theorem Part.modRegion_clc (p : Part) (r : Fin 16) (f : Region → Region) :
    (p.modRegion r f).clc = p.clc := rfl
@[simp] theorem Part.modRegion_rin (p : Part) (r : Fin 16) (f : Region → Region) :
    (p.modRegion r f).rin = p.rin := rfl
@[simp] theorem Part.modRegion_spl (p : Part) (r : Fin 16) (f : Region → Region) :
    (p.modRegion r f).spl = { p.spl with regions := p.spl.regions.set r (f p.spl.regions[r]) } := rfl
@[simp] theorem Part.modRegion_engA (p : Part) (r : Fin 16) (f : Region → Region) :
    (p.modRegion r f).engA = p.engA := rfl
@[simp] theorem Part.modRegion_engB (p : Part) (r : Fin 16) (f : Region → Region) :
    (p.modRegion r f).engB = p.engB := rfl

@[simp] theorem Part.setIntake_now (p : Part) (id : Fin 64) (x : Option Intake) :
    (p.setIntake id x).now = p.now := rfl
@[simp] theorem Part.setIntake_inReset (p : Part) (id : Fin 64) (x : Option Intake) :
    (p.setIntake id x).inReset = p.inReset := rfl
@[simp] theorem Part.setIntake_pins (p : Part) (id : Fin 64) (x : Option Intake) :
    (p.setIntake id x).pins = p.pins := rfl
@[simp] theorem Part.setIntake_lnk (p : Part) (id : Fin 64) (x : Option Intake) :
    (p.setIntake id x).lnk = p.lnk := rfl
@[simp] theorem Part.setIntake_svc (p : Part) (id : Fin 64) (x : Option Intake) :
    (p.setIntake id x).svc = p.svc := rfl
@[simp] theorem Part.setIntake_csu (p : Part) (id : Fin 64) (x : Option Intake) :
    (p.setIntake id x).csu = p.csu := rfl
@[simp] theorem Part.setIntake_ord (p : Part) (id : Fin 64) (x : Option Intake) :
    (p.setIntake id x).ord = p.ord := rfl
@[simp] theorem Part.setIntake_pay (p : Part) (id : Fin 64) (x : Option Intake) :
    (p.setIntake id x).pay = p.pay := rfl
@[simp] theorem Part.setIntake_clc (p : Part) (id : Fin 64) (x : Option Intake) :
    (p.setIntake id x).clc = p.clc := rfl
@[simp] theorem Part.setIntake_rin (p : Part) (id : Fin 64) (x : Option Intake) :
    (p.setIntake id x).rin = { p.rin with intake := p.rin.intake.set id x } := rfl
@[simp] theorem Part.setIntake_spl (p : Part) (id : Fin 64) (x : Option Intake) :
    (p.setIntake id x).spl = p.spl := rfl
@[simp] theorem Part.setIntake_engA (p : Part) (id : Fin 64) (x : Option Intake) :
    (p.setIntake id x).engA = p.engA := rfl
@[simp] theorem Part.setIntake_engB (p : Part) (id : Fin 64) (x : Option Intake) :
    (p.setIntake id x).engB = p.engB := rfl

@[simp] theorem Part.modEng_now (p : Part) (e : EngineId) (f : Engine → Engine) :
    (p.modEng e f).now = p.now := by cases e <;> rfl
@[simp] theorem Part.modEng_inReset (p : Part) (e : EngineId) (f : Engine → Engine) :
    (p.modEng e f).inReset = p.inReset := by cases e <;> rfl
@[simp] theorem Part.modEng_pins (p : Part) (e : EngineId) (f : Engine → Engine) :
    (p.modEng e f).pins = p.pins := by cases e <;> rfl
@[simp] theorem Part.modEng_lnk (p : Part) (e : EngineId) (f : Engine → Engine) :
    (p.modEng e f).lnk = p.lnk := by cases e <;> rfl
@[simp] theorem Part.modEng_svc (p : Part) (e : EngineId) (f : Engine → Engine) :
    (p.modEng e f).svc = p.svc := by cases e <;> rfl
@[simp] theorem Part.modEng_csu (p : Part) (e : EngineId) (f : Engine → Engine) :
    (p.modEng e f).csu = p.csu := by cases e <;> rfl
@[simp] theorem Part.modEng_ord (p : Part) (e : EngineId) (f : Engine → Engine) :
    (p.modEng e f).ord = p.ord := by cases e <;> rfl
@[simp] theorem Part.modEng_pay (p : Part) (e : EngineId) (f : Engine → Engine) :
    (p.modEng e f).pay = p.pay := by cases e <;> rfl
@[simp] theorem Part.modEng_clc (p : Part) (e : EngineId) (f : Engine → Engine) :
    (p.modEng e f).clc = p.clc := by cases e <;> rfl
@[simp] theorem Part.modEng_rin (p : Part) (e : EngineId) (f : Engine → Engine) :
    (p.modEng e f).rin = p.rin := by cases e <;> rfl
@[simp] theorem Part.modEng_spl (p : Part) (e : EngineId) (f : Engine → Engine) :
    (p.modEng e f).spl = p.spl := by cases e <;> rfl

@[simp] theorem Part.advance_now (p : Part) (ms : Nat) : (p.advance ms).now = max p.now ms := rfl
@[simp] theorem Part.advance_inReset (p : Part) (ms : Nat) : (p.advance ms).inReset = p.inReset := rfl
@[simp] theorem Part.advance_pins (p : Part) (ms : Nat) : (p.advance ms).pins = p.pins := rfl
@[simp] theorem Part.advance_lnk (p : Part) (ms : Nat) : (p.advance ms).lnk = p.lnk := rfl
@[simp] theorem Part.advance_svc (p : Part) (ms : Nat) : (p.advance ms).svc = p.svc := rfl
@[simp] theorem Part.advance_csu (p : Part) (ms : Nat) : (p.advance ms).csu = p.csu := rfl
@[simp] theorem Part.advance_ord (p : Part) (ms : Nat) : (p.advance ms).ord = p.ord := rfl
@[simp] theorem Part.advance_pay (p : Part) (ms : Nat) : (p.advance ms).pay = p.pay := rfl
@[simp] theorem Part.advance_clc (p : Part) (ms : Nat) : (p.advance ms).clc = p.clc := rfl
@[simp] theorem Part.advance_rin (p : Part) (ms : Nat) : (p.advance ms).rin = p.rin := rfl
@[simp] theorem Part.advance_spl (p : Part) (ms : Nat) : (p.advance ms).spl = p.spl := rfl
@[simp] theorem Part.advance_engA (p : Part) (ms : Nat) : (p.advance ms).engA = p.engA := rfl
@[simp] theorem Part.advance_engB (p : Part) (ms : Nat) : (p.advance ms).engB = p.engB := rfl

@[simp] theorem Part.setMode_now (p : Part) (m : Mode) : (p.setMode m).now = p.now := rfl
@[simp] theorem Part.setMode_inReset (p : Part) (m : Mode) : (p.setMode m).inReset = p.inReset := rfl
@[simp] theorem Part.setMode_pins (p : Part) (m : Mode) : (p.setMode m).pins = p.pins := rfl
@[simp] theorem Part.setMode_lnk (p : Part) (m : Mode) : (p.setMode m).lnk = p.lnk := rfl
@[simp] theorem Part.setMode_svc (p : Part) (m : Mode) : (p.setMode m).svc = { p.svc with mode := m } := rfl
@[simp] theorem Part.setMode_csu (p : Part) (m : Mode) : (p.setMode m).csu = p.csu := rfl
@[simp] theorem Part.setMode_ord (p : Part) (m : Mode) : (p.setMode m).ord = p.ord := rfl
@[simp] theorem Part.setMode_pay (p : Part) (m : Mode) : (p.setMode m).pay = p.pay := rfl
@[simp] theorem Part.setMode_clc (p : Part) (m : Mode) : (p.setMode m).clc = p.clc := rfl
@[simp] theorem Part.setMode_rin (p : Part) (m : Mode) : (p.setMode m).rin = p.rin := rfl
@[simp] theorem Part.setMode_spl (p : Part) (m : Mode) : (p.setMode m).spl = p.spl := rfl
@[simp] theorem Part.setMode_engA (p : Part) (m : Mode) : (p.setMode m).engA = p.engA := rfl
@[simp] theorem Part.setMode_engB (p : Part) (m : Mode) : (p.setMode m).engB = p.engB := rfl

@[simp] theorem Part.setAsm_now (p : Part) (a : Assembler) : (p.setAsm a).now = p.now := rfl
@[simp] theorem Part.setAsm_inReset (p : Part) (a : Assembler) : (p.setAsm a).inReset = p.inReset := rfl
@[simp] theorem Part.setAsm_pins (p : Part) (a : Assembler) : (p.setAsm a).pins = p.pins := rfl
@[simp] theorem Part.setAsm_lnk (p : Part) (a : Assembler) : (p.setAsm a).lnk = { p.lnk with asm := a } := rfl
@[simp] theorem Part.setAsm_svc (p : Part) (a : Assembler) : (p.setAsm a).svc = p.svc := rfl
@[simp] theorem Part.setAsm_csu (p : Part) (a : Assembler) : (p.setAsm a).csu = p.csu := rfl
@[simp] theorem Part.setAsm_ord (p : Part) (a : Assembler) : (p.setAsm a).ord = p.ord := rfl
@[simp] theorem Part.setAsm_pay (p : Part) (a : Assembler) : (p.setAsm a).pay = p.pay := rfl
@[simp] theorem Part.setAsm_clc (p : Part) (a : Assembler) : (p.setAsm a).clc = p.clc := rfl
@[simp] theorem Part.setAsm_rin (p : Part) (a : Assembler) : (p.setAsm a).rin = p.rin := rfl
@[simp] theorem Part.setAsm_spl (p : Part) (a : Assembler) : (p.setAsm a).spl = p.spl := rfl
@[simp] theorem Part.setAsm_engA (p : Part) (a : Assembler) : (p.setAsm a).engA = p.engA := rfl
@[simp] theorem Part.setAsm_engB (p : Part) (a : Assembler) : (p.setAsm a).engB = p.engB := rfl

@[simp] theorem Part.setRx_now (p : Part) (r : Receiver) : (p.setRx r).now = p.now := rfl
@[simp] theorem Part.setRx_inReset (p : Part) (r : Receiver) : (p.setRx r).inReset = p.inReset := rfl
@[simp] theorem Part.setRx_pins (p : Part) (r : Receiver) : (p.setRx r).pins = p.pins := rfl
@[simp] theorem Part.setRx_lnk (p : Part) (r : Receiver) : (p.setRx r).lnk = p.lnk := rfl
@[simp] theorem Part.setRx_svc (p : Part) (r : Receiver) : (p.setRx r).svc = p.svc := rfl
@[simp] theorem Part.setRx_csu (p : Part) (r : Receiver) : (p.setRx r).csu = p.csu := rfl
@[simp] theorem Part.setRx_ord (p : Part) (r : Receiver) : (p.setRx r).ord = p.ord := rfl
@[simp] theorem Part.setRx_pay (p : Part) (r : Receiver) : (p.setRx r).pay = p.pay := rfl
@[simp] theorem Part.setRx_clc (p : Part) (r : Receiver) : (p.setRx r).clc = { p.clc with rx := r } := rfl
@[simp] theorem Part.setRx_rin (p : Part) (r : Receiver) : (p.setRx r).rin = p.rin := rfl
@[simp] theorem Part.setRx_spl (p : Part) (r : Receiver) : (p.setRx r).spl = p.spl := rfl
@[simp] theorem Part.setRx_engA (p : Part) (r : Receiver) : (p.setRx r).engA = p.engA := rfl
@[simp] theorem Part.setRx_engB (p : Part) (r : Receiver) : (p.setRx r).engB = p.engB := rfl

@[simp] theorem Part.setFocus_now (p : Part) (f : Option Nat) : (p.setFocus f).now = p.now := rfl
@[simp] theorem Part.setFocus_inReset (p : Part) (f : Option Nat) : (p.setFocus f).inReset = p.inReset := rfl
@[simp] theorem Part.setFocus_pins (p : Part) (f : Option Nat) : (p.setFocus f).pins = p.pins := rfl
@[simp] theorem Part.setFocus_lnk (p : Part) (f : Option Nat) : (p.setFocus f).lnk = p.lnk := rfl
@[simp] theorem Part.setFocus_svc (p : Part) (f : Option Nat) : (p.setFocus f).svc = p.svc := rfl
@[simp] theorem Part.setFocus_csu (p : Part) (f : Option Nat) : (p.setFocus f).csu = p.csu := rfl
@[simp] theorem Part.setFocus_ord (p : Part) (f : Option Nat) : (p.setFocus f).ord = p.ord := rfl
@[simp] theorem Part.setFocus_pay (p : Part) (f : Option Nat) : (p.setFocus f).pay = { p.pay with focus := f } := rfl
@[simp] theorem Part.setFocus_clc (p : Part) (f : Option Nat) : (p.setFocus f).clc = p.clc := rfl
@[simp] theorem Part.setFocus_rin (p : Part) (f : Option Nat) : (p.setFocus f).rin = p.rin := rfl
@[simp] theorem Part.setFocus_spl (p : Part) (f : Option Nat) : (p.setFocus f).spl = p.spl := rfl
@[simp] theorem Part.setFocus_engA (p : Part) (f : Option Nat) : (p.setFocus f).engA = p.engA := rfl
@[simp] theorem Part.setFocus_engB (p : Part) (f : Option Nat) : (p.setFocus f).engB = p.engB := rfl

@[simp] theorem Part.setDetect_now (p : Part) (i : Fin 4) (on : Bool) : (p.setDetect i on).now = p.now := rfl
@[simp] theorem Part.setDetect_inReset (p : Part) (i : Fin 4) (on : Bool) :
    (p.setDetect i on).inReset = p.inReset := rfl
@[simp] theorem Part.setDetect_pins (p : Part) (i : Fin 4) (on : Bool) :
    (p.setDetect i on).pins = { p.pins with detect := p.pins.detect.set i on } := rfl
@[simp] theorem Part.setDetect_lnk (p : Part) (i : Fin 4) (on : Bool) : (p.setDetect i on).lnk = p.lnk := rfl
@[simp] theorem Part.setDetect_svc (p : Part) (i : Fin 4) (on : Bool) : (p.setDetect i on).svc = p.svc := rfl
@[simp] theorem Part.setDetect_csu (p : Part) (i : Fin 4) (on : Bool) : (p.setDetect i on).csu = p.csu := rfl
@[simp] theorem Part.setDetect_ord (p : Part) (i : Fin 4) (on : Bool) : (p.setDetect i on).ord = p.ord := rfl
@[simp] theorem Part.setDetect_pay (p : Part) (i : Fin 4) (on : Bool) : (p.setDetect i on).pay = p.pay := rfl
@[simp] theorem Part.setDetect_clc (p : Part) (i : Fin 4) (on : Bool) : (p.setDetect i on).clc = p.clc := rfl
@[simp] theorem Part.setDetect_rin (p : Part) (i : Fin 4) (on : Bool) : (p.setDetect i on).rin = p.rin := rfl
@[simp] theorem Part.setDetect_spl (p : Part) (i : Fin 4) (on : Bool) : (p.setDetect i on).spl = p.spl := rfl
@[simp] theorem Part.setDetect_engA (p : Part) (i : Fin 4) (on : Bool) : (p.setDetect i on).engA = p.engA := rfl
@[simp] theorem Part.setDetect_engB (p : Part) (i : Fin 4) (on : Bool) : (p.setDetect i on).engB = p.engB := rfl

@[simp] theorem Part.setPulsePin_now (p : Part) (c : Fin 6) (on : Bool) : (p.setPulsePin c on).now = p.now := rfl
@[simp] theorem Part.setPulsePin_inReset (p : Part) (c : Fin 6) (on : Bool) :
    (p.setPulsePin c on).inReset = p.inReset := rfl
@[simp] theorem Part.setPulsePin_pins (p : Part) (c : Fin 6) (on : Bool) :
    (p.setPulsePin c on).pins = { p.pins with pulse := p.pins.pulse.set c on } := rfl
@[simp] theorem Part.setPulsePin_lnk (p : Part) (c : Fin 6) (on : Bool) : (p.setPulsePin c on).lnk = p.lnk := rfl
@[simp] theorem Part.setPulsePin_svc (p : Part) (c : Fin 6) (on : Bool) : (p.setPulsePin c on).svc = p.svc := rfl
@[simp] theorem Part.setPulsePin_csu (p : Part) (c : Fin 6) (on : Bool) : (p.setPulsePin c on).csu = p.csu := rfl
@[simp] theorem Part.setPulsePin_ord (p : Part) (c : Fin 6) (on : Bool) : (p.setPulsePin c on).ord = p.ord := rfl
@[simp] theorem Part.setPulsePin_pay (p : Part) (c : Fin 6) (on : Bool) : (p.setPulsePin c on).pay = p.pay := rfl
@[simp] theorem Part.setPulsePin_clc (p : Part) (c : Fin 6) (on : Bool) : (p.setPulsePin c on).clc = p.clc := rfl
@[simp] theorem Part.setPulsePin_rin (p : Part) (c : Fin 6) (on : Bool) : (p.setPulsePin c on).rin = p.rin := rfl
@[simp] theorem Part.setPulsePin_spl (p : Part) (c : Fin 6) (on : Bool) : (p.setPulsePin c on).spl = p.spl := rfl
@[simp] theorem Part.setPulsePin_engA (p : Part) (c : Fin 6) (on : Bool) : (p.setPulsePin c on).engA = p.engA := rfl
@[simp] theorem Part.setPulsePin_engB (p : Part) (c : Fin 6) (on : Bool) : (p.setPulsePin c on).engB = p.engB := rfl

@[simp] theorem Part.setKey_now (p : Part) (on : Bool) : (p.setKey on).now = p.now := rfl
@[simp] theorem Part.setKey_inReset (p : Part) (on : Bool) : (p.setKey on).inReset = p.inReset := rfl
@[simp] theorem Part.setKey_pins (p : Part) (on : Bool) : (p.setKey on).pins = { p.pins with key := on } := rfl
@[simp] theorem Part.setKey_lnk (p : Part) (on : Bool) : (p.setKey on).lnk = p.lnk := rfl
@[simp] theorem Part.setKey_svc (p : Part) (on : Bool) : (p.setKey on).svc = p.svc := rfl
@[simp] theorem Part.setKey_csu (p : Part) (on : Bool) : (p.setKey on).csu = p.csu := rfl
@[simp] theorem Part.setKey_ord (p : Part) (on : Bool) : (p.setKey on).ord = p.ord := rfl
@[simp] theorem Part.setKey_pay (p : Part) (on : Bool) : (p.setKey on).pay = p.pay := rfl
@[simp] theorem Part.setKey_clc (p : Part) (on : Bool) : (p.setKey on).clc = p.clc := rfl
@[simp] theorem Part.setKey_rin (p : Part) (on : Bool) : (p.setKey on).rin = p.rin := rfl
@[simp] theorem Part.setKey_spl (p : Part) (on : Bool) : (p.setKey on).spl = p.spl := rfl
@[simp] theorem Part.setKey_engA (p : Part) (on : Bool) : (p.setKey on).engA = p.engA := rfl
@[simp] theorem Part.setKey_engB (p : Part) (on : Bool) : (p.setKey on).engB = p.engB := rfl

@[simp] theorem Part.setSensors_now (p : Part) (e : EngineId) (x : Sensors) :
    (p.setSensors e x).now = p.now := by cases e <;> rfl
@[simp] theorem Part.setSensors_inReset (p : Part) (e : EngineId) (x : Sensors) :
    (p.setSensors e x).inReset = p.inReset := by cases e <;> rfl
@[simp] theorem Part.setSensors_lnk (p : Part) (e : EngineId) (x : Sensors) :
    (p.setSensors e x).lnk = p.lnk := by cases e <;> rfl
@[simp] theorem Part.setSensors_svc (p : Part) (e : EngineId) (x : Sensors) :
    (p.setSensors e x).svc = p.svc := by cases e <;> rfl
@[simp] theorem Part.setSensors_csu (p : Part) (e : EngineId) (x : Sensors) :
    (p.setSensors e x).csu = p.csu := by cases e <;> rfl
@[simp] theorem Part.setSensors_ord (p : Part) (e : EngineId) (x : Sensors) :
    (p.setSensors e x).ord = p.ord := by cases e <;> rfl
@[simp] theorem Part.setSensors_pay (p : Part) (e : EngineId) (x : Sensors) :
    (p.setSensors e x).pay = p.pay := by cases e <;> rfl
@[simp] theorem Part.setSensors_clc (p : Part) (e : EngineId) (x : Sensors) :
    (p.setSensors e x).clc = p.clc := by cases e <;> rfl
@[simp] theorem Part.setSensors_rin (p : Part) (e : EngineId) (x : Sensors) :
    (p.setSensors e x).rin = p.rin := by cases e <;> rfl
@[simp] theorem Part.setSensors_spl (p : Part) (e : EngineId) (x : Sensors) :
    (p.setSensors e x).spl = p.spl := by cases e <;> rfl
@[simp] theorem Part.setSensors_engA (p : Part) (e : EngineId) (x : Sensors) :
    (p.setSensors e x).engA = p.engA := by cases e <;> rfl
@[simp] theorem Part.setSensors_engB (p : Part) (e : EngineId) (x : Sensors) :
    (p.setSensors e x).engB = p.engB := by cases e <;> rfl

@[simp] theorem Part.grantPort_now (p : Part) (a : Access) : (p.grantPort a).now = p.now := rfl
@[simp] theorem Part.grantPort_inReset (p : Part) (a : Access) : (p.grantPort a).inReset = p.inReset := rfl
@[simp] theorem Part.grantPort_pins (p : Part) (a : Access) : (p.grantPort a).pins = p.pins := rfl
@[simp] theorem Part.grantPort_lnk (p : Part) (a : Access) : (p.grantPort a).lnk = p.lnk := rfl
@[simp] theorem Part.grantPort_svc (p : Part) (a : Access) : (p.grantPort a).svc = p.svc := rfl
@[simp] theorem Part.grantPort_csu (p : Part) (a : Access) : (p.grantPort a).csu = p.csu := rfl
@[simp] theorem Part.grantPort_ord (p : Part) (a : Access) : (p.grantPort a).ord = p.ord := rfl
@[simp] theorem Part.grantPort_pay (p : Part) (a : Access) : (p.grantPort a).pay = p.pay := rfl
@[simp] theorem Part.grantPort_clc (p : Part) (a : Access) : (p.grantPort a).clc = p.clc := rfl
@[simp] theorem Part.grantPort_rin (p : Part) (a : Access) : (p.grantPort a).rin = p.rin := rfl
@[simp] theorem Part.grantPort_spl (p : Part) (a : Access) :
    (p.grantPort a).spl = { p.spl with port := some a, lastServed := a.who } := rfl
@[simp] theorem Part.grantPort_engA (p : Part) (a : Access) : (p.grantPort a).engA = p.engA := rfl
@[simp] theorem Part.grantPort_engB (p : Part) (a : Access) : (p.grantPort a).engB = p.engB := rfl

@[simp] theorem Part.disownAccess_now (p : Part) (w : Requester) : (p.disownAccess w).now = p.now := rfl
@[simp] theorem Part.disownAccess_inReset (p : Part) (w : Requester) : (p.disownAccess w).inReset = p.inReset := rfl
@[simp] theorem Part.disownAccess_pins (p : Part) (w : Requester) : (p.disownAccess w).pins = p.pins := rfl
@[simp] theorem Part.disownAccess_lnk (p : Part) (w : Requester) : (p.disownAccess w).lnk = p.lnk := rfl
@[simp] theorem Part.disownAccess_svc (p : Part) (w : Requester) : (p.disownAccess w).svc = p.svc := rfl
@[simp] theorem Part.disownAccess_csu (p : Part) (w : Requester) : (p.disownAccess w).csu = p.csu := rfl
@[simp] theorem Part.disownAccess_ord (p : Part) (w : Requester) : (p.disownAccess w).ord = p.ord := rfl
@[simp] theorem Part.disownAccess_pay (p : Part) (w : Requester) : (p.disownAccess w).pay = p.pay := rfl
@[simp] theorem Part.disownAccess_clc (p : Part) (w : Requester) : (p.disownAccess w).clc = p.clc := rfl
@[simp] theorem Part.disownAccess_rin (p : Part) (w : Requester) : (p.disownAccess w).rin = p.rin := rfl
@[simp] theorem Part.disownAccess_spl (p : Part) (w : Requester) :
    (p.disownAccess w).spl = { p.spl with port := p.spl.port.map fun a => if a.who == w then { a with live := false } else a } := rfl
@[simp] theorem Part.disownAccess_engA (p : Part) (w : Requester) : (p.disownAccess w).engA = p.engA := rfl
@[simp] theorem Part.disownAccess_engB (p : Part) (w : Requester) : (p.disownAccess w).engB = p.engB := rfl

@[simp] theorem Part.abandonBand_now (p : Part) : (p.abandonBand).now = p.now := rfl
@[simp] theorem Part.abandonBand_inReset (p : Part) : (p.abandonBand).inReset = p.inReset := rfl
@[simp] theorem Part.abandonBand_pins (p : Part) : (p.abandonBand).pins = p.pins := rfl
@[simp] theorem Part.abandonBand_lnk (p : Part) : (p.abandonBand).lnk = p.lnk := rfl
@[simp] theorem Part.abandonBand_svc (p : Part) : (p.abandonBand).svc = p.svc := rfl
@[simp] theorem Part.abandonBand_csu (p : Part) : (p.abandonBand).csu = p.csu := rfl
@[simp] theorem Part.abandonBand_ord (p : Part) : (p.abandonBand).ord = p.ord := rfl
@[simp] theorem Part.abandonBand_pay (p : Part) : (p.abandonBand).pay = p.pay := rfl
@[simp] theorem Part.abandonBand_clc (p : Part) : (p.abandonBand).clc = p.clc := rfl
@[simp] theorem Part.abandonBand_rin (p : Part) : (p.abandonBand).rin = { p.rin with conv := none } := rfl
@[simp] theorem Part.abandonBand_spl (p : Part) :
    (p.abandonBand).spl = { p.spl with port := p.spl.port.map fun a => if a.who == .intake then { a with live := false } else a } := rfl
@[simp] theorem Part.abandonBand_engA (p : Part) : (p.abandonBand).engA = p.engA := rfl
@[simp] theorem Part.abandonBand_engB (p : Part) : (p.abandonBand).engB = p.engB := rfl

@[simp] theorem Part.dequeue_now (p : Part) (rest : List CtrlEntry) : (p.dequeue rest).now = p.now := rfl
@[simp] theorem Part.dequeue_inReset (p : Part) (rest : List CtrlEntry) : (p.dequeue rest).inReset = p.inReset := rfl
@[simp] theorem Part.dequeue_pins (p : Part) (rest : List CtrlEntry) : (p.dequeue rest).pins = p.pins := rfl
@[simp] theorem Part.dequeue_lnk (p : Part) (rest : List CtrlEntry) :
    (p.dequeue rest).lnk = { p.lnk with ctrl := rest } := rfl
@[simp] theorem Part.dequeue_svc (p : Part) (rest : List CtrlEntry) : (p.dequeue rest).svc = p.svc := rfl
@[simp] theorem Part.dequeue_csu (p : Part) (rest : List CtrlEntry) : (p.dequeue rest).csu = p.csu := rfl
@[simp] theorem Part.dequeue_ord (p : Part) (rest : List CtrlEntry) : (p.dequeue rest).ord = p.ord := rfl
@[simp] theorem Part.dequeue_pay (p : Part) (rest : List CtrlEntry) : (p.dequeue rest).pay = p.pay := rfl
@[simp] theorem Part.dequeue_clc (p : Part) (rest : List CtrlEntry) : (p.dequeue rest).clc = p.clc := rfl
@[simp] theorem Part.dequeue_rin (p : Part) (rest : List CtrlEntry) : (p.dequeue rest).rin = p.rin := rfl
@[simp] theorem Part.dequeue_spl (p : Part) (rest : List CtrlEntry) : (p.dequeue rest).spl = p.spl := rfl
@[simp] theorem Part.dequeue_engA (p : Part) (rest : List CtrlEntry) : (p.dequeue rest).engA = p.engA := rfl
@[simp] theorem Part.dequeue_engB (p : Part) (rest : List CtrlEntry) : (p.dequeue rest).engB = p.engB := rfl

@[simp] theorem Part.modEng_same (p : Part) (e : EngineId) (f : Engine → Engine) : (p.modEng e f).eng e = f (p.eng e) := by
  cases e <;> rfl
@[simp] theorem Part.modEng_A_engB (p : Part) (f : Engine → Engine) : (p.modEng .A f).engB = p.engB := rfl
@[simp] theorem Part.modEng_B_engA (p : Part) (f : Engine → Engine) : (p.modEng .B f).engA = p.engA := rfl
@[simp] theorem Part.modEng_A_engA (p : Part) (f : Engine → Engine) : (p.modEng .A f).engA = f p.engA := rfl
@[simp] theorem Part.modEng_B_engB (p : Part) (f : Engine → Engine) : (p.modEng .B f).engB = f p.engB := rfl

@[simp] theorem Service.capture_mode (v : Service) (k : CaptureKind) : (v.capture k).mode = v.mode := rfl
@[simp] theorem Service.capture_grace (v : Service) (k : CaptureKind) : (v.capture k).grace = v.grace := rfl
@[simp] theorem Service.capture_request (v : Service) (k : CaptureKind) : (v.capture k).request = v.request := rfl
@[simp] theorem Service.capture_enable (v : Service) (k : CaptureKind) : (v.capture k).enable = v.enable := rfl
@[simp] theorem Service.capture_debounce (v : Service) (k : CaptureKind) : (v.capture k).debounce = v.debounce := rfl
@[simp] theorem Service.capture_strap (v : Service) (k : CaptureKind) : (v.capture k).strap = v.strap := rfl
@[simp] theorem Service.capture_alertMask (v : Service) (k : CaptureKind) : (v.capture k).alertMask = v.alertMask := rfl
@[simp] theorem Service.capture_snapshot (v : Service) (k : CaptureKind) : (v.capture k).snapshot = v.snapshot := rfl
@[simp] theorem Service.capture_captureSet (v : Service) (k : CaptureKind) :
    (v.capture k).captureSet = v.captureSet ||| k.bit := rfl

/-- The answer of a command when the reset line is high. -/
theorem State.answer_running (s : State) (f : Part → Part) (h : s.inReset = false) :
    s.answer f = .next { s with toPart := f s.toPart } := by simp [State.answer, h]

/-- The answer of a command in reset. -/
theorem State.answer_inReset (s : State) (f : Part → Part) (h : s.inReset = true) : s.answer f = .next s := by
  simp [State.answer, h]

end Sys2Proof.Machine
end

