-- ==== Sys2Proof/Laws/Act.lean ====
section
/-! SUPPORT. Every command is one function of the part: what it does while the reset line is high (`Instr.run`), and the pin
and reset commands, which act in reset as well. -/

set_option Elab.async false

namespace Sys2Proof.Machine

/-- What a command does to the part while the reset line is high; the commands of pins and reset are treated apart. -/
def runOf : Instr → Part → Part
  | .frameHeaderTaken b => fun p => p.headerTaken b
  | .frameTaken b => fun p => p.frameTaken b
  | .linkGapExpiry => Part.linkGapExpires
  | .unknownRequest => Part.refuseUnknown
  | .replyHandover => Part.handOver
  | .frameTransmitDone => Part.transmitDone
  | .tableWrite ms => fun p => p.serve 0x01 (fun n => decide (6 ≤ n)) admitAll fun p _ args => p.tableWrite ms args
  | .tableRead => fun p => p.serve 0x02 (exactly 6) admitAll fun p _ args => p.tableRead args
  | .statusRead => fun p => p.serve 0x03 (exactly 1) admitAll fun p _ args => p.statusRead args
  | .eventMask => fun p => p.serve 0x04 (exactly 4) admitAll fun p _ args => p.setMask args
  | .goLive => fun p => p.serve 0x10 (exactly 2) admitGoLive fun p _ args => p.checkLive args
  | .drain => fun p => p.serve 0x11 (exactly 0) admitDrain fun p _ _ => .later p .drain
  | .resume => fun p => p.serve 0x12 (exactly 0) admitResume fun p _ _ => .later p .resume
  | .park => fun p => p.serve 0x13 (exactly 0) admitPark fun p _ _ => p.askPark
  | .wakeSet => fun p => p.serve 0x14 (exactly 2) admitAll fun p _ args => p.wakeSet args
  | .pathReset => fun p => p.serve 0x15 (exactly 0) admitAll fun p _ _ => .later p .pathReset
  | .pathResetEffects => Part.pathResetEffects
  | .graceExpiry => Part.graceExpires
  | .debounceExpiry t => fun p => p.debounceExpires t
  | .settlingExpiry i => fun p => p.settled i
  | .identifyResponse i status data check => fun p => p.identifyResponse i status data check
  | .identifyLimitExpiry i => fun p => p.identifyExpired i
  | .cardResponseTimeout i => fun p => p.responseTimeout i
  | .busyRetryExpiry i => fun p => p.busyRetry i
  | .readBlockResponse i status check => fun p => p.readBlockResponse i status check
  | .dataPhaseComplete i data check => fun p => p.dataComplete i data check
  | .dataPhaseTimeout i => fun p => p.dataTimeout i
  | .readBusyLimit i => fun p => p.readBusyExpired i
  | .stopResponse i status check => fun p => p.stopResponse i status check
  | .stopBusyLimit i => fun p => p.stopBusyExpired i
  | .slotUnbind => fun p => p.serve 0x20 (exactly 1) admitAll fun p _ args => p.slotUnbind args
  | .sectorRead => fun p => p.serve 0x21 (exactly 8) admitLive Part.sectorRead
  | .readCancel => fun p => p.serve 0x22 (exactly 4) admitAll fun p _ args => p.readCancel args
  | .sectorAttemptStart => Part.beginSector
  | .orderOpen => fun p => p.serve 0x30 (exactly 4) admitNew fun p _ args => p.orderOpen args
  | .itemAdd => fun p => p.serve 0x36 (exactly 10) admitNew fun p _ args => p.itemAdd args
  | .itemWithdraw => fun p => p.serve 0x37 (exactly 1) admitLive fun p _ args => p.itemWithdraw args
  | .orderCommit => fun p => p.serve 0x31 (exactly 2) admitLive fun p _ args => p.orderCommit args
  | .orderCancel => fun p => p.serve 0x32 (exactly 2) admitLive fun p _ args => p.orderCancel args
  | .orderResume => fun p => p.serve 0x33 (exactly 2) admitLive fun p _ args => p.orderResume args
  | .orderRead => fun p => p.serve 0x34 (exactly 2) admitLive fun p _ args => p.orderRead args
  | .orderRelease => fun p => p.serve 0x35 (exactly 2) admitLive fun p _ args => p.orderRelease args
  | .pulseJam c => fun p => p.pulseJams c
  | .trainGapExpiry c => fun p => p.gapExpires c
  | .focusSet => fun p => p.serve 0x40 (exactly 2) admitLive fun p _ args => p.focusSet args
  | .focusClear => fun p => p.serve 0x41 (exactly 0) admitLive fun p _ _ => .done (p.setFocus none) (optOrder p.pay.focus)
  | .channelReset ms => fun p => p.serve 0x42 (exactly 1) admitAll fun p _ args => p.channelReset ms args
  | .poolApply => fun p => p.serve 0x43 (exactly 8) admitLive fun p _ args => p.poolApply args
  | .poolPayout => fun p => p.serve 0x44 (exactly 4) admitAll fun p _ args => p.poolPayout args
  | .tallyRead => fun p => p.serve 0x45 (exactly 0) admitAll fun p _ _ => .done p p.tallyResult
  | .tallyClear => fun p => p.serve 0x46 (exactly 0) admitAll fun p _ _ => p.tallyClear
  | .cardAuthorize => fun p => p.serve 0x48 (exactly 8) admitLive fun p _ args => p.cardAuthorize args
  | .cashlessMessageSent => Part.messageSent
  | .approved b => fun p =>
    if p.clc.rx.isMessage b 0x81 then
      (p.setRx Receiver.hunt).takeApproved (u16 p.clc.rx.bytes 2) (u32 p.clc.rx.bytes 4)
    else p
  | .declined b => fun p =>
    if p.clc.rx.isMessage b 0x82 then
      (p.setRx Receiver.hunt).takeDeclined (u16 p.clc.rx.bytes 2) (u8 p.clc.rx.bytes 4)
    else p
  | .captured b => fun p =>
    if p.clc.rx.isMessage b 0x83 then (p.setRx Receiver.hunt).takeCaptured (u16 p.clc.rx.bytes 2) else p
  | .released b => fun p =>
    if p.clc.rx.isMessage b 0x84 then (p.setRx Receiver.hunt).takeReleased (u16 p.clc.rx.bytes 2) else p
  | .unknownTerminalMessage b => fun p => if p.clc.rx.isUnknown b then (p.setRx Receiver.hunt).stray else p
  | .cashlessCheckDiscard b => fun p => if p.clc.rx.ends b false then p.setRx Receiver.hunt else p
  | .cashlessGapExpiry => fun p => if p.clc.rx.gap.isSome then p.setRx Receiver.hunt else p
  | .cashlessStopBitError => fun p => p.setRx Receiver.hunt
  | .authorizeTimeout => fun p =>
    match p.timedOp with
    | some { kind := .authorize, ref := ref, .. } => p.authTimesOut ref
    | _ => p
  | .settlementOpTimeout => fun p =>
    match p.timedOp with
    | some { kind := .capture, ref := ref, .. } | some { kind := .release, ref := ref, .. } =>
      p.settlementEnds ref .unconfirmed .cashlessUnconfirmed fun _ => none
    | _ => p
  | .lateReleaseTimeout => fun p =>
    match p.timedOp with
    | some { kind := .lateRelease, .. } => p.endOp.capture .cashlessUnconfirmed
    | _ => p
  | .bandTake => Part.takeBand
  | .regionOpen => fun p => p.serve 0x50 (exactly 8) admitAll fun p _ args => p.regionOpen args
  | .regionClose => fun p => p.serve 0x51 (exactly 1) admitAll fun p _ args => p.regionClose args
  | .spoolGrant pick => fun p => p.grant pick
  | .engineOnline => fun p => p.serve 0x60 (exactly 1) admitAll fun p _ args => p.engineOnline args
  | .engineOffline => fun p => p.serve 0x61 (exactly 1) admitAll fun p _ args => p.engineOffline args
  | .engineClear => fun p => p.serve 0x62 (exactly 1) admitAll fun p _ args => p.engineClear args
  | .mediaSet => fun p => p.serve 0x63 (exactly 4) admitAll fun p _ args => p.mediaSet args
  | .drawComplete e => fun p => if (p.eng e).motion == some .draw then p.panelStart e .Y else p
  | .panelMotionComplete e panelTemp lineTemp => fun p =>
    match (p.eng e).motion with
    | some (.panelStart panel) => p.panelReady e panel panelTemp lineTemp
    | _ => p
  | .motionTimeout e => fun p => if (p.eng e).motion.isSome then p.faultPrinting e .paperJam else p
  | .thermistorSample e t => fun p => p.sample e t
  | .strobePassDone e t => fun p => p.passDone e t
  | .ejectComplete e => fun p =>
    match (p.eng e).motion, (p.eng e).queue with
    | some .eject, head :: _ => p.copyEjected e head
    | _, _ => p
  | .linkByteReceived b => fun p => p.setAsm (p.lnk.asm.take b)
  | .cashlessByteReceived b => fun p => p.setRx (p.clc.rx.take b)
  | .abortEjectComplete e => fun p => if (p.eng e).motion == some .abortEject then Part.walkIf (p.afterEject e) else p
  | .spoolAccessDone => fun p => match p.spl.port with
    | some a => p.accessDone a
    | none => p
  | .powerOnReset => Part.powerOnReset
  | .resetRelease ms strap tempA tempB => fun p => p.resetRelease ms strap tempA tempB
  | .serviceKeyAssert => Part.keyRises
  | .serviceKeyDeassert => Part.keyFalls
  | .cardDetectAssert i => fun p => p.detectRises i
  | .cardRemoval i => fun p => p.detectFalls i
  | .pulseAssert c ms => fun p => p.pulseRises c ms
  | .pulseEnd c ms => fun p => p.pulseFalls c ms
  | .sensorFaultCondition e r => fun p => p.sensorChange e r

/-- The commands that move a pin or the reset line: they act in reset too. -/
def movesAPin : Instr → Bool
  | .powerOnReset | .resetRelease .. | .serviceKeyAssert | .serviceKeyDeassert | .cardDetectAssert _ | .cardRemoval _
  | .pulseAssert .. | .pulseEnd .. | .sensorFaultCondition .. => true
  | _ => false

/-- The next state of a command is that of its function, or the state itself when the reset holds it off; the completion of
an access reaches only a state whose access lies in the spool. -/
theorem exec_next {c : Instr} {s t : State} (h : exec c s = .next t) :
    (t = { s with toPart := runOf c s.toPart } ∧ (movesAPin c = false → s.inReset = false) ∧
        (c = .spoolAccessDone → ∀ a, s.spl.port = some a → a.inSpool = true)) ∨
      (t = s ∧ (s.inReset = true ∨ c = .spoolAccessDone) ∧ movesAPin c = false) := by
  cases c
  case spoolAccessDone =>
    simp only [exec, execSpoolAccessDone] at h
    split at h
    · rename_i a h1 h2
      split at h
      · rename_i hin
        left
        refine ⟨?_, fun _ => h1, fun _ b hb => by rw [h2] at hb; cases hb; exact hin⟩
        rw [State.answer_running _ _ h1] at h
        have := Host.Outcome.next.inj h
        subst this
        simp [runOf, h2]
      · cases h
    · exact .inr ⟨(Host.Outcome.next.inj h).symm, .inr rfl, rfl⟩
  case powerOnReset => exact .inl ⟨(Host.Outcome.next.inj h).symm, nofun, nofun⟩
  case resetRelease => exact .inl ⟨(Host.Outcome.next.inj h).symm, nofun, nofun⟩
  case serviceKeyAssert => exact .inl ⟨(Host.Outcome.next.inj h).symm, nofun, nofun⟩
  case serviceKeyDeassert => exact .inl ⟨(Host.Outcome.next.inj h).symm, nofun, nofun⟩
  case cardDetectAssert => exact .inl ⟨(Host.Outcome.next.inj h).symm, nofun, nofun⟩
  case cardRemoval => exact .inl ⟨(Host.Outcome.next.inj h).symm, nofun, nofun⟩
  case pulseAssert => exact .inl ⟨(Host.Outcome.next.inj h).symm, nofun, nofun⟩
  case pulseEnd => exact .inl ⟨(Host.Outcome.next.inj h).symm, nofun, nofun⟩
  case sensorFaultCondition => exact .inl ⟨(Host.Outcome.next.inj h).symm, nofun, nofun⟩
  all_goals
    have ht := Host.Outcome.next.inj h
    by_cases hr : s.inReset
    · exact .inr ⟨by rw [← ht]; simp [hr], .inl hr, rfl⟩
    · exact .inl ⟨by rw [← ht]; simp only [hr, Bool.false_eq_true, if_false]; rfl, fun _ => by simpa using hr, nofun⟩

/-- While the reset line is high, every command but the completion of an access answers its function of the part. -/
theorem exec_running {c : Instr} {s : State} (hr : s.inReset = false) (hc : c ≠ .spoolAccessDone) :
    exec c s = .next { s with toPart := runOf c s.toPart } := by
  have key : ∀ c : Instr, c ≠ .spoolAccessDone → movesAPin c = false → exec c s = s.answer (runOf c) := by
    intro c h1 h2
    cases c <;> first | exact absurd rfl h1 | (simp [movesAPin] at h2; done) | rfl
  by_cases hp : movesAPin c
  · cases c <;> first | (simp [movesAPin] at hp; done) | rfl
  · rw [key c hc (by simpa using hp), State.answer_running s _ hr]

/-- The completion of an access inside the spool. -/
theorem exec_accessDone {s : State} {a : Access} (hr : s.inReset = false) (ha : s.spl.port = some a)
    (hin : a.inSpool = true) : exec .spoolAccessDone s = .next { s with toPart := s.toPart.accessDone a } := by
  simp only [exec, execSpoolAccessDone, hr, ha, hin, if_true]
  exact State.answer_running s _ hr

end Sys2Proof.Machine
end

