-- ==== Sys2Proof/Laws/Fixed.lean ====
section
/-! SUPPORT. What no shared operation of the card slots, the orders, the cashless queue and the engines touches: one lemma
per operation. -/

set_option Elab.async false

namespace Sys2Proof.Machine

/-- The fields that the shared operations leave alone: time, pins, mode and wake flags, tables, the counted cash, the spool's
bytes, and the receiving side of the link. -/
structure Fixed where
  now : Nat
  inReset : Bool
  pins : Pins
  asm : Assembler
  errorCount : Nat
  discards : Nat
  ctrl : List CtrlEntry
  handler : Handler
  mode : Mode
  grace : Timer
  request : WakeSet
  enable : WakeSet
  debounce : Vector Timer 5
  strap : Strap
  alertMask : CaptureSet
  snapshot : Option CaptureSet
  previewAllowance : Nat
  products : Vector ProductRow 32
  priceKey : Nat
  admission : Nat
  channels : Vector ChannelEntry 6
  counted : Nat
  tones : Vector (List Nat) 4
  mem : List Host.Cell
  paramsA : EngineParams
  paramsB : EngineParams
  energyA : List Nat
  energyB : List Nat

/-- The fixed fields of a part. -/
def Part.fixed (p : Part) : Fixed :=
  { now := p.now, inReset := p.inReset, pins := p.pins, asm := p.lnk.asm, errorCount := p.lnk.errorCount
    discards := p.lnk.discards, ctrl := p.lnk.ctrl, handler := p.lnk.handler, mode := p.svc.mode, grace := p.svc.grace
    request := p.svc.request, enable := p.svc.enable, debounce := p.svc.debounce, strap := p.svc.strap
    alertMask := p.svc.alertMask, snapshot := p.svc.snapshot, previewAllowance := p.csu.previewAllowance
    products := p.ord.products, priceKey := p.ord.priceKey, admission := p.ord.admission, channels := p.pay.table
    counted := p.pay.counted, tones := p.rin.tones, mem := p.spl.mem, paramsA := p.engA.params
    paramsB := p.engB.params, energyA := p.engA.hdu.energy, energyB := p.engB.hdu.energy }

theorem Part.fixed_mode (p : Part) : p.fixed.mode = p.svc.mode := rfl

theorem foldl_fixed {α : Type} (f : Part → α → Part) (h : ∀ p x, (f p x).fixed = p.fixed) (l : List α) (p : Part) :
    (l.foldl f p).fixed = p.fixed := by
  induction l generalizing p with
  | nil => rfl
  | cons x xs ih => simp [ih, h]

/-! ### Updates -/

@[simp] theorem Part.capture_fixed (p : Part) (k : CaptureKind) : (p.capture k).fixed = p.fixed := rfl
@[simp] theorem Part.modSlot_fixed (p : Part) (i : Fin 4) (f : Slot → Slot) : (p.modSlot i f).fixed = p.fixed := rfl
@[simp] theorem Part.modBus_fixed (p : Part) (i : Fin 4) (f : CardBus → CardBus) : (p.modBus i f).fixed = p.fixed := rfl
@[simp] theorem Part.modOrder_fixed (p : Part) (k : Fin 32) (f : Order → Order) : (p.modOrder k f).fixed = p.fixed := rfl
@[simp] theorem Part.modItem_fixed (p : Part) (i : Fin 64) (f : Item → Item) : (p.modItem i f).fixed = p.fixed := rfl
@[simp] theorem Part.modChan_fixed (p : Part) (c : Fin 6) (f : Channel → Channel) : (p.modChan c f).fixed = p.fixed := rfl
@[simp] theorem Part.modRegion_fixed (p : Part) (r : Fin 16) (f : Region → Region) : (p.modRegion r f).fixed = p.fixed := rfl
@[simp] theorem Part.setIntake_fixed (p : Part) (i : Fin 64) (x : Option Intake) : (p.setIntake i x).fixed = p.fixed := rfl
@[simp] theorem Part.setRx_fixed (p : Part) (r : Receiver) : (p.setRx r).fixed = p.fixed := rfl
@[simp] theorem Part.setFocus_fixed (p : Part) (f : Option Nat) : (p.setFocus f).fixed = p.fixed := rfl
@[simp] theorem Part.disownAccess_fixed (p : Part) (w : Requester) : (p.disownAccess w).fixed = p.fixed := rfl
@[simp] theorem Part.abandonBand_fixed (p : Part) : p.abandonBand.fixed = p.fixed := rfl
@[simp] theorem Part.grantPort_fixed (p : Part) (a : Access) : (p.grantPort a).fixed = p.fixed := rfl
theorem Part.modEng_fixed (p : Part) (e : EngineId) (f : Engine → Engine)
    (h : ∀ en, (f en).params = en.params ∧ (f en).hdu.energy = en.hdu.energy) : (p.modEng e f).fixed = p.fixed := by
  cases e <;> simp [Part.modEng, Part.fixed, h]

/-! ### The link -/

@[simp] theorem Part.startFrame_fixed (p : Part) (c : Byte) (t : Nat) (l : List Byte) :
    (p.startFrame c t l).fixed = p.fixed := rfl
@[simp] theorem Part.kick_fixed (p : Part) : p.kick.fixed = p.fixed := by
  unfold Part.kick; split; · rfl
  split; · rfl
  split <;> rfl
@[simp] theorem Part.refill_fixed (p : Part) : p.refill.fixed = p.fixed := by
  unfold Part.refill; split; · rfl
  split <;> rfl
@[simp] theorem Part.feed_fixed (p : Part) : p.feed.fixed = p.fixed := by simp [Part.feed]
@[simp] theorem Part.pushReply_fixed (p : Part) (r : Reply) : (p.pushReply r).fixed = p.fixed := by
  simp [Part.pushReply]; rfl

/-! ### Cards -/

@[simp] theorem Part.sendCard_fixed (p : Part) (i : Fin 4) (c : CardCmd) (a : Nat) : (p.sendCard i c a).fixed = p.fixed := rfl
@[simp] theorem Part.cardBusy_fixed (p : Part) (i : Fin 4) (c : CardCmd) (a : Nat) : (p.cardBusy i c a).fixed = p.fixed := rfl
@[simp] theorem Part.beginTurn_fixed (p : Part) : p.beginTurn.fixed = p.fixed := by
  unfold Part.beginTurn; split; · rfl
  split <;> rfl
@[simp] theorem Part.endTurn_fixed (p : Part) (i : Fin 4) : (p.endTurn i).fixed = p.fixed := by
  unfold Part.endTurn; split <;> rfl
@[simp] theorem Part.placeLast_fixed (p : Part) (i : Fin 4) (r : ReadReq) (o : ReadOutcome) :
    (p.placeLast i r o).fixed = p.fixed := by
  unfold Part.placeLast; split; · rfl
  split <;> rfl
@[simp] theorem Part.endRead_fixed (p : Part) (i : Fin 4) (o : ReadOutcome) (r : ReadReq) :
    (p.endRead i o r).fixed = p.fixed := by simp [Part.endRead]
@[simp] theorem Part.endReads_fixed (p : Part) (i : Fin 4) (o : ReadOutcome) (l : List ReadReq) :
    (l.foldl (fun p r => p.endRead i o r) p).fixed = p.fixed := foldl_fixed _ (by simp) l p
@[simp] theorem Part.endAllReads_fixed (p : Part) (i : Fin 4) (o : ReadOutcome) :
    (p.endAllReads i o).fixed = p.fixed := by simp [Part.endAllReads]
@[simp] theorem Part.slotFault_fixed (p : Part) (i : Fin 4) : (p.slotFault i).fixed = p.fixed := by simp [Part.slotFault]
@[simp] theorem Part.attemptFail_fixed (p : Part) (i : Fin 4) : (p.attemptFail i).fixed = p.fixed := rfl
@[simp] theorem Part.identifyStart_fixed (p : Part) (i : Fin 4) : (p.identifyStart i).fixed = p.fixed := rfl
@[simp] theorem Part.identifyFail_fixed (p : Part) (i : Fin 4) : (p.identifyFail i).fixed = p.fixed := rfl
@[simp] theorem Part.identifySuccess_other_fixed (p : Part) (c : Identity) (s : Slot)
    (fresh : SlotState → Nat → Part) (h : ∀ st a, (fresh st a).fixed = p.fixed) :
    (Part.identifySuccess.other p c s fresh).fixed = p.fixed := by
  unfold Part.identifySuccess.other; split; · exact h _ _
  split <;> simp [h]
@[simp] theorem Part.identifySuccess_fixed (p : Part) (i : Fin 4) (c : Identity) :
    (p.identifySuccess i c).fixed = p.fixed := by
  simp only [Part.identifySuccess]
  split
  · split <;> first | rfl | exact Part.identifySuccess_other_fixed p c _ _ (fun _ _ => rfl)
  · split
    · split <;> rfl
    · exact Part.identifySuccess_other_fixed p c _ _ (fun _ _ => rfl)
  · exact Part.identifySuccess_other_fixed p c _ _ (fun _ _ => rfl)
@[simp] theorem Part.bindSlot_fixed (p : Part) (i : Fin 4) (n : Nat) : (p.bindSlot i n).fixed = p.fixed := rfl
@[simp] theorem Part.cancelReads_fixed (p : Part) (i : Fin 4) : (p.cancelReads i).fixed = p.fixed := by
  unfold Part.cancelReads; split <;> simp
@[simp] theorem Part.releaseSlot_fixed (p : Part) (i : Fin 4) : (p.releaseSlot i).fixed = p.fixed := by
  simp only [Part.releaseSlot]; split <;> simp
@[simp] theorem Part.dropBinding_fixed (p : Part) (k : Fin 32) : (p.dropBinding k).fixed = p.fixed := by
  unfold Part.dropBinding; split
  · split <;> simp
  · rfl
@[simp] theorem Part.removeCard_fixed (p : Part) (i : Fin 4) : (p.removeCard i).fixed = p.fixed := by
  simp [Part.removeCard]
@[simp] theorem Part.parkSlots_fixed (p : Part) : p.parkSlots.fixed = p.fixed := rfl
@[simp] theorem Part.wakeSlot_fixed (p : Part) (i : Fin 4) : (p.wakeSlot i).fixed = p.fixed := by
  unfold Part.wakeSlot; split <;> (try split) <;> simp
@[simp] theorem Part.wakeSlots_fixed (p : Part) : p.wakeSlots.fixed = p.fixed := foldl_fixed _ (by simp) _ _

/-! ### Orders and the cashless queue -/

@[simp] theorem Part.markHanded_fixed (p : Part) (op : CashlessOp) : (p.markHanded op).fixed = p.fixed := by
  unfold Part.markHanded; split <;> rfl
@[simp] theorem Part.pump_fixed (p : Part) : p.pump.fixed = p.fixed := by
  unfold Part.pump; split
  · simp only []; split <;> first | rfl | (simp; rfl)
  · rfl
@[simp] theorem Part.joinOp_fixed (p : Part) (op : CashlessOp) : (p.joinOp op).fixed = p.fixed := by
  simp [Part.joinOp]; rfl
@[simp] theorem Part.endOp_fixed (p : Part) : p.endOp.fixed = p.fixed := by simp [Part.endOp]; rfl
@[simp] theorem Part.handOp_fixed (p : Part) (op : CashlessOp) : (p.handOp op).fixed = p.fixed := by
  unfold Part.handOp; split <;> first | rfl | simp
@[simp] theorem Part.loseFocus_fixed (p : Part) (n : Nat) : (p.loseFocus n).fixed = p.fixed := by
  unfold Part.loseFocus; split <;> rfl
@[simp] theorem Part.closeOrder_fixed (p : Part) (k : Fin 32) (c : Option Nat) : (p.closeOrder k c).fixed = p.fixed := by
  unfold Part.closeOrder; split
  · split
    · simp; rfl
    · rfl
  · rfl
@[simp] theorem Part.enterSettling_fixed (p : Part) (k : Fin 32) : (p.enterSettling k).fixed = p.fixed := by
  unfold Part.enterSettling; split
  · simp only []; split
    · simp
    · split <;> simp
  · rfl
@[simp] theorem Part.checkSettling_fixed (p : Part) (k : Fin 32) : (p.checkSettling k).fixed = p.fixed := by
  unfold Part.checkSettling; split
  · split <;> simp
  · rfl
@[simp] theorem Part.fundedCheck_fixed (p : Part) (k : Fin 32) (b : Bool) : (p.fundedCheck k b).fixed = p.fixed := by
  unfold Part.fundedCheck; split <;> rfl
@[simp] theorem Part.reverse_fixed (p : Part) (i : Fin 64) : (p.reverse i).fixed = p.fixed := by
  unfold Part.reverse; split
  · split <;> rfl
  · rfl
@[simp] theorem Part.clearHolder_fixed (p : Part) (i : Fin 64) : (p.clearHolder i).fixed = p.fixed := by
  unfold Part.clearHolder; split <;> rfl
@[simp] theorem Part.dropBands_fixed (p : Part) (i : Fin 64) : (p.dropBands i).fixed = p.fixed := by
  unfold Part.dropBands; split <;> rfl
@[simp] theorem Part.stopReceiving_fixed (p : Part) (i : Fin 64) : (p.stopReceiving i).fixed = p.fixed := by
  unfold Part.stopReceiving; split
  · split
    · simp only [Part.dropBands_fixed]; split
      · split <;> simp
      · simp
    · rfl
  · rfl
@[simp] theorem Part.leaveQueues_fixed (p : Part) (i : Fin 64) : (p.leaveQueues i).fixed = p.fixed := rfl
@[simp] theorem Part.withdrawItem_fixed (p : Part) (i : Fin 64) (r : Option FailReason) :
    (p.withdrawItem i r).fixed = p.fixed := by
  unfold Part.withdrawItem; split <;> simp
@[simp] theorem Part.checkItemOrder_fixed (p : Part) (i : Fin 64) : (p.checkItemOrder i).fixed = p.fixed := by
  unfold Part.checkItemOrder; split <;> simp

/-! ### Engines -/

@[simp] theorem Part.enterFault_fixed (p : Part) (e : EngineId) (k : FaultKind) : (p.enterFault e k).fixed = p.fixed := by
  cases e <;> rfl
@[simp] theorem Part.respool_fixed (p : Part) (i : Fin 64) : (p.respool i).fixed = p.fixed := rfl
@[simp] theorem Part.withdrawReturned_fixed (p : Part) (i : Fin 64) : (p.withdrawReturned i).fixed = p.fixed := by
  simp [Part.withdrawReturned]
@[simp] theorem Part.returnItems_fixed (p : Part) (e : EngineId) (ids : List (Fin 64)) :
    (p.returnItems e ids).fixed = p.fixed := by
  simp only [Part.returnItems]
  rw [foldl_fixed _ (by simp)]
  have h : ∀ (q : Part) (l : List (Fin 64)), (l.foldl Part.respool q).fixed = q.fixed :=
    fun q l => foldl_fixed _ (by simp) l q
  exact (h _ _).trans (Part.modEng_fixed _ _ _ (by simp))
@[simp] theorem Part.failItem_fixed (p : Part) (i : Fin 64) : (p.failItem i).fixed = p.fixed := by simp [Part.failItem]
@[simp] theorem Part.faultCore_fixed (p : Part) (e : EngineId) (k : FaultKind) (b : Bool) :
    (p.faultCore e k b).1.fixed = p.fixed := by
  simp only [Part.faultCore]; split
  · split <;> simp
  · simp
@[simp] theorem Part.loadStart_fixed (p : Part) (e : EngineId) : (p.loadStart e).1.fixed = p.fixed := by
  simp only [Part.loadStart]; split
  · simp; exact Part.modEng_fixed _ _ _ (by simp)
  · split <;> simp [Part.modEng_fixed]
@[simp] theorem Part.beginCopy_fixed (p : Part) (e : EngineId) : (p.beginCopy e).1.fixed = p.fixed := by
  unfold Part.beginCopy; split
  · split
    · simp [Part.modEng_fixed]
    · simp only [Part.loadStart_fixed]; split <;> simp
  · rfl
@[simp] theorem Part.enterIdle_fixed (p : Part) (e : EngineId) : (p.enterIdle e).1.fixed = p.fixed := by
  simp only [Part.enterIdle]; split <;> simp [Part.modEng_fixed]
@[simp] theorem Part.releaseTo_fixed (p : Part) (i : Fin 64) (it : Item) (e : EngineId) :
    (p.releaseTo i it e).fixed = p.fixed := by
  simp only [Part.releaseTo, Part.beginCopy_fixed]
  rw [Part.modEng_fixed _ _ _ (by simp)]
  simp only [Part.modItem_fixed]
  split <;> rfl
@[simp] theorem Part.tryEntry_fixed (p : Part) (x : ReleaseEntry) : (p.tryEntry x).fixed = p.fixed := by
  unfold Part.tryEntry; split
  · split
    · split
      · split <;> simp
      · rfl
    · rfl
  · rfl
@[simp] theorem Part.walk_fixed (p : Part) : p.walk.fixed = p.fixed := by
  unfold Part.walk; split
  · rfl
  · exact foldl_fixed _ (by simp) _ _
@[simp] theorem Part.walkIf_fixed (r : Part × Bool) : (Part.walkIf r).fixed = r.1.fixed := by
  unfold Part.walkIf; split <;> simp
@[simp] theorem Part.panelStart_fixed (p : Part) (e : EngineId) (x : Panel) : (p.panelStart e x).fixed = p.fixed := by
  simp [Part.panelStart, Part.modEng_fixed]
@[simp] theorem Part.faultPrinting_fixed (p : Part) (e : EngineId) (k : FaultKind) :
    (p.faultPrinting e k).fixed = p.fixed := by simp [Part.faultPrinting]
@[simp] theorem Part.lineStart_fixed (p : Part) (e : EngineId) (t : Int) : (p.lineStart e t).fixed = p.fixed := by
  simp only [Part.lineStart]; split <;> simp [Part.modEng_fixed]
@[simp] theorem Part.enterPanel_fixed (p : Part) (e : EngineId) (x : Panel) : (p.enterPanel e x).fixed = p.fixed := by
  simp [Part.enterPanel, Part.modEng_fixed]
@[simp] theorem Part.afterEject_fixed (p : Part) (e : EngineId) : (p.afterEject e).1.fixed = p.fixed := by
  unfold Part.afterEject; split <;> simp [Part.modEng_fixed]
@[simp] theorem Part.resumeIdle_fixed (p : Part) (e : EngineId) : (p.resumeIdle e).fixed = p.fixed := by
  unfold Part.resumeIdle; split <;> simp

/-! ### PATH_RESET -/

@[simp] theorem Part.resetItem_fixed (p : Part) (id : Fin 64) : (p.resetItem id).fixed = p.fixed := by
  unfold Part.resetItem; split
  · split
    · rfl
    · exact Part.withdrawItem_fixed _ _ _
  · rfl
@[simp] theorem Part.haltOrder_fixed (p : Part) (k : Fin 32) : (p.haltOrder k).fixed = p.fixed := by
  unfold Part.haltOrder; split
  · split
    · rw [Part.loseFocus_fixed]; rfl
    · rfl
  · rfl
@[simp] theorem Part.leaveNeedsMedia_fixed (p : Part) (e : EngineId) : (p.leaveNeedsMedia e).fixed = p.fixed := by
  unfold Part.leaveNeedsMedia; split
  · exact Part.enterIdle_fixed _ _
  · rfl

/-- Of the fixed fields, PATH_RESET changes the mode, the control request queue and the handler (R12, R32). -/
theorem Part.pathResetBlocks_fixed (p : Part) :
    p.pathResetBlocks.fixed = { p.fixed with mode := .setup, ctrl := [], handler := .idle } := by
  simp only [Part.pathResetBlocks, Part.leaveNeedsMedia_fixed]
  let last (z : Part) : Part := { z with spl := { z.spl with regions := z.spl.regions.map Region.pathReset } }
  have h : ∀ z : Part, (last z).fixed = z.fixed := fun _ => rfl
  change (last _).fixed = _
  rw [h, foldl_fixed _ Part.checkSettling_fixed, foldl_fixed _ Part.haltOrder_fixed, foldl_fixed _ Part.resetItem_fixed]
  simp only [Part.disownAccess_fixed, Part.abandonBand_fixed]
  have e : ∀ en : Engine, en.pathReset.params = en.params ∧ en.pathReset.hdu.energy = en.hdu.energy := by
    intro en; unfold Engine.pathReset; simp only; split <;> exact ⟨rfl, rfl⟩
  simp only [Part.fixed, Cards.pathReset, e]

end Sys2Proof.Machine
end

