-- ==== Sys2Proof/Laws/Serve.lean ====
section
/-! SUPPORT. What the control handler answers to a request at the head of its queue (R8, R19). -/

set_option Elab.async false

namespace Sys2Proof.Machine

@[simp] theorem Served.done_part (p : Part) (r : List Byte) : (Served.done p r).part = p := rfl
@[simp] theorem Served.refuse_part (p : Part) (st : Status) : (Served.refuse p st).part = p := rfl
@[simp] theorem Served.later_part (p : Part) (h : Handover) : (Served.later p h).part = p := rfl
@[simp] theorem Served.engineDone_part (p : Part) (e : EngineId) (r : List Byte) : (Served.engineDone p e r).part = p := rfl
@[simp] theorem Served.engineRefuse_part (p : Part) (e : EngineId) (st : Status) :
    (Served.engineRefuse p e st).part = p := rfl

@[simp] theorem Mode.serving_not_dark {m : Mode} (h : m.serving = true) : m.dark = false := by
  cases m <;> simp_all [Mode.serving, Mode.dark]

theorem Mode.serving_not_parkPending {m : Mode} (h : m.serving = true) : (m == .parkPending) = false := by
  cases m <;> simp_all [Mode.serving]

theorem Mode.serving_of_trading {m : Mode} (h : m.trading = true) : m.serving = true := by
  cases m <;> simp_all [Mode.serving, Mode.trading]

theorem admitLive_of_trading {m : Mode} (h : m.trading = true) : admitLive m = none := by
  cases m <;> simp_all [Mode.trading, admitLive]

/-- What the handler does with a request of the code it serves, in a mode that serves requests. -/
theorem Part.serve_head (p : Part) (code : Byte) (lengthOk : Nat → Bool) (admits : Mode → Option Status)
    (run : Part → Nat → List Byte → Served) (tag : Nat) (args : List Byte) (rest : List CtrlEntry) (reserved : Byte)
    (hi : p.lnk.handler = .idle) (hc : p.lnk.ctrl = { tag := tag, payload := code :: reserved :: args } :: rest)
    (hm : p.svc.mode.serving = true) :
    p.serve code lengthOk admits run =
      Part.hold tag code
        (if lengthOk args.length then
          match admits p.svc.mode with
          | some st => .refuse (p.dequeue rest) st
          | none => run (p.dequeue rest) tag args
        else .refuse (p.dequeue rest) .badArgument) := by
  have hp := Mode.serving_not_parkPending hm
  have hd := Mode.serving_not_dark hm
  simp [Part.serve, Part.handlerFree, hi, hc, hd, Part.takeRequest, hp, Part.checked] <;> rfl

/-- A request that passes the checks of length and mode is carried out by its owning block. -/
theorem State.serve_admitted {s : State} {code : Byte} {tag : Nat} {args : List Byte} {rest : List CtrlEntry}
    (h : s.Asks code tag args rest) (hm : s.svc.mode.serving = true) {lengthOk : Nat → Bool}
    {admits : Mode → Option Status} {run : Part → Nat → List Byte → Served} (hl : lengthOk args.length = true)
    (ha : admits s.svc.mode = none) :
    s.answer (fun p => p.serve code lengthOk admits run) =
      .next { s with toPart := Part.hold tag code (run (s.toPart.dequeue rest) tag args) } := by
  obtain ⟨reserved, hc⟩ := h.head
  rw [State.answer_running _ _ h.running, Part.serve_head _ _ _ _ _ tag args rest reserved h.idle hc hm]
  simp [hl, ha]

/-- A request that the mode does not let in. -/
theorem State.serve_refused {s : State} {code : Byte} {tag : Nat} {args : List Byte} {rest : List CtrlEntry}
    (h : s.Asks code tag args rest) (hm : s.svc.mode.serving = true) {lengthOk : Nat → Bool}
    {admits : Mode → Option Status} {run : Part → Nat → List Byte → Served} {st : Status}
    (hl : lengthOk args.length = true) (ha : admits s.svc.mode = some st) :
    s.answer (fun p => p.serve code lengthOk admits run) = .next (s.replying rest tag code st []) := by
  obtain ⟨reserved, hc⟩ := h.head
  rw [State.answer_running _ _ h.running, Part.serve_head _ _ _ _ _ tag args rest reserved h.idle hc hm]
  simp only [hl, ha]; rfl

/-- A request whose arguments have a wrong length. -/
theorem State.serve_badLength {s : State} {code : Byte} {tag : Nat} {args : List Byte} {rest : List CtrlEntry}
    (h : s.Asks code tag args rest) (hm : s.svc.mode.serving = true) {lengthOk : Nat → Bool}
    {admits : Mode → Option Status} {run : Part → Nat → List Byte → Served} (hl : lengthOk args.length = false) :
    s.answer (fun p => p.serve code lengthOk admits run) = .next (s.replying rest tag code .badArgument []) := by
  obtain ⟨reserved, hc⟩ := h.head
  rw [State.answer_running _ _ h.running, Part.serve_head _ _ _ _ _ tag args rest reserved h.idle hc hm]
  simp only [hl]; rfl

end Sys2Proof.Machine
end

