-- ==== Sys2Proof/Laws/Request.lean ====
section
/-! SUPPORT. What the checks and effects of the requests leave of the mode and of the fixed fields: a request that the handler carries
out keeps the mode, but for the end of the grace in PARK_PENDING (R18, R24). -/

set_option Elab.async false

namespace Sys2Proof.Machine

theorem Part.mode_of_fixed {p q : Part} (h : p.fixed = q.fixed) : p.svc.mode = q.svc.mode := congrArg Fixed.mode h


/-- run functions keep mode -/
theorem Part.serve_mode (p : Part) (code : Byte) (l) (admits) (run : Part → Nat → List Byte → Served)
    (h : ∀ p tag args, (run p tag args).part.svc.mode = p.svc.mode) :
    (p.serve code l admits run).svc.mode = p.svc.mode ∨
        (p.svc.mode = .parkPending ∧ (p.serve code l admits run).svc.mode = .drain) := by
  unfold Part.serve
  split
  · split
    · rename_i e rest _ _ _
      have hk : ∀ (t : Nat) (c : Byte) (r : Served), (Part.hold t c r).svc = r.part.svc := fun _ _ _ => rfl
      rw [hk]
      have hc : ∀ (p : Part) (run : Part → List Byte →
          Served), (∀ p args, (run p args).part.svc.mode = p.svc.mode) →
              ∀ pl, (p.checked l admits pl run).part.svc.mode = p.svc.mode := by
        intro p run h pl
        unfold Part.checked
        split
        · split
          · split
            · rfl
            · exact h _ _
          · rfl
        · rfl
      rw [hc _ _ (fun p args => h p _ args)]
      unfold Part.takeRequest
      split
      · right; rename_i h; simp at h; exact ⟨h, rfl⟩
      · left; rfl
    · left; rfl
  · left; rfl

theorem Part.acceptRead_mode (p : Part) (i tag first count) :
    (p.acceptRead i tag first count).part.svc.mode = p.svc.mode := by
  simp only [Part.acceptRead, Served.done]
  rw [Part.mode_of_fixed (Part.beginTurn_fixed _)]; rfl
theorem Part.sectorRead_mode (p : Part) (tag args) : (p.sectorRead tag args).part.svc.mode = p.svc.mode := by
  simp only [Part.sectorRead]
  split; · rfl
  repeat (split; · rfl)
  exact Part.acceptRead_mode _ _ _ _ _
theorem Part.cancelRead_mode (p : Part) (i r) : (p.cancelRead i r).svc.mode = p.svc.mode := by
  simp only [Part.cancelRead]
  split
  · split
    · rfl
    · rw [Part.mode_of_fixed (q := p) (by simp)]
  · rw [Part.mode_of_fixed (q := p) (by simp)]
theorem Part.readCancel_mode (p : Part) (args) : (p.readCancel args).part.svc.mode = p.svc.mode := by
  simp only [Part.readCancel]
  split; · rfl
  split; · rfl
  exact Part.cancelRead_mode _ _ _
theorem Part.slotUnbind_mode (p : Part) (args) : (p.slotUnbind args).part.svc.mode = p.svc.mode := by
  simp only [Part.slotUnbind]
  split; · rfl
  split; · rfl
  split; · rfl
  exact Part.mode_of_fixed (by simp)
theorem Part.orderOpen_mode (p : Part) (args) : (p.orderOpen args).part.svc.mode = p.svc.mode := by
  simp only [Part.orderOpen]
  split
  · split; · rfl
    split; · rfl
    split; · rfl
    split
    · simp only [Part.openOrder, Served.done]; split <;> rfl
    · rfl
  · rfl
theorem Part.itemAdd_mode (p : Part) (args) : (p.itemAdd args).part.svc.mode = p.svc.mode := by
  simp only [Part.itemAdd]
  repeat' (first | rfl | split)
theorem Part.withdrawWithWalk_fixed (p : Part) (id) : (p.withdrawWithWalk id).fixed = p.fixed := by
  unfold Part.withdrawWithWalk
  split
  · simp only; split <;> simp
  · rfl
theorem Part.itemWithdraw_mode (p : Part) (args) : (p.itemWithdraw args).part.svc.mode = p.svc.mode := by
  simp only [Part.itemWithdraw]
  repeat' (first | rfl | split)
  all_goals exact Part.mode_of_fixed (by simp [Part.withdrawWithWalk_fixed])
theorem Part.orderCommit_mode (p : Part) (args) : (p.orderCommit args).part.svc.mode = p.svc.mode := by
  simp only [Part.orderCommit]
  split; · rfl
  split; · rfl
  exact Part.mode_of_fixed (by simp)
theorem Part.cancelItem_fixed (p : Part) (id) : (p.cancelItem id).fixed = p.fixed := by
  unfold Part.cancelItem
  split
  · split
    · exact Part.withdrawWithWalk_fixed _ _
    · rfl
  · rfl
theorem Part.cancelOrder_fixed (p : Part) (k o) : (p.cancelOrder k o).fixed = p.fixed := by
  unfold Part.cancelOrder
  simp only [Part.checkSettling_fixed]
  rw [foldl_fixed _ Part.cancelItem_fixed]; rfl
theorem Part.orderCancel_mode (p : Part) (args) : (p.orderCancel args).part.svc.mode = p.svc.mode := by
  simp only [Part.orderCancel]
  split; · rfl
  split; · rfl
  split; · rfl
  exact Part.mode_of_fixed (Part.cancelOrder_fixed _ _ _)
theorem Part.orderResume_mode (p : Part) (args) : (p.orderResume args).part.svc.mode = p.svc.mode := by
  simp only [Part.orderResume]
  split; · rfl
  split <;> rfl
theorem Part.orderRead_mode (p : Part) (args) : (p.orderRead args).part.svc.mode = p.svc.mode := by
  simp only [Part.orderRead]
  split <;> rfl
theorem Part.orderRelease_mode (p : Part) (args) : (p.orderRelease args).part.svc.mode = p.svc.mode := by
  simp only [Part.orderRelease]
  split; · rfl
  split
  · rename_i k o _ _
    show (o.items.foldl Part.freeItemEntry p).svc.mode = _
    exact Part.mode_of_fixed (foldl_fixed Part.freeItemEntry (fun _ _ => rfl) _ _)
  · rfl
theorem Part.jamChannel_fixed (p : Part) (c) : (p.jamChannel c).fixed = p.fixed := rfl
theorem Part.creditOrder_fixed (p : Part) (k a) : (p.creditOrder k a).fixed = p.fixed := by
  simp [Part.creditOrder]
theorem Part.post_mode (p : Part) (c a) : (p.post c a).svc.mode = p.svc.mode := by
  unfold Part.post
  split; · rfl
  split
  · simp only; split; · rfl
    rw [Part.mode_of_fixed (Part.creditOrder_fixed _ _ _)]; rfl
  · rfl
theorem Part.endTrain_mode (p : Part) (c) : (p.endTrain c).svc.mode = p.svc.mode := by
  unfold Part.endTrain
  split
  · rw [Part.post_mode]; rfl
  · rfl
theorem Part.jamByPulse_mode (p : Part) (c) : (p.jamByPulse c).svc.mode = p.svc.mode := by
  simp [Part.jamByPulse, Part.jamChannel, Part.endTrain_mode]
theorem Part.endDueTrain_mode (p : Part) (c) : (p.endDueTrain c).svc.mode = p.svc.mode := by
  unfold Part.endDueTrain
  split
  · split
    · exact Part.endTrain_mode _ _
    · rfl
  · rfl
theorem Part.channelDue_mode (p : Part) (c) : (p.channelDue c).svc.mode = p.svc.mode := by
  simp only [Part.channelDue, Part.endDueTrain_mode]
  split
  · split
    · exact Part.jamByPulse_mode _ _
    · rfl
  · rfl
theorem foldl_mode {α : Type} (f : Part → α →
    Part) (h : ∀ p x, (f p x).svc.mode = p.svc.mode) (l : List α) (p : Part) :
    (l.foldl f p).svc.mode = p.svc.mode := by
  induction l generalizing p with
  | nil => rfl
  | cons x xs ih => simp [ih, h]
theorem Part.storeTable_svc (p : Part) (t a b c) : (p.storeTable t a b c).svc = p.svc := by
  cases t <;> first | rfl | (rename_i e; cases e <;> rfl)
theorem Part.writeTable_mode (p : Part) (t ms a b c) : (p.writeTable t ms a b c).svc.mode = p.svc.mode := by
  unfold Part.writeTable
  split
  · rw [foldl_mode _ Part.channelDue_mode, Part.storeTable_svc, foldl_mode _ Part.channelDue_mode, Part.advance_svc]
  · rw [Part.storeTable_svc]
theorem Part.tableWrite_mode (p : Part) (ms args) : (p.tableWrite ms args).part.svc.mode = p.svc.mode := by
  simp only [Part.tableWrite]
  split; · rfl
  split; · rfl
  split; · rfl
  exact Part.writeTable_mode _ _ _ _ _ _
theorem Part.tableRead_mode (p : Part) (args) : (p.tableRead args).part.svc.mode = p.svc.mode := by
  simp only [Part.tableRead]
  split; · rfl
  split <;> rfl
theorem Part.statusRead_mode (p : Part) (args) : (p.statusRead args).part.svc.mode = p.svc.mode := by
  simp only [Part.statusRead]; split <;> rfl
theorem Part.setMask_mode (p : Part) (args) : (p.setMask args).part.svc.mode = p.svc.mode := by
  simp only [Part.setMask]; split <;> rfl
theorem Part.checkLive_mode (p : Part) (args) : (p.checkLive args).part.svc.mode = p.svc.mode := by
  simp only [Part.checkLive]; split <;> rfl
theorem Part.askPark_mode (p : Part) : (p.askPark).part.svc.mode = p.svc.mode := by
  simp only [Part.askPark]; split; · rfl
  split <;> rfl
theorem Part.wakeSet_mode (p : Part) (args) : (p.wakeSet args).part.svc.mode = p.svc.mode := by
  simp only [Part.wakeSet]; split <;> rfl
theorem Part.focusSet_mode (p : Part) (args) : (p.focusSet args).part.svc.mode = p.svc.mode := by
  simp only [Part.focusSet]; split; · rfl
  split <;> rfl
theorem Part.unjam_mode (p : Part) (c) : (p.unjam c).svc.mode = p.svc.mode := by
  simp only [Part.unjam]; split <;> rfl
theorem Part.channelReset_mode (p : Part) (ms args) : (p.channelReset ms args).part.svc.mode = p.svc.mode := by
  simp only [Part.channelReset]; split; · rfl
  split
  · simp only [Served.done, Part.unjam_mode, Part.channelDue_mode, Part.advance_svc]
  · rfl
theorem Part.poolApply_mode (p : Part) (args) : (p.poolApply args).part.svc.mode = p.svc.mode := by
  simp only [Part.poolApply]; repeat (split; · rfl)
  simp only [Served.done]; rw [Part.mode_of_fixed (Part.creditOrder_fixed _ _ _)]
theorem Part.poolPayout_mode (p : Part) (args) : (p.poolPayout args).part.svc.mode = p.svc.mode := by
  simp only [Part.poolPayout]; split <;> rfl
theorem Part.cardAuthorize_mode (p : Part) (args) : (p.cardAuthorize args).part.svc.mode = p.svc.mode := by
  simp only [Part.cardAuthorize]; split; · rfl
  split; · rfl
  split; · rfl
  split; · rfl
  exact Part.mode_of_fixed (by simp [Part.authorize, Part.modCashless])
theorem Part.regionOpen_mode (p : Part) (args) : (p.regionOpen args).part.svc.mode = p.svc.mode := by
  simp only [Part.regionOpen]; split; · rfl
  split; · rfl
  split; · rfl
  split; · rfl
  split; · rfl
  split <;> rfl
theorem Part.regionClose_mode (p : Part) (args) : (p.regionClose args).part.svc.mode = p.svc.mode := by
  simp only [Part.regionClose]; split; · rfl
  split; · rfl
  split <;> rfl
theorem Part.engineOnline_mode (p : Part) (args) : (p.engineOnline args).part.svc.mode = p.svc.mode := by
  simp only [Part.engineOnline]; split; · rfl
  split
  · rfl
  · exact Part.mode_of_fixed (by simp)
  all_goals (split <;> first | rfl | exact Part.mode_of_fixed (by simp [Part.modEng_fixed]))
theorem Part.engineOffline_mode (p : Part) (args) : (p.engineOffline args).part.svc.mode = p.svc.mode := by
  simp only [Part.engineOffline]; split; · rfl
  split
  · rfl
  · rfl
  all_goals exact Part.mode_of_fixed (by simp [Part.modEng_fixed])
theorem Part.clearFault_fixed (p : Part) (e) : (p.clearFault e).fixed = p.fixed := by
  simp only [Part.clearFault]; split <;> simp [Part.modEng_fixed]
theorem Part.engineClear_mode (p : Part) (args) : (p.engineClear args).part.svc.mode = p.svc.mode := by
  simp only [Part.engineClear]; split; · rfl
  split
  · split
    · rfl
    · exact Part.mode_of_fixed (Part.clearFault_fixed _ _)
  · rfl
theorem Part.loadMedia_fixed (p : Part) (e k c) : (p.loadMedia e k c).fixed = p.fixed := by
  simp only [Part.loadMedia]; split <;> simp [Part.modEng_fixed]
theorem Part.mediaSet_mode (p : Part) (args) : (p.mediaSet args).part.svc.mode = p.svc.mode := by
  simp only [Part.mediaSet]; split; · rfl
  repeat (split; · rfl)
  exact Part.mode_of_fixed (by simp [Part.loadMedia_fixed])

end Sys2Proof.Machine
end

