-- ==== Sys2Proof/Laws/Event.lean ====
section
/-! SUPPORT. What the events do to the mode, and which of the fixed fields they leave (R18, R24, R28 to R30). -/

set_option Elab.async false

namespace Sys2Proof.Machine

set_option maxRecDepth 8000


theorem Part.linkDiscard_mode (p : Part) : p.linkDiscard.svc.mode = p.svc.mode := rfl
theorem Part.pushReply_mode (p : Part) (r) : (p.pushReply r).svc.mode = p.svc.mode
    := by rw [Part.mode_of_fixed (Part.pushReply_fixed _ _)]
theorem Part.offerCtrl_mode (p : Part) (t l) : (p.offerCtrl t l).svc.mode = p.svc.mode := by
  unfold Part.offerCtrl; split; · rfl
  split
  · exact Part.pushReply_mode _ _
  · rfl
theorem Part.offerBand_mode (p : Part) (l) : (p.offerBand l).svc.mode = p.svc.mode := by
  unfold Part.offerBand; split <;> rfl
theorem Part.wakeToLive_mode (p : Part) : p.wakeToLive.svc.mode = .live := by
  simp only [Part.wakeToLive]
  rw [Part.mode_of_fixed (Part.walk_fixed _), Part.mode_of_fixed (Part.resumeIdle_fixed _ _),
      Part.mode_of_fixed (Part.resumeIdle_fixed _ _), Part.mode_of_fixed (Part.wakeSlots_fixed _)]
  rfl
theorem Part.controlArrival_mode (p : Part) : p.controlArrival.svc.mode = p.svc.mode ∨
    (p.svc.mode = .parkPending ∧ p.controlArrival.svc.mode = .drain) ∨
        (p.svc.mode.dark = true ∧ p.controlArrival.svc.mode = .live) := by
  unfold Part.controlArrival
  cases h : p.svc.mode <;> simp [Part.endGrace, Part.wakeToLive_mode, Mode.dark, h]
theorem Part.wakeCondition_mode (p : Part) (w) : (p.wakeCondition w).svc.mode = p.svc.mode ∨
    (p.svc.mode = .parkPending ∧ (p.wakeCondition w).svc.mode = .drain) ∨
        (p.svc.mode = .parked ∧ w.timer ≠ none ∧ (p.wakeCondition w).svc.mode = .waking) ∨
            (p.svc.mode.dark = true ∧ w.timer = none ∧ (p.wakeCondition w).svc.mode = .live) := by
  unfold Part.wakeCondition
  cases h : p.svc.mode <;> cases hw : w.timer <;> simp [Part.endGrace, Part.wakeToLive_mode, Mode.dark, h,
      Part.startDebounce, Part.setMode]
theorem Part.raiseWake_mode (p : Part) (w) : (p.raiseWake w).svc.mode = p.svc.mode ∨
    (p.svc.mode = .parkPending ∧ (p.raiseWake w).svc.mode = .drain) ∨
        (p.svc.mode = .parked ∧ w.timer ≠ none ∧ (p.raiseWake w).svc.mode = .waking) ∨
            (p.svc.mode.dark = true ∧ w.timer = none ∧ (p.raiseWake w).svc.mode = .live) := by
  simp only [Part.raiseWake]
  split
  · exact Part.wakeCondition_mode _ _
  · left; rfl
theorem Part.failDebounce_mode (p : Part) (w) : (p.failDebounce w).svc.mode = p.svc.mode ∨
    (p.svc.mode = .waking ∧ (p.failDebounce w).svc.mode = .parked) := by
  unfold Part.failDebounce
  split
  · rename_i h1 h2
    split
    · simp only
      split
      · left; rw [h1]
      · right; exact ⟨h1, rfl⟩
    · left; rfl
  · left; rfl

def wakesMode (s t : Mode) : Prop := (s = .parkPending ∧ t = .drain) ∨ (s = .parked ∧ t = .waking)

theorem Part.detectAssert_mode (p : Part) (i) : (p.detectAssert i).svc.mode = p.svc.mode ∨
    wakesMode p.svc.mode (p.detectAssert i).svc.mode := by
  simp only [Part.detectAssert]
  split <;> try (left; rfl)
  rcases Part.raiseWake_mode (p.modSlot i fun s => { s with
      state := .settling, delivered := 0, holdComplete := false, settling := some Config.settleTime }) (.slot i) with h | h | h | h
  · left; rw [h]; rfl
  · right; left; exact h
  · right; right; exact ⟨h.1, h.2.2⟩
  · simp [WakeSource.timer] at h

theorem releaseLines_mode (l : List (Fin 4)) (p : Part) : (l.foldl Part.releaseSlotLine p).svc.mode = p.svc.mode ∨
    wakesMode p.svc.mode (l.foldl Part.releaseSlotLine p).svc.mode := by
  induction l generalizing p with
  | nil => left; rfl
  | cons i l ih =>
    simp only [List.foldl_cons]
    have h1 : (p.releaseSlotLine i).svc.mode = p.svc.mode ∨ wakesMode p.svc.mode (p.releaseSlotLine i).svc.mode := by
      unfold Part.releaseSlotLine; split
      · exact Part.detectAssert_mode _ _
      · left; rfl
    rcases ih (p.releaseSlotLine i) with h | h <;> rcases h1 with h1 | h1
    · left; rw [h, h1]
    · right; rw [h]; exact h1
    · right; rw [← h1]; exact h
    · simp only [wakesMode] at *; grind

theorem Part.settled_mode (p : Part) (i) : (p.settled i).svc.mode = p.svc.mode := by
  unfold Part.settled; split
  · split <;> rfl
  · rfl
theorem Part.identifyStep_fixed (p : Part) (i c d) : (p.identifyStep i c d).fixed = p.fixed := by
  unfold Part.identifyStep
  split
  · split <;> rfl
  · split <;> rfl
  · split
    · split <;> simp
    · rfl
  · rfl
  · rfl
theorem Part.identifyResponse_fixed (p : Part) (i a b c) : (p.identifyResponse i a b c).fixed = p.fixed := by
  unfold Part.identifyResponse
  split <;> try rfl
  split
  · exact Part.identifyStep_fixed _ _ _ _
  · rfl
  · rfl
theorem Part.identifyExpired_fixed (p : Part) (i) : (p.identifyExpired i).fixed = p.fixed := by
  unfold Part.identifyExpired; split <;> rfl
theorem Part.responseTimeout_fixed (p : Part) (i) : (p.responseTimeout i).fixed = p.fixed := by
  unfold Part.responseTimeout; split <;> first | rfl | simp
theorem Part.busyRetry_fixed (p : Part) (i) : (p.busyRetry i).fixed = p.fixed := by
  unfold Part.busyRetry; split <;> rfl
theorem Part.readBlockResponse_fixed (p : Part) (i a b) : (p.readBlockResponse i a b).fixed = p.fixed := by
  unfold Part.readBlockResponse; split
  · split <;> rfl
  · rfl
theorem Part.afterSector_fixed (p : Part) (i r n) : (p.afterSector i r n).fixed = p.fixed := by
  unfold Part.afterSector; split; · simp
  split; · simp
  split <;> simp
theorem Part.produceSector_fixed (p : Part) (i d) : (p.produceSector i d).fixed = p.fixed := by
  unfold Part.produceSector; split
  · split
    · simp [Part.afterSector_fixed]; rfl
    · rfl
  · rfl
theorem Part.dataComplete_fixed (p : Part) (i a b) : (p.dataComplete i a b).fixed = p.fixed := by
  unfold Part.dataComplete; split
  · split
    · split
      · rfl
      · exact Part.produceSector_fixed _ _ _
    · rfl
  · rfl
theorem Part.dataTimeout_fixed (p : Part) (i) : (p.dataTimeout i).fixed = p.fixed := by
  unfold Part.dataTimeout; split <;> rfl
theorem Part.readBusyExpired_fixed (p : Part) (i) : (p.readBusyExpired i).fixed = p.fixed := by
  unfold Part.readBusyExpired; split <;> rfl
theorem Part.stopAnswered_fixed (p : Part) (i) : (p.stopAnswered i).fixed = p.fixed := by
  unfold Part.stopAnswered; split; · rfl
  split
  · split
    · simp
    · rfl
  · rfl
theorem Part.stopResponse_fixed (p : Part) (i a b) : (p.stopResponse i a b).fixed = p.fixed := by
  unfold Part.stopResponse; split
  · split
    · exact Part.stopAnswered_fixed _ _
    · rfl
    · simp
  · rfl
theorem Part.stopBusyExpired_fixed (p : Part) (i) : (p.stopBusyExpired i).fixed = p.fixed := by
  unfold Part.stopBusyExpired; split <;> first | rfl | simp
theorem Part.beginSector_fixed (p : Part) : (p.beginSector).fixed = p.fixed := by
  unfold Part.beginSector; split; · rfl
  split; · rfl
  split <;> rfl
theorem Part.authEnds_fixed (p : Part) (k a b) : (p.authEnds k a b).fixed = p.fixed
    := by simp [Part.authEnds, Part.modCashless]
theorem Part.authApproved_fixed (p : Part) (k a b) : (p.authApproved k a b).fixed = p.fixed
    := by simp [Part.authApproved]
theorem Part.lateApproval_fixed (p : Part) (k a) : (p.lateApproval k a).fixed = p.fixed := by
  simp only [Part.lateApproval]; split; · simp [Part.modCashless]
  split
  · simp [Part.modCashless]; rfl
  · rfl
theorem Part.takeApproved_fixed (p : Part) (a b) : (p.takeApproved a b).fixed = p.fixed := by
  unfold Part.takeApproved; split; · rfl
  split
  · split
    · split
      · exact Part.authEnds_fixed _ _ _ _
      · exact Part.authApproved_fixed _ _ _ _
    · rfl
  · split
    · rfl
    · exact Part.lateApproval_fixed _ _ _
  all_goals rfl
theorem Part.takeDeclined_fixed (p : Part) (a b) : (p.takeDeclined a b).fixed = p.fixed := by
  unfold Part.takeDeclined; split; · rfl
  split
  · split
    · exact Part.authEnds_fixed _ _ _ _
    · rfl
  all_goals rfl
theorem Part.settlementEnds_fixed (p : Part) (a b c d) : (p.settlementEnds a b c d).fixed = p.fixed := by
  simp only [Part.settlementEnds]; split <;> simp [Part.modCashless]
theorem Part.takeCaptured_fixed (p : Part) (a) : (p.takeCaptured a).fixed = p.fixed := by
  unfold Part.takeCaptured; split; · simp
  split
  · exact Part.settlementEnds_fixed _ _ _ _ _
  · rfl
theorem Part.takeReleased_fixed (p : Part) (a) : (p.takeReleased a).fixed = p.fixed := by
  unfold Part.takeReleased; split; · simp
  split
  · exact Part.settlementEnds_fixed _ _ _ _ _
  · rfl
theorem Part.authTimesOut_fixed (p : Part) (a) : (p.authTimesOut a).fixed = p.fixed := by
  unfold Part.authTimesOut; split
  · split
    · exact Part.authEnds_fixed _ _ _ _
    · simp
  · simp
theorem Part.takeBand_fixed (p : Part) : p.takeBand.fixed = p.fixed := by
  unfold Part.takeBand; split
  · simp only; split <;> rfl
  · rfl
theorem Part.grantTo_fixed (p : Part) (w n) : (p.grantTo w n).fixed = p.fixed := by
  unfold Part.grantTo; split
  · split <;> rfl
  · split
    · simp [Part.modEng_fixed]
    · rfl
theorem Part.grant_fixed (p : Part) (n) : (p.grant n).fixed = p.fixed := by
  unfold Part.grant; split
  · exact Part.grantTo_fixed _ _ _
  · rfl
theorem Part.completeItem_fixed (p : Part) (i x) : (p.completeItem i x).fixed = p.fixed := by
  simp [Part.completeItem]; rfl
theorem Part.bandWritten_fixed (p : Part) (b) : (p.bandWritten b).fixed = p.fixed := by
  unfold Part.bandWritten; simp only; split
  · split
    · rfl
    · split
      · rw [Part.completeItem_fixed]; rfl
      · rfl
  · rfl
theorem Part.lineReceived_fixed (p : Part) (e r) : (p.lineReceived e r).fixed = p.fixed := by
  unfold Part.lineReceived; simp only; split; · rfl
  split <;> simp [Part.modEng_fixed]
theorem Part.accessDone_mode (p : Part) (a) : (p.accessDone a).svc.mode = p.svc.mode := by
  unfold Part.accessDone; split
  · unfold Part.writeDone; simp only; split
    · split
      · rw [Part.mode_of_fixed (Part.bandWritten_fixed _ _)]
      · rfl
    · rfl
  · unfold Part.readDone; simp only; split
    · rw [Part.mode_of_fixed (Part.lineReceived_fixed _ _ _)]
    · rfl
theorem Part.panelReady_fixed (p : Part) (e a b c) : (p.panelReady e a b c).fixed = p.fixed := by
  simp only [Part.panelReady]; split <;> simp [Part.modEng_fixed]
theorem Part.copyEjected_fixed (p : Part) (e h) : (p.copyEjected e h).fixed = p.fixed := by
  simp only [Part.copyEjected]; split
  · split
    · simp; exact (Part.modEng_fixed _ _ _ (by simp)).trans (by simp)
    · simp
  · simp
theorem Part.sample_fixed (p : Part) (e t) : (p.sample e t).fixed = p.fixed := by
  unfold Part.sample; split <;> try rfl
  all_goals try (simp [Part.modEng_fixed]; done)
  simp only; split
  · split <;> simp [Part.modEng_fixed]
  · simp [Part.modEng_fixed]
theorem Part.lineStrobed_fixed (p : Part) (e a b c) : (p.lineStrobed e a b c).fixed = p.fixed := by
  unfold Part.lineStrobed; split; · simp [Part.modEng_fixed]
  split <;> simp [Part.modEng_fixed]
theorem Part.passDone_fixed (p : Part) (e t) : (p.passDone e t).fixed = p.fixed := by
  unfold Part.passDone; simp only; split
  · split <;> simp [Part.modEng_fixed, Part.lineStrobed_fixed]
  · rfl
theorem Part.sensorChange_mode (p : Part) (e r) : (p.sensorChange e r).svc.mode = p.svc.mode := by
  simp only [Part.sensorChange]; split
  · split
    · rw [Part.mode_of_fixed (Part.faultPrinting_fixed _ _ _)]; simp
    · simp
  · simp
theorem Part.transmitDone_mode (p : Part) : p.transmitDone.svc.mode = p.svc.mode := by
  unfold Part.transmitDone; split; · rfl
  rw [Part.mode_of_fixed (Part.feed_fixed _)]
theorem Part.billPulse_mode (p : Part) (c v) : (p.billPulse c v).svc.mode = p.svc.mode := by
  unfold Part.billPulse; split; · rfl
  simp only; split
  · rw [Part.endTrain_mode]; rfl
  · rfl
theorem Part.pulseFalls_mode (p : Part) (c ms) : (p.pulseFalls c ms).svc.mode = p.svc.mode ∨
    (p.svc.mode = .parkPending ∧ (p.pulseFalls c ms).svc.mode = .drain) ∨
        (p.svc.mode.dark = true ∧ (p.pulseFalls c ms).svc.mode = .live) := by
  unfold Part.pulseFalls
  split
  · simp only; split; · left; rfl
    split
    · unfold Part.classify; simp only; split
      · split
        · left; simp only [Part.jamChannel, Part.capture_svc, Service.capture_mode, Part.modChan_svc,
            Part.endTrain_mode]; rfl
        · split
          · left; rfl
          · have hv : ∀ q : Part, (q.validPulse c).svc.mode = q.svc.mode ∨
              (q.svc.mode = .parkPending ∧ (q.validPulse c).svc.mode = .drain) ∨
                  (q.svc.mode.dark = true ∧ (q.validPulse c).svc.mode = .live) := by
              intro q
              simp only [Part.validPulse]
              have key : ∀ x : Part, x.svc.mode = q.svc.mode → ((x.raiseWake .pulse).svc.mode = q.svc.mode ∨
                  (q.svc.mode = .parkPending ∧ (x.raiseWake .pulse).svc.mode = .drain) ∨
                      (q.svc.mode.dark = true ∧ (x.raiseWake .pulse).svc.mode = .live)) := by
                intro x this
                rcases Part.raiseWake_mode x .pulse with h | h | h | h
                · left; rw [h, this]
                · right; left; rw [← this]; exact h
                · simp [WakeSource.timer] at h
                · right; right; rw [← this]; exact ⟨h.1, h.2.2⟩
              cases hg : q.pay.table[c].group
              · exact key _ (Part.post_mode _ _ _)
              · exact key _ (Part.billPulse_mode _ _ _)
            exact hv _
      · split <;> (left; rfl)
    · left; rfl
  · left; rfl
theorem wakeConditions_mode (l : List WakeSource) (hl : ∀ w ∈ l,
    w.timer ≠ none) (p : Part) (hp : p.svc.mode = .parked ∨ p.svc.mode = .waking) :
   ((l.foldl Part.wakeCondition p).svc.mode = .parked ∧ l = [] ∨
       (l.foldl Part.wakeCondition p).svc.mode = .waking) := by
  induction l generalizing p with
  | nil => rcases hp with h | h
           · left; exact ⟨h, rfl⟩
           · right; exact h
  | cons w l ih =>
    right
    simp only [List.foldl_cons]
    have hw := hl w (by simp)
    have h1 : (p.wakeCondition w).svc.mode = .waking := by
      cases hm : p.svc.mode <;> simp_all [Part.wakeCondition]
      all_goals (cases h : w.timer <;> simp_all [Part.startDebounce, Part.setMode])
    rcases ih (fun w h => hl w (by simp [h])) _ (.inr h1) with h | h
    · rw [h.2]; exact h1
    · exact h
theorem Part.enterParked_mode (p : Part) (_h : p.svc.mode = .parkPending) : p.enterParked.svc.mode = .parked ∨
    (p.svc.request &&& p.svc.enable ≠ 0 ∧ (p.enterParked.svc.mode = .waking ∨ p.enterParked.svc.mode = .live)) := by
  have hold : ∀ w, p.svc.wakeHolds w = true → p.svc.request &&& p.svc.enable ≠ 0 := by
    intro w hw h0
    simp only [Service.wakeHolds, ← BitVec.getLsbD_and, h0] at hw
    simp at hw
  simp only [Part.enterParked]
  split
  · rename_i h1
    right
    refine ⟨hold .pulse h1, ?_⟩
    have key : ∀ q : Part, q.svc.mode = .parked → (q.wakeCondition .pulse).svc.mode = .live := by
      intro q hq; simp only [Part.wakeCondition, hq, WakeSource.timer, Part.wakeToLive_mode]
    right; exact key _ rfl
  · generalize hl : (debouncedSources.filter fun w => _) = l
    have hlt : ∀ w ∈ l, w.timer ≠ none := by
      intro w hw; rw [← hl] at hw
      have := (List.mem_filter.mp hw).1
      simp [debouncedSources] at this
      rcases this with rfl | rfl | rfl | rfl | rfl <;> simp [WakeSource.timer]
    rcases wakeConditions_mode l hlt (Part.parkSlots { p with svc := { p.svc with
        mode := .parked, grace := none } }) (.inl rfl) with h | h
    · left; exact h.1
    · by_cases hn : l = []
      · left; rw [hn]; rfl
      · right
        refine ⟨?_, .inl h⟩
        obtain ⟨w, hw⟩ := List.exists_mem_of_ne_nil l hn
        rw [← hl] at hw
        exact hold w (List.mem_filter.mp hw).2

theorem Part.handOver_mode (p : Part) : p.handOver.svc.mode = p.svc.mode ∨ ∃ r h, p.lnk.handler = .serving r h
        ∧ ((h = .goLive ∧ p.handOver.svc.mode = .live) ∨ (h = .resume ∧ p.handOver.svc.mode = .live) ∨
            (h = .drain ∧ p.handOver.svc.mode = .drain)
          ∨ (h = .park ∧ p.handOver.svc.mode = .parkPending)) := by
  unfold Part.handOver
  split
  · rename_i r h hh
    split
    · simp only [Part.pushReply_mode]
      cases h
      · left; rfl
      · right; exact ⟨_, _, hh, .inl ⟨rfl, rfl⟩⟩
      · right; exact ⟨_, _, hh, .inr (.inr (.inl ⟨rfl, rfl⟩))⟩
      · right; exact ⟨_, _, hh, .inr (.inl ⟨rfl, rfl⟩)⟩
      · right; exact ⟨_, _, hh, .inr (.inr (.inr ⟨rfl, rfl⟩))⟩
      · left; rfl
      · left; rfl
    · left; rfl
  all_goals (left; rfl)

theorem Part.frameTaken_mode (p : Part) (b) : (p.frameTaken b).svc.mode = p.svc.mode ∨
    (p.svc.mode = .parkPending ∧ (p.frameTaken b).svc.mode = .drain) ∨
        (p.svc.mode.dark = true ∧ (p.frameTaken b).svc.mode = .live) := by
  unfold Part.frameTaken; simp only
  split
  · split
    · unfold Part.dispatch
      split
      · rw [Part.offerCtrl_mode]; exact Part.controlArrival_mode _
      · split
        · left; rw [Part.offerBand_mode]; rfl
        · left; rfl
    · left; rfl
  · left; rfl
theorem Part.pathResetEffects_mode (p : Part) : p.pathResetEffects.svc.mode = p.svc.mode ∨
    p.pathResetEffects.svc.mode = .setup := by
  have hb (q : Part) : q.pathResetBlocks.svc.mode = .setup := by
    rw [← Part.fixed_mode, Part.pathResetBlocks_fixed]
  unfold Part.pathResetEffects
  split
  · right; rw [Part.mode_of_fixed (Part.feed_fixed _), hb]
  · split
    · right; rw [Part.mode_of_fixed (Part.feed_fixed _), hb]
    · left; rfl
  · left; rfl

theorem Part.takeRequest_mode (p : Part) (rest) : (p.takeRequest rest).svc.mode = p.svc.mode ∨
    (p.svc.mode = .parkPending ∧ (p.takeRequest rest).svc.mode = .drain) := by
  unfold Part.takeRequest
  split
  · right; rename_i h; simp at h; exact ⟨h, rfl⟩
  · left; rfl
theorem Part.refuseUnknown_mode (p : Part) : p.refuseUnknown.svc.mode = p.svc.mode ∨
    (p.svc.mode = .parkPending ∧ p.refuseUnknown.svc.mode = .drain) := by
  unfold Part.refuseUnknown
  split
  · split
    · exact Part.takeRequest_mode _ _
    · left; rfl
  · left; rfl
theorem Part.detectFalls_mode (p : Part) (i) : (p.detectFalls i).svc.mode = p.svc.mode ∨
    (p.svc.mode = .waking ∧ (p.detectFalls i).svc.mode = .parked) := by
  unfold Part.detectFalls
  split
  · simp only
    split
    · left; rfl
    · split
      · have := Part.failDebounce_mode ((p.setDetect i false).removeCard i) (.slot i)
        rw [Part.mode_of_fixed (Part.removeCard_fixed _ _)] at this
        exact this
      · exact Part.failDebounce_mode (p.setDetect i false) (.slot i)
  · left; rfl
theorem Part.graceExpires_mode (p : Part) : p.graceExpires.svc.mode = p.svc.mode ∨ (p.svc.mode = .parkPending
        ∧ (p.graceExpires.svc.mode = .drain ∨ p.graceExpires.svc.mode = .parked
          ∨ (p.svc.request &&& p.svc.enable ≠ 0 ∧ (p.graceExpires.svc.mode = .waking ∨
              p.graceExpires.svc.mode = .live)))) := by
  unfold Part.graceExpires
  split
  · rename_i h1 h2
    right
    refine ⟨h1, ?_⟩
    split
    · rcases Part.enterParked_mode _ h1 with h | h
      · right; left; exact h
      · right; right; exact h
    · left; rfl
  · left; rfl
theorem Part.debounceExpires_mode (p : Part) (t) : (p.debounceExpires t).svc.mode = p.svc.mode ∨
    (p.svc.mode = .waking ∧ ((p.debounceExpires t).svc.mode = .live ∨ (p.debounceExpires t).svc.mode = .parked)) := by
  unfold Part.debounceExpires
  split
  · rename_i h1
    have h1 : p.svc.mode = .waking ∧ p.svc.debounce[t].isSome = true := by simpa using h1
    split
    · right; exact ⟨h1.1, .inl (Part.wakeToLive_mode p)⟩
    · rcases Part.failDebounce_mode p (timerSource t) with h | h
      · left; exact h
      · right; exact ⟨h.1, .inr h.2⟩
  · left; rfl

end Sys2Proof.Machine
end

