-- ==== Sys2Proof/Laws/Frames.lean ====
section
/-! SUPPORT. The frames that move between the transfer path and the line: what refill, transmitter and hand-over do, in the
terms of the statements (R10, R11, R62). -/

set_option Elab.async false

namespace Sys2Proof.Machine

theorem Part.startFrame_eq (s : State) (cls : Byte) (tag : Nat) (payload : List Byte) :
    s.toPart.startFrame cls tag payload
      = { s.toPart with lnk := { s.lnk with tx := some (s.frameBegun cls tag payload) } } := rfl

theorem Part.refill_eq (p : Part) : p.refill = { p with csu := p.csu.offering } := by
  obtain ⟨_, _, _, _, _, ⟨_, _, _, _, offered, endings, _, _⟩, _, _, _, _, _, _, _⟩ := p
  cases offered <;> cases endings <;> rfl

/-- An offered position that is full is not refilled (R62). -/
theorem Cards.offering_full {c : Cards} (h : c.offered.isSome = true) : c.offering = c := by
  unfold Cards.offering
  split <;> simp_all

/-- A refilled offered position is empty only where nothing is left to fill it, so a second refill does nothing (R62). -/
theorem Cards.offering_offering (c : Cards) : c.offering.offering = c.offering := by
  obtain ⟨_, _, _, buffer, offered, endings, _, _⟩ := c
  cases offered <;> cases endings <;> cases buffer <;> rfl

/-- R11 and R62: the frames move as far as they can. -/
theorem State.framesMoved_eq (s : State) : { s with toPart := s.toPart.feed } = s.framesMoved := by
  unfold Part.feed Part.kick State.framesMoved
  simp only [Part.refill_eq]
  cases htx : s.lnk.tx with
  | some f => simp [Cards.offering_offering]
  | none =>
    cases hr : s.lnk.replies with
    | cons r rs => simp [Part.startFrame, Cards.offering_offering]; rfl
    | nil =>
      cases ho : s.csu.offering.offered with
      | some f => simp only [Part.startFrame]; rw [hr]; rfl
      | none => simp [Cards.offering_offering]

/-- R10 and R11: a REPLY joins the reply queue, and an idle transmitter takes the head. -/
theorem State.replied_eq (s : State) (r : Reply) : { s with toPart := s.toPart.pushReply r } = s.replied r := by
  unfold Part.pushReply Part.kick State.replied
  cases htx : s.lnk.tx <;> cases s.lnk.replies <;> simp [htx] <;> rfl

end Sys2Proof.Machine
end

