-- ==== Sys2Proof/Laws/Memory.lean ====
section
/-! SUPPORT. The bytes of the spool memory: a write gives what it wrote and leaves every other byte, and keeps the canonical
form (R153, R159, log entry 9). -/

set_option Elab.async false

namespace Sys2Proof.Machine

/-- The form from an address on holds from every lower address. -/
theorem memWfFrom_mono {lo lo' : Nat} (h : lo' ≤ lo) : ∀ {m : List Host.Cell}, memWfFrom lo m = true → memWfFrom lo' m = true
  | [], _ => rfl
  | (a, b) :: rest, hw => by
    simp only [memWfFrom, Bool.and_eq_true, decide_eq_true_eq] at hw ⊢
    exact ⟨⟨⟨by omega, hw.1.1.2⟩, hw.1.2⟩, hw.2⟩

/-- A byte below every listed address reads as an unlisted byte. -/
theorem memRead_below {lo x : Nat} (hx : x < lo) : ∀ {m : List Host.Cell}, memWfFrom lo m = true →
    memRead m x = Config.unwrittenByte
  | [], _ => rfl
  | (a, b) :: rest, hw => by
    simp only [memWfFrom, Bool.and_eq_true, decide_eq_true_eq] at hw
    simp only [memRead]
    rw [if_neg (by omega), if_pos (by omega)]

/-- A write inside the spool keeps the form. -/
theorem memWfFrom_memWrite {lo x : Nat} {v : Byte} (hlo : lo ≤ x) (hx : x < Config.spoolBytes) :
    ∀ {m : List Host.Cell}, memWfFrom lo m = true → memWfFrom lo (memWrite m x v) = true
  | [], _ => by
    simp only [memWrite]
    split
    · rfl
    · simp [memWfFrom, *]
  | (a, b) :: rest, hw => by
    simp only [memWfFrom, Bool.and_eq_true, decide_eq_true_eq] at hw
    obtain ⟨⟨⟨ha, hs⟩, hb⟩, hr⟩ := hw
    simp only [memWrite]
    split
    · split
      · simp [memWfFrom, *]
      · simp_all [memWfFrom]
    · split
      · subst_vars
        split
        · exact memWfFrom_mono (by omega) hr
        · simp_all [memWfFrom]
      · have := memWfFrom_memWrite (lo := a + 1) (x := x) (v := v) (by omega) hx hr
        simp_all [memWfFrom]

/-- What a byte reads as after one byte has been written. -/
theorem memRead_memWrite {lo x y : Nat} {v : Byte} : ∀ {m : List Host.Cell}, memWfFrom lo m = true →
    memRead (memWrite m x v) y = if y = x then v else memRead m y
  | [], _ => by
    simp only [memWrite]
    split
    · subst_vars; simp [memRead]
    · simp only [memRead]; split <;> simp_all
  | (a, b) :: rest, hw => by
    simp only [memWfFrom, Bool.and_eq_true, decide_eq_true_eq] at hw
    obtain ⟨⟨⟨ha, hs⟩, hb⟩, hr⟩ := hw
    have below : ∀ z, z < a + 1 → memRead rest z = Config.unwrittenByte := fun z hz => memRead_below hz hr
    simp only [memWrite]
    split
    · rename_i hxa
      split
      · rename_i hv
        by_cases hyx : y = x
        · rw [if_pos hyx, hv]; simp only [memRead]; rw [if_neg (by omega), if_pos (by omega)]
        · rw [if_neg hyx]
      · simp only [memRead]
        split
        · rfl
        · split
          · rw [if_neg (by omega), if_pos (by omega)]
          · rfl
    · split
      · subst_vars
        split
        · subst_vars
          simp only [memRead]
          split
          · subst_vars; exact below _ (by omega)
          · split
            · exact below _ (by omega)
            · rfl
        · simp only [memRead]
          split <;> rfl
      · simp only [memRead]
        rw [memRead_memWrite hr]
        split
        · rw [if_neg (by omega)]
        · split
          · rw [if_neg (by omega)]
          · rfl

/-- A run of bytes inside the spool keeps the form. -/
theorem memWf_memWriteRun {addr : Nat} {bs : List Byte} {m : List Host.Cell} (hs : addr + bs.length ≤ Config.spoolBytes)
    (hw : Memory.wf m = true) : Memory.wf (memWriteRun m addr bs) = true := by
  induction bs generalizing m addr with
  | nil => exact hw
  | cons b bs ih =>
    simp only [List.length_cons] at hs
    exact ih (by omega) (memWfFrom_memWrite (Nat.zero_le _) (by omega) hw)

/-- What a byte reads as after a run of bytes has been written. -/
theorem memRead_memWriteRun {addr y : Nat} {bs : List Byte} {m : List Host.Cell} (hs : addr + bs.length ≤ Config.spoolBytes)
    (hw : Memory.wf m = true) :
    memRead (memWriteRun m addr bs) y
      = if addr ≤ y ∧ y < addr + bs.length then bs.getD (y - addr) 0 else memRead m y := by
  induction bs generalizing m addr with
  | nil => simp only [memWriteRun, List.length_nil]; rw [if_neg (by omega)]
  | cons b bs ih =>
    simp only [List.length_cons] at hs
    simp only [memWriteRun]
    rw [ih (by omega) (memWfFrom_memWrite (Nat.zero_le _) (by omega) hw), memRead_memWrite hw]
    by_cases h : y = addr
    · subst h; rw [if_neg (by omega), if_pos rfl, if_pos (by simp)]; simp
    · by_cases h2 : addr + 1 ≤ y ∧ y < addr + 1 + bs.length
      · rw [if_pos h2, if_pos (by simp only [List.length_cons]; omega)]
        have : y - addr = (y - (addr + 1)) + 1 := by omega
        rw [this]; simp
      · rw [if_neg h2, if_neg h, if_neg (by simp only [List.length_cons]; omega)]

/-- Reset memory is in the form. -/
theorem memWf_reset : Memory.wf State.reset.spl.mem = true := rfl

end Sys2Proof.Machine
end

