-- ==== Sys2Proof/Laws/Reset.lean ====
section
/-! SUPPORT. What the walks of PATH_RESET over items do. -/

set_option Elab.async false

namespace Sys2Proof.Machine

/-- An item's intake that no longer receives. -/
def Intake.idle (x : Intake) : Intake := { x with receiving := false }
/-- An item that PATH_RESET has withdrawn (R104). -/
def Item.resetDone (it : Item) : Item :=
  { it with state := .withdrawn, reason := some .pathReset, engine := none, debited := false }
/-- A region whose holder, if it is this item, is gone (R160). -/
def Region.letGo (g : Region) (id : Fin 64) : Region := if g.holder == some id then { g with holder := none } else g

/-- An order whose item PATH_RESET withdraws: its price and its reversal leave the sums (R104). -/
def Item.resetCharge (it : Item) (o : Order) : Order :=
  { o with total := o.total - it.price, consumed := o.consumed - it.reversal }

theorem set_self {α : Type} {n : Nat} (v : Vector α n) (i : Fin n) : v.set i v[i] = v := by
  simp

theorem Part.stopReceiving_quiet (p : Part) (id : Fin 64) (hc : p.rin.conv = none) (hq : p.rin.queue = []) :
    p.stopReceiving id = p.setIntake id ((p.rin.intake[id]).map Intake.idle) := by
  unfold Part.stopReceiving
  cases h : p.rin.intake[id] with
  | none =>
    simp only [Part.setIntake, Option.map_none]
    rw [← h, set_self]
  | some x =>
    cases hx : x.receiving
    · simp only [hx, Bool.false_eq_true, if_false, Part.setIntake, Option.map_some]
      have : x.idle = x := by cases x; simp_all [Intake.idle]
      rw [this, ← h, set_self]
    · simp [Part.dropBands, Part.setIntake, hc, hq, hx, Intake.idle]

theorem Part.resetItem_works (p : Part) (id : Fin 64) (it : Item) (hi : p.ord.items[id] = some it)
    (ht : it.state.terminal = false) (hc : p.rin.conv = none) (hq : p.rin.queue = [])
    (hA : p.engA.queue = []) (hB : p.engB.queue = []) :
    p.resetItem id = { p with
      ord := { p.ord with
        items := p.ord.items.set id (some it.resetDone)
        orders := p.ord.orders.set it.order ((p.ord.orders[it.order]).map it.resetCharge)
        release := p.ord.release.filter fun e => e.item != id }
      spl := { p.spl with regions := p.spl.regions.set it.region (p.spl.regions[it.region].letGo id) }
      rin := { p.rin with intake := p.rin.intake.set id ((p.rin.intake[id]).map Intake.idle) } } := by
  have eA : ({ p.engA with queue := p.engA.queue.filter (· != id) } : Engine) = p.engA := by
    cases h : p.engA; simp_all
  have eB : ({ p.engB with queue := p.engB.queue.filter (· != id) } : Engine) = p.engB := by
    cases h : p.engB; simp_all
  have eC : it.resetCharge = fun o => { o with total := o.total - it.price, consumed := o.consumed - it.reversal } := rfl
  unfold Part.resetItem
  simp only [hi, ht, Bool.false_eq_true, if_false, Part.withdrawItem]
  cases hd : it.debited
  all_goals
    rw [Part.stopReceiving_quiet]
    · simp [Part.reverse, hi, hd, Part.leaveQueues, Part.modItem, Part.modOrder, Part.modEng, Part.clearHolder,
        Part.modRegion, Part.setIntake, eA, eB, eC, Item.resetDone, Item.reversal, Region.letGo, Function.comp_def]
    · simp [Part.reverse, hi, hd, Part.leaveQueues, Part.modItem, Part.modOrder, Part.modEng, Part.clearHolder,
        Part.modRegion, hc]
    · simp [Part.reverse, hi, hd, Part.leaveQueues, Part.modItem, Part.modOrder, Part.modEng, Part.clearHolder,
        Part.modRegion, hq]

/-- An item that PATH_RESET withdraws (R104). -/
def Part.isWork (p : Part) (id : Fin 64) : Bool := (p.ord.items[id]).any fun it => !it.state.terminal

/-- What the items of a list that PATH_RESET withdraws from the order of a record sum to. -/
def Part.resetFall (p : Part) (l : List (Fin 64)) (k : Fin 32) (f : Item → Nat) : Nat :=
  (l.map fun id => ((p.ord.items[id]).map fun it => if it.order = k ∧ it.state.terminal = false then f it else 0).getD 0).sum

theorem Part.resetItem_rests (p : Part) (id : Fin 64) (h : p.isWork id = false) : p.resetItem id = p := by
  unfold Part.resetItem
  unfold Part.isWork at h
  cases hi : p.ord.items[id] with
  | none => rfl
  | some it => simp [hi] at h; simp [h]

theorem Part.isWork_some {p : Part} {id : Fin 64} (h : p.isWork id = true) :
    ∃ it, p.ord.items[id] = some it ∧ it.state.terminal = false := by
  unfold Part.isWork at h
  cases hi : p.ord.items[id] with
  | none => simp [hi] at h
  | some it => exact ⟨it, rfl, by simpa [hi] using h⟩

/-- An order at PATH_RESET, the items of `l` being withdrawn (R104). -/
def Part.resetOrder (p : Part) (l : List (Fin 64)) (k : Fin 32) (o : Order) : Order :=
  { o with total := o.total - p.resetFall l k (·.price), consumed := o.consumed - p.resetFall l k (·.reversal) }

/-- What PATH_RESET's walk over the items of `l` makes of a part: items, orders, regions and intakes as the fields say, and
everything but the release list as it was (R67, R104, R152, R160). -/
structure Part.ItemsReset (p : Part) (l : List (Fin 64)) (q : Part) : Prop where
  rest : q = { p with
    ord := { p.ord with items := q.ord.items, orders := q.ord.orders
                        release := p.ord.release.filter fun e => decide ¬ (e.item ∈ l ∧ p.isWork e.item = true) }
    spl := { p.spl with regions := q.spl.regions }
    rin := { p.rin with intake := q.rin.intake } }
  items : ∀ id : Fin 64, q.ord.items[id]
    = if id ∈ l ∧ p.isWork id = true then (p.ord.items[id]).map Item.resetDone else p.ord.items[id]
  orders : ∀ k : Fin 32, q.ord.orders[k] = (p.ord.orders[k]).map (p.resetOrder l k)
  regions : ∀ r : Fin 16, q.spl.regions[r].pathReset = p.spl.regions[r].pathReset
  intake : ∀ id : Fin 64, q.rin.intake[id] = if id ∈ l ∧ p.isWork id = true then
    (p.rin.intake[id]).map Intake.idle else p.rin.intake[id]

theorem Part.resetFall_snoc (p : Part) (l : List (Fin 64)) (h : Fin 64) (k : Fin 32) (f : Item → Nat) :
    p.resetFall (l ++ [h]) k f = p.resetFall l k f + p.resetFall [h] k f := by
  simp [Part.resetFall]

theorem Part.resetFall_rest (p : Part) (h : Fin 64) (k : Fin 32) (f : Item → Nat) (hw : p.isWork h = false) :
    p.resetFall [h] k f = 0 := by
  unfold Part.isWork at hw
  cases hi : p.ord.items[h] with
  | none => simp only [Part.resetFall, List.map_cons, List.map_nil, hi]; rfl
  | some it => simp [hi] at hw; simp only [Part.resetFall, List.map_cons, List.map_nil, hi]; simp [hw]

theorem Part.resetFall_work (p : Part) (h : Fin 64) (k : Fin 32) (f : Item → Nat) (it : Item) (hi : p.ord.items[h] = some it)
    (ht : it.state.terminal = false) : p.resetFall [h] k f = if it.order = k then f it else 0 := by
  simp only [Part.resetFall, List.map_cons, List.map_nil, hi]; simp [ht]

/-- The walk over the items, once the band queue, the conversion and the engine queues are empty. -/
theorem Part.foldl_resetItem (p : Part) (l : List (Fin 64)) (hn : l.Nodup) (hc : p.rin.conv = none) (hq : p.rin.queue = [])
    (hA : p.engA.queue = []) (hB : p.engB.queue = []) : p.ItemsReset l (l.foldl Part.resetItem p) := by
  induction l using List.reverseRecOn with
  | nil =>
    refine ⟨by simp, by simp, fun k => ?_, fun _ => rfl, by simp⟩
    cases hk : p.ord.orders[k] <;> (rw [List.foldl_nil, hk]; rfl)
  | append_singleton l h ih =>
    rw [List.nodup_append] at hn
    have hl : h ∉ l := fun hm => hn.2.2 h hm h (by simp) rfl
    obtain ⟨i1, i2, i3, i4, i5⟩ := ih hn.1
    rw [List.foldl_append, List.foldl_cons, List.foldl_nil]
    generalize l.foldl Part.resetItem p = q at *
    have hi : q.ord.items[h] = p.ord.items[h] := by rw [i2]; simp [hl]
    have hw' : q.isWork h = p.isWork h := by unfold Part.isWork; rw [hi]
    cases hw : p.isWork h
    · rw [Part.resetItem_rests q h (hw'.trans hw)]
      have hf : ∀ k f, p.resetFall (l ++ [h]) k f = p.resetFall l k f := by
        intro k f; rw [Part.resetFall_snoc, Part.resetFall_rest p h k f hw]; rfl
      have hm : ∀ id, (id ∈ l ++ [h] ∧ p.isWork id = true) ↔ (id ∈ l ∧ p.isWork id = true) := by
        intro id; simp only [List.mem_append, List.mem_singleton]
        constructor
        · rintro ⟨h1 | rfl, h2⟩
          · exact ⟨h1, h2⟩
          · rw [hw] at h2; cases h2
        · rintro ⟨h1, h2⟩; exact ⟨.inl h1, h2⟩
      refine ⟨?_, ?_, ?_, i4, ?_⟩
      · simp only [hm]; exact i1
      · intro id; rw [i2]; simp only [hm]
      · intro k; rw [i3]; unfold Part.resetOrder; simp only [hf]
      · intro id; rw [i5]; simp only [hm]
    · obtain ⟨it, h1, h2⟩ := Part.isWork_some hw
      rw [Part.resetItem_works q h it (hi.trans h1) h2 (by rw [i1]; exact hc) (by rw [i1]; exact hq)
        (by rw [i1]; exact hA) (by rw [i1]; exact hB)]
      have hm : ∀ id, (id ∈ l ++ [h] ∧ p.isWork id = true) ↔ (id = h ∨ (id ∈ l ∧ p.isWork id = true)) := by
        intro id; simp only [List.mem_append, List.mem_singleton]
        constructor
        · rintro ⟨h1 | rfl, h2⟩
          · exact .inr ⟨h1, h2⟩
          · exact .inl rfl
        · rintro (rfl | ⟨h1, h2⟩)
          · exact ⟨.inr rfl, hw⟩
          · exact ⟨.inl h1, h2⟩
      have hv : ∀ {A : Type} {n : Nat} (v : Vector A n) (i j : Fin n) (x : A),
          (v.set i x)[j] = if j = i then x else v[j] := by
        intro A n v i j x
        by_cases e : j = i
        · subst e; rw [if_pos rfl]; exact Vector.getElem_set_self _
        · rw [if_neg e]; exact Vector.getElem_set_ne _ _ fun h => e (Fin.ext h.symm)
      refine ⟨?_, ?_, ?_, ?_, ?_⟩
      · have hr : q.ord.release.filter (fun e => e.item != h)
            = p.ord.release.filter fun e => decide ¬ (e.item ∈ l ++ [h] ∧ p.isWork e.item = true) := by
          rw [congrArg (fun x : Part => x.ord.release) i1, List.filter_filter]
          refine List.filter_congr fun x _ => ?_
          simp only [hm, not_or, Bool.decide_and]
          by_cases e : x.item = h <;> simp [e]
        rw [← hr]
        exact congrArg (fun x : Part => { x with
          ord := { x.ord with
            items := q.ord.items.set h (some it.resetDone)
            orders := q.ord.orders.set it.order ((q.ord.orders[it.order]).map it.resetCharge)
            release := q.ord.release.filter fun e => e.item != h }
          spl := { x.spl with regions := q.spl.regions.set it.region (q.spl.regions[it.region].letGo h) }
          rin := { x.rin with
            intake := q.rin.intake.set h ((q.rin.intake[h]).map Intake.idle) } }) i1
      · intro id
        simp only [hv, hm, i2]
        by_cases e : id = h
        · subst e; simp only [if_true, true_or]; rw [h1]; rfl
        · simp only [e, if_false, false_or]
      · intro k
        simp only [hv, i3]
        have hs : ∀ f, p.resetFall (l ++ [h]) k f = p.resetFall l k f + if it.order = k then f it else 0 := by
          intro f; rw [Part.resetFall_snoc, Part.resetFall_work p h k f it h1 h2]
        unfold Part.resetOrder Item.resetCharge
        simp only [hs]
        by_cases e : k = it.order
        · subst e
          cases p.ord.orders[it.order] <;> simp [Nat.sub_sub]
        · simp only [e, if_false, Ne.symm e, Nat.add_zero]
      · intro r
        simp only [hv]
        by_cases e : r = it.region
        · subst e; rw [if_pos rfl, ← i4 it.region]; unfold Region.letGo; split <;> rfl
        · simp only [e, if_false]; exact i4 r
      · intro id
        simp only [hv, hm]
        by_cases e : id = h
        · subst e; simp only [if_true, true_or]; rw [i5]; simp [hl]
        · simp only [e, if_false, false_or]; exact i5 id

end Sys2Proof.Machine
end

