-- ==== Sys2Proof/WellFormed.lean ====
section
/-! DEFINITION. What an operand of a command may be: a thermistor reading lies in -10..100 °C (00_scope.md 5.1), a data
phase carries 512 bytes (R37), the response data of the identify commands is empty or the 8 bytes of IDENTIFY (R37), and
a band has at most four plane writes to choose from (R150). Slots, channels, engines and sources are bounded by their
types. -/

namespace Sys2Proof

/-- A thermistor reading (00_scope.md 5.1). -/
def tempOk (t : Int) : Bool := decide (-10 ≤ t) && decide (t ≤ 100)

/-- Whether every operand of the command lies in the range the spec gives it. -/
def Instr.wellFormed : Instr → Bool
  | .resetRelease _ _ tA tB => tempOk tA && tempOk tB
  | .identifyResponse _ _ data _ => data.length == 0 || data.length == 8
  | .dataPhaseComplete _ data check => data.length == 512 && check.length == 2
  | .spoolGrant pick => decide (pick < 4)
  | .panelMotionComplete _ p l => tempOk p && tempOk l
  | .thermistorSample _ t => tempOk t
  | .strobePassDone _ t => tempOk t
  | .powerOnReset | .linkGapExpiry | .unknownRequest | .replyHandover | .frameTransmitDone | .tableRead | .statusRead
  | .eventMask | .goLive | .drain | .resume | .park | .wakeSet | .pathReset | .pathResetEffects | .graceExpiry
  | .serviceKeyAssert | .serviceKeyDeassert | .slotUnbind | .sectorRead | .readCancel | .sectorAttemptStart
  | .orderOpen | .itemAdd | .itemWithdraw | .orderCommit | .orderCancel | .orderResume | .orderRead | .orderRelease
  | .focusSet | .focusClear | .poolApply | .poolPayout | .tallyRead | .tallyClear | .cardAuthorize
  | .cashlessMessageSent | .cashlessGapExpiry | .cashlessStopBitError | .authorizeTimeout | .settlementOpTimeout
  | .lateReleaseTimeout | .bandTake | .regionOpen | .regionClose | .spoolAccessDone | .engineOnline | .engineOffline
  | .engineClear | .mediaSet => true
  | .frameHeaderTaken _ | .frameTaken _ | .linkByteReceived _ | .approved _ | .declined _ | .captured _ | .released _
  | .unknownTerminalMessage _ | .cashlessCheckDiscard _ | .cashlessByteReceived _ => true
  | .tableWrite _ | .channelReset _ | .pulseAssert _ _ | .pulseEnd _ _ | .pulseJam _ | .trainGapExpiry _ => true
  | .debounceExpiry _ | .cardDetectAssert _ | .cardRemoval _ | .settlingExpiry _ | .identifyLimitExpiry _
  | .cardResponseTimeout _ | .busyRetryExpiry _ | .readBlockResponse _ _ _ | .dataPhaseTimeout _ | .readBusyLimit _
  | .stopResponse _ _ _ | .stopBusyLimit _ => true
  | .drawComplete _ | .motionTimeout _ | .sensorFaultCondition _ _ | .ejectComplete _ | .abortEjectComplete _ => true

end Sys2Proof
end

