-- ==== Sys2Proof/Tests/Slice0.lean ====
section
/-! SUPPORT. Tests: the checks of WellFormed, the worked examples of the spec, and for every statement with hypotheses a state
and operands that meet them, clause by clause. -/

set_option Elab.async false

namespace Sys2Proof.Tests

open Sys2Proof.Machine

set_option maxRecDepth 8000

/-! ### Small states -/

/-- The state after reset in another mode. -/
def inMode (m : Mode) : State := { State.reset with svc := { State.reset.svc with mode := m } }

/-- The state after reset in LIVE. -/
def live : State := inMode .live

/-- The state with one request of tag 7 at the head of the control request queue. -/
def ask (s : State) (code : Byte) (args : List Byte) : State :=
  { s with lnk := { s.lnk with ctrl := [{ tag := 7, payload := code :: 0 :: args }] } }

theorem asks (s : State) (code : Byte) (args : List Byte) (h : s.inReset = false := by rfl)
    (h' : s.lnk.handler = .idle := by rfl) : (ask s code args).Asks code 7 args [] :=
  ⟨h, h', 0, rfl⟩

/-- What a next state shows. -/
def after {α : Type} (o : Host.Outcome State Fault Refusal) (f : State → α) : Option α :=
  match o with
  | .next t => some (f t)
  | .fault _ => none
  | .refused _ => none

/-- Status and result of the REPLY that waits. -/
def reply (s : State) : Option (Status × List Byte) :=
  match s.lnk.handler with
  | .serving r _ => some (r.status, r.result)
  | .idle | .resetSending | .resetDue => none

/-- An OPEN order with nothing in it. -/
def order (n : Nat) : Order :=
  { number := n, state := .opened, funding := .perItem, slot := none, locked := none, items := [], total := 0
    cashIn := 0, cardAuth := 0, consumed := 0, cancel := false, change := none, captured := none
    cashless := { state := .none, requested := 0, approved := 0, reason := none, lateSeen := false } }

/-- An item of order record 0, W 4 and L 2, in region 5. -/
def item (st : ItemState) : Item :=
  { order := 0, sequence := 0, code := 5, price := 300, maskA := true, maskB := true, media := 0, finish := .gloss
    tone := 0, copies := 3, copiesDone := 0, width := 4, length := 2, region := 5, received := 0, state := st
    debited := false, reprintUsed := false, engine := none, reason := none }

/-- A read request of one sector. -/
def readReq (uid : Nat) : ReadReq :=
  { uid := uid, tag := 3, first := 0, count := 1, next := 0, produced := 0, owner := 1, preview := false
    cancelPending := false, retried := false }

/-- A frame in transmission. -/
def sending : TxFrame := { cls := 0x82, flags := 0, tag := 0, payload := [], crc := 0 }

/-- The state with the transmitter at work. -/
def busy (s : State) : State := { s with lnk := { s.lnk with tx := some sending } }

/-- A SECTOR frame of request `uid`. -/
def frameOf (uid : Nat) : SectorFrame := endingFrame 0 (readReq uid) .ok

/-- The transmitter at work, a frame on offer and perhaps one in the transfer buffer, so that no frame moves. -/
def waiting (offered : Nat) (buffer : Option Nat) (s : State) : State :=
  { busy s with csu := { s.csu with offered := some (frameOf offered), buffer := buffer.map frameOf } }

/-- A transmitter at work or idle beside an empty reply queue, and the offered position full or empty. -/
def moving (tx offered : Bool) (s : State) : State :=
  { s with
    lnk := { s.lnk with tx := if tx then some sending else none }
    csu := { s.csu with offered := if offered then some (frameOf 9) else none } }

/-- The state with a request served whose REPLY waits. -/
def served (s : State) (h : Handover) : State :=
  { s with lnk := { s.lnk with handler := .serving { tag := 7, code := 0x10, status := .ok, result := [] } h } }

/-- The state with one slot record changed. -/
def slotted (s : State) (i : Fin 4) (f : Slot → Slot) : State := s.withSlot i (f s.csu.slots[i])

/-- The state with a card bus in a phase. -/
def onBus (s : State) (i : Fin 4) (phase : BusPhase) : State :=
  slotted s i fun x => { x with bus := { x.bus with phase := phase } }

/-! ### Ill-formed terms -/

theorem test_resetRelease_cold : (Instr.resetRelease 0 .two (-11) 25).wellFormed = false := by decide
theorem test_resetRelease_hot : (Instr.resetRelease 0 .two 25 101).wellFormed = false := by decide
theorem test_identifyResponse_length : (Instr.identifyResponse 0 0 [0, 0, 0] 0).wellFormed = false := by decide
theorem test_dataPhaseComplete_length : (Instr.dataPhaseComplete 0 [] [0, 0]).wellFormed = false := by decide
theorem test_dataPhaseComplete_check :
    (Instr.dataPhaseComplete 0 (List.replicate 512 0) [0]).wellFormed = false := by decide +kernel
theorem test_spoolGrant_pick : (Instr.spoolGrant 4).wellFormed = false := by decide
theorem test_panelMotion_temp : (Instr.panelMotionComplete .A 20 101).wellFormed = false := by decide
theorem test_thermistor_temp : (Instr.thermistorSample .B (-11)).wellFormed = false := by decide
theorem test_strobe_temp : (Instr.strobePassDone .A 101).wellFormed = false := by decide
theorem test_bounds_wellFormed :
    (Instr.resetRelease 0 .two (-10) 100).wellFormed = true ∧ (Instr.spoolGrant 3).wellFormed = true := by decide

/-! ### Worked examples of the spec -/

/-- R2: the CRC of "123456789". -/
theorem test_crc : crc16 [0x31, 0x32, 0x33, 0x34, 0x35, 0x36, 0x37, 0x38, 0x39] = 0x29B1 := by decide +kernel

/-- 13.5: AUTHORIZE of 1700 for order 410. -/
theorem test_authorize_message :
    CashlessOp.message { kind := .authorize, ref := 410, amount := 1700 }
      = [0xA5, 0x01, 0x06, 0x9A, 0x01, 0xA4, 0x06, 0x00, 0x00, 0x4C] := by decide +kernel

/-- 13.6: the check after power-on reset is 44,586, sent as 0x2A 0xAE. -/
theorem test_goLive_check :
    after (exec .goLive (ask State.reset 0x10 [0x2A, 0xAE])) reply = some (some (.ok, [0x2A, 0xAE])) := by decide +kernel

/-- 5.11: the rows of code 1191 and the three prices. -/
theorem test_pricing :
    productRow 3 1191 = 20 ∧ productRow 0 1191 = 7 ∧
      (let row : ProductRow := { ProductRow.reset with p1 := 350, p2 := 300, p3 := 260, t2 := 5, t3 := 20 }
       [row.itemPrice 4, row.itemPrice 19, row.itemPrice 20] = [1400, 5700, 5200]) := by decide +kernel

/-- 12.5: the temperature factors and the code of one dot (F 944, H 610, S1 587). -/
theorem test_one_dot :
    let q : EngineParams := { tref := 25, kT := 8, kH := 32, budget := 2000, hold := 55, stop := 70 }
    tempFactor q 35 = 944 ∧ tempFactor { q with tref := 20, kT := 20 } 89 = 512
      ∧ tempFactor { q with tref := 40, kT := 15 } (-5) = 1536 ∧ heatHistory [600, 640, 560] 3 1 = 610
      ∧ dotCode (List.replicate 512 720) q .M 35 [600, 640, 560] [0, 9, 0] 3 1 = 587 := by decide +kernel

/-- 12.6: a line over budget is strobed in four groups, group 2 clipped to 1000. -/
theorem test_line_over_budget :
    let codes := [587, 900, 1023, 0, 400, 700, 1023, 650]
    groupCount codes 2000 = 4 ∧ finalCodes codes 2000 = [587, 900, 1000, 0, 400, 700, 1000, 650] := by decide +kernel

/-- 9.9: the colour (200, 120, 40) mixes to 46, 133 and 212. -/
theorem test_one_colour :
    let tone := [280, 65516, 65532, 65520, 272, 65528, 0, 65512, 268]
    mixed tone 0 55 135 215 = 46 ∧ mixed tone 3 55 135 215 = 133 ∧ mixed tone 6 55 135 215 = 212 := by decide +kernel

/-- 9.9: the addresses of dot 1000 of row 700 in planes 0 and 1 of a 16 MiB region. -/
theorem test_dot_address :
    let g : Region := { valid := true, base := 33554432, size := 16, holder := none }
    g.dotAddr 0 700 1920 1000 = 34899432 ∧ g.dotAddr 1 700 1920 1000 = 39093736 := by decide +kernel

/-- 7.10: the train of two pulses of 500 posts 1000 to order 411, the focus at its end. -/
def openTrain : State :=
  { (live.withOrder 0 { order 411 with total := 1500 }) with
    now := 400
    pay := { live.pay with
      table := live.pay.table.set 3
        { enabled := true, group := .bill, value := 500, minWidth := 80, maxWidth := 160, gap := 300 }
      chans := live.pay.chans.set 3 { Channel.reset with train := some { n := 2, value := 500, gapSince := some 350 } }
      focus := some 411, counted := 45000, kept := 42000, pool := 3000 } }

theorem test_train_posts :
    after (exec (.trainGapExpiry 3) openTrain) (fun t =>
      (t.now, t.pay.counted, t.pay.pool, t.ord.orders[0].map (·.cashIn), t.svc.captureSet.has .credit))
      = some (650, 46000, 3000, some 1000, true) := by decide +kernel

/-- 7.11: a coin of 500 on a tally of 4,294,967,000 jams its channel; one of 200 posts. -/
def fullTally (value : Nat) : State :=
  { live with
    now := 100, pins := { live.pins with pulse := live.pins.pulse.set 0 true }
    pay := { live.pay with
      table := live.pay.table.set 0
        { enabled := true, group := .coin, value := value, minWidth := 20, maxWidth := 120, gap := 300 }
      chans := live.pay.chans.set 0 { Channel.reset with pulse := some { since := 40, jammer := false } }
      counted := 4294967000 } }

theorem test_full_tally :
    after (exec (.pulseEnd 0 100) (fullTally 500)) (fun t => (t.pay.chans[0].jammed, t.pay.counted))
        = some (true, 4294967000)
      ∧ after (exec (.pulseEnd 0 100) (fullTally 200)) (fun t => (t.pay.chans[0].jammed, t.pay.counted))
        = some (false, 4294967200) := by decide +kernel

/-- 6.9: an order of 500 in coins and 1240 consumed asks the terminal for 740. -/
theorem test_settlement_capture :
    after (exec .orderCommit (ask (live.withOrder 0
        { order 700 with total := 1240, cashIn := 500, cardAuth := 1000, consumed := 1240 }) 0x31 [0xBC, 0x02]))
      (fun t => (t.clc.outstanding.map (·.op), t.ord.orders[0].map (·.state)))
      = some (some { kind := .capture, ref := 700, amount := 740 }, some .settling) := by decide +kernel

/-- 6.10: an order of 600 in cash and 480 consumed closes with kept raised by 480 and the pool by 120. -/
theorem test_settlement_change :
    after (exec .orderCommit (ask { live.withOrder 0 { order 701 with total := 480, cashIn := 600, consumed := 480 } with
        pay := { live.pay with counted := 10600, kept := 8000, pool := 2000 } } 0x31 [0xBD, 0x02]))
      (fun t => (t.pay.counted, t.pay.kept, t.pay.pool, t.ord.orders[0].map (·.state)))
      = some (10600, 8480, 2120, some .closed) := by decide +kernel

/-- 10.6: three regions, and the answers to two requests that would overlap and one misaligned. -/
def threeRegions (args : List Byte) : State :=
  let first := live.spl.regions.set 0 { valid := true, base := 0, size := 64, holder := some 2 }
  let second := first.set 1 { valid := true, base := 67108864, size := 16, holder := none }
  let third := second.set 2 { valid := true, base := 83886080, size := 16, holder := some 5 }
  ask { live with spl := { live.spl with regions := third } } 0x50 args

theorem test_region_open :
    after (exec .regionOpen (threeRegions ([3, 8, 0, 0] ++ le4 75497472))) reply = some (some (.overlap, [1]))
      ∧ after (exec .regionOpen (threeRegions ([3, 32, 0, 0] ++ le4 67108864))) reply = some (some (.overlap, [1]))
      ∧ after (exec .regionOpen (threeRegions ([3, 16, 0, 0] ++ le4 75497472))) reply = some (some (.misaligned, []))
      ∧ after (exec .regionOpen (threeRegions ([3, 4, 0, 0] ++ le4 268435456))) reply = some (some (.outOfRange, [])) := by
  decide +kernel

/-- 8.9: the terminal approves 1800 of 2500. -/
theorem test_partial_approval :
    after (exec (.approved (sum8 (0x81 :: 6 :: (le2 531 ++ le4 1800))))
      { live.withOrder 0 { order 531 with
          state := .committed, funding := .prepay, total := 3000, cashIn := 500
          cashless := { (order 531).cashless with state := .pending, requested := 2500 } } with
        clc := { live.clc with
          outstanding := some { op := { kind := .authorize, ref := 531, amount := 2500 }, timer := some 60000 }
          rx := { state := .sum, bytes := 0x81 :: 6 :: (le2 531 ++ le4 1800), gap := some 50 } } })
      (fun t => t.ord.orders[0].map fun o => (o.cardAuth, o.cashless.approved, o.due))
      = some (some (1800, 1800, 700)) := by decide +kernel

/-- R153: the completion of an access beyond the spool stops. -/
theorem test_spool_fault :
    let s : State := { live with spl := { live.spl with
      port := some { who := .intake, addr := 268435455, len := 2, bytes := [1, 2], live := true } } }
    ∃ r, exec .spoolAccessDone s = .fault r := ⟨.spoolAddress, rfl⟩

/-- R191: bit 0 is CARD_IN and bit 26 is WAKE. -/
theorem test_capture_bits : CaptureKind.cardIn.index = 0 ∧ CaptureKind.wake.index = 26 := by decide

/-! ### Witnesses: states and operands that meet the hypotheses of the statements, clause by clause -/

theorem witness_StepCarriesOutTheFrontCommand :
    ({ State.reset with pending := [.drain] } : State).pending = Instr.drain :: [] ∧ State.reset.pending = [] :=
  ⟨rfl, rfl⟩

/-- RESETN low, with one card detect line and one pulse line asserted. -/
def held : State :=
  { State.reset with
    inReset := true
    pins := { State.reset.pins with detect := State.reset.pins.detect.set 3 true, pulse := State.reset.pins.pulse.set 5 true } }

theorem witness_ResetReleaseLatchesTheStrap :
    held.inReset = true ∧ held.svc.mode = .setup ∧ (∀ i : Fin 4, held.csu.slots[i].state = .empty)
      ∧ held.pins.detect[3] = true ∧ held.pins.detect[0] = false ∧ held.pins.pulse[5] = true ∧ held.pins.pulse[0] = false := by
  decide +kernel

/-- The assembler in a state with `n` header bytes of zero and a payload length. -/
def assembled (st : AsmState) (saw : Bool) (bytes : List Byte) (gap : Timer) : State :=
  State.reset.assembling { state := st, sawStart := saw, bytes := bytes, gap := gap }

theorem witness_LinkBytesAreAssembled :
    let hunting := assembled .hunt true [] (some 5)
    let six (n : Nat) : List Byte := [1, 0, 7, 0] ++ le2 n
    (hunting.inReset = false ∧ hunting.lnk.asm.state = .hunt ∧ hunting.lnk.asm.sawStart = true ∧ hunting.lnk.asm.gap ≠ none)
      ∧ (assembled .header false [1, 0, 7, 0] (some 5)).lnk.asm.bytes.length < 5
      ∧ (assembled .header false [1, 0, 7, 0, 0] (some 5)).lnk.asm.bytes.length = 5
      ∧ u16 (six 0) 4 = 0 ∧ u16 (six 4096) 4 = 4096 ∧ u16 (six 4097) 4 = 4097
      ∧ (six 2).length + 1 < 6 + u16 (six 2) 4 ∧ (six 1).length + 1 = 6 + u16 (six 1) 4
      ∧ (assembled .check false (six 0) (some 5)).lnk.asm.bytes.length = 6 + u16 (six 0) 4 := by
  decide +kernel

/-- A frame of two payload bytes with a class. -/
def frame (cls : Byte) : List Byte := [cls, 0, 7, 0, 2, 0, 0x41, 0]

/-- The second CRC byte of a frame. -/
def lastByte (f : List Byte) : Byte := byte ((crc16 f).toNat / 256)

/-- All of a frame but its last byte, in a mode, with `n` requests and `r` replies and `b` bands held. -/
def framed (m : Mode) (f : List Byte) (n r b : Nat) : State :=
  let s := busy (inMode m)
  { s with
    lnk := { s.lnk with
      asm := { state := .check, sawStart := false, bytes := f ++ [byte (crc16 f).toNat], gap := some 5 }
      ctrl := List.replicate n { tag := 1, payload := [0x03, 0, 0] }
      replies := List.replicate r { tag := 1, code := 0x03, status := .ok, result := [] } }
    rin := { s.rin with queue := List.replicate b [] } }

theorem framed_meets (m : Mode) (c : Byte) (n r b : Nat) :
    (framed m (frame c) n r b).Framed (frame c) (byte (crc16 (frame c)).toNat) := ⟨rfl, rfl, rfl, rfl⟩

theorem witness_CtrlFramesAreOffered :
    (crc16 (frame 1)).toNat = (byte (crc16 (frame 1)).toNat).toNat + 256 * (lastByte (frame 1)).toNat
      ∧ (frame 1).head? = some 0x01 ∧ (framed .parkPending (frame 1) 15 0 0).svc.mode.dark = false
      ∧ (framed .live (frame 1) 15 0 0).lnk.ctrl.length < 16 ∧ (framed .live (frame 1) 16 7 0).lnk.ctrl.length = 16
      ∧ (framed .live (frame 1) 16 7 0).lnk.replies.length < 8 ∧ (framed .live (frame 1) 16 8 0).lnk.replies.length = 8
      ∧ (framed .live (frame 1) 16 7 0).lnk.tx ≠ none
      ∧ (moving false false (framed .live (frame 1) 16 0 0)).lnk.tx = none := by
  decide +kernel

theorem witness_BandFramesAndBadFrames :
    (crc16 (frame 2)).toNat = (byte (crc16 (frame 2)).toNat).toNat + 256 * (lastByte (frame 2)).toNat
      ∧ (frame 2).head? = some 0x02 ∧ (framed .setup (frame 2) 0 0 3).rin.queue.length < 4
      ∧ (framed .setup (frame 2) 0 0 4).rin.queue.length = 4
      ∧ (crc16 (frame 3)).toNat = (byte (crc16 (frame 3)).toNat).toNat + 256 * (lastByte (frame 3)).toNat
      ∧ (frame 3).head? ≠ some 0x01 ∧ (frame 3).head? ≠ some 0x02
      ∧ ¬ (crc16 (frame 2)).toNat = (byte (crc16 (frame 2)).toNat).toNat + 256 * (lastByte (frame 2) + 1).toNat := by
  decide +kernel

theorem witness_RepliesAreHandedOver :
    let s := served (framed .setup [] 0 7 0) .goLive
    let full := served (framed .setup [] 0 8 0) .park
    s.inReset = false ∧ s.lnk.replies.length < 8 ∧ s.lnk.tx ≠ none ∧ 8 ≤ full.lnk.replies.length
      ∧ (∀ h, ∃ r, (served (busy live) h).lnk.handler = .serving r h)
      ∧ ((served live .plain).lnk.tx = none ∧ (served live .plain).lnk.replies = []) :=
  ⟨rfl, by decide, by decide, by decide, fun _ => ⟨_, rfl⟩, rfl, rfl⟩

/-- R11: an idle transmitter takes a REPLY, and a SECTOR frame, at the moment it becomes ready. -/
theorem test_idle_transmitter :
    after (exec .replyHandover (served live .plain)) (fun t => (t.lnk.tx.map (·.cls), t.lnk.replies)) = some (some 0x81, [])
      ∧ (let s := slotted live 2 fun x => { x with state := .bound, bound := some 1, queue := [readReq 0, readReq 1] }
        after (exec .readCancel (ask s 0x22 [2, 0, 3, 0])) (fun t => (t.lnk.tx.map (·.cls), t.csu.offered, t.csu.endings))
          = some (some 0x82, none, [])) := by
  decide +kernel

theorem witness_TransmitterChoosesTheNextFrame :
    let s := framed .live [] 0 1 0
    let offering : State := waiting 9 none live
    let ended (s : State) : State := { s with csu := { s.csu with endings := [frameOf 4] } }
    s.inReset = false ∧ s.lnk.tx = some sending
      ∧ s.lnk.replies = [{ tag := 1, code := 0x03, status := .ok, result := [] }]
      ∧ (s.csu.offered = none ∧ s.csu.endings = [] ∧ s.csu.buffer = none)
      ∧ ((ended s).csu.offered = none ∧ (ended s).csu.endings = frameOf 4 :: [])
      ∧ (offering.lnk.replies = [] ∧ offering.csu.offered = some (frameOf 9) ∧ offering.csu.endings = []
        ∧ (ended offering).csu.endings = frameOf 4 :: [])
      ∧ (busy live).lnk.replies = [] := ⟨rfl, rfl, rfl, ⟨rfl, rfl, rfl⟩, ⟨rfl, rfl⟩, ⟨rfl, rfl, rfl, rfl⟩, rfl⟩

theorem witness_StatusReadClearsWhatItReported :
    ((ask live 0x03 [1]).Asks 0x03 7 [1] [] ∧ (ask live 0x03 [2]).Asks 0x03 7 [2] [] ∧ live.svc.mode.serving = true)
      ∧ (let s : State := { served (busy live) (.status true) with svc := { live.svc with snapshot := some 5 } }
        s.inReset = false ∧ (∃ r, s.lnk.handler = .serving r (.status true)) ∧ s.lnk.replies.length < 8
          ∧ s.svc.snapshot = some 5) :=
  ⟨⟨asks _ _ _, asks _ _ _, rfl⟩, rfl, ⟨_, rfl⟩, by decide, rfl⟩

theorem witness_EventMaskReplacesTheMask :
    (ask live 0x04 [255, 255, 255, 7]).Asks 0x04 7 [255, 255, 255, 7] [] ∧ live.svc.mode.serving = true
      ∧ u32 [255, 255, 255, 7] 0 < 134217728 ∧ (ask live 0x04 [0, 0, 0, 8]).Asks 0x04 7 [0, 0, 0, 8] []
      ∧ 134217728 ≤ u32 [0, 0, 0, 8] 0 := ⟨asks _ _ _, rfl, by decide, asks _ _ _, by decide⟩

/-- TABLE_WRITE of the last two energy words of engine B, and of the last channel entry. -/
def channelBytes : List Byte := [1, 1] ++ le2 500 ++ le2 5 ++ le2 500 ++ le2 1000

theorem witness_TableWriteReplacesTheEntries :
    (State.reset.tablesSized ∧ State.reset.svc.mode.serving = true)
      ∧ ((ask State.reset 0x01 (4 :: 1 :: (le2 1022 ++ le2 2 ++ (le2 1023 ++ le2 0)))).Asks 0x01 7
          (4 :: 1 :: (le2 1022 ++ le2 2 ++ (le2 1023 ++ le2 0))) []
        ∧ tableArg 4 1 = some (.energy .B) ∧ (le2 1023 ++ le2 0).length = 2 * (TableId.energy .B).entrySize
        ∧ 1022 + 2 ≤ (TableId.energy .B).entries ∧ State.reset.engB.state ∉ [EngineState.loading, .panel, .heatHold, .ejecting]
        ∧ ∀ j, j < 2 → entryRule (.energy .B) (1022 + j) (entryBytes (.energy .B) (le2 1023 ++ le2 0) j))
      ∧ ((ask State.reset 0x01 (6 :: 0 :: (le2 5 ++ le2 1 ++ channelBytes))).Asks 0x01 7
          (6 :: 0 :: (le2 5 ++ le2 1 ++ channelBytes)) []
        ∧ tableArg 6 0 = some .channels ∧ channelBytes.length = 1 * TableId.channels.entrySize
        ∧ 5 + 1 ≤ TableId.channels.entries ∧ (∀ j, j < 1 → entryRule .channels (5 + j) (entryBytes .channels channelBytes j))
        ∧ ∀ c : Fin 6, State.reset.pay.chans[c].pulse = none ∧ State.reset.pay.chans[c].train = none) :=
  ⟨⟨⟨by decide +kernel, fun e => by cases e <;> decide +kernel⟩, rfl⟩,
    ⟨asks _ _ _, rfl, rfl, by decide, by decide, by unfold entryRule; decide +kernel⟩,
    ⟨asks _ _ _, rfl, rfl, by decide, by unfold entryRule; decide +kernel, by decide +kernel⟩⟩

/-- A product row with a field of R68 out of its range; a tone word is in use while an item that names its set receives. -/
theorem witness_TableWriteRefuses :
    let row (t2 t3 mask finish tone : Byte) : List Byte := [1, 0, 0, 0, 0, 0, 0, 0, t2, t3, mask, 15, finish, tone, 0, 0]
    let toned := live.withItem 5 (item .receiving)
    (entryRule .product 0 (row 2 100 3 2 3) ∧ ¬ entryRule .product 0 (row 1 100 3 2 3) ∧ ¬ entryRule .product 0 (row 2 101 3 2 3)
        ∧ ¬ entryRule .product 0 (row 2 100 4 2 3) ∧ ¬ entryRule .product 0 (row 2 100 3 3 3)
        ∧ ¬ entryRule .product 0 (row 2 100 3 2 4) ∧ ¬ entryRule .priceKey 0 [8, 0])
      ∧ (entryRule (.tone 0) 8 (le2 65024) ∧ ¬ entryRule (.tone 0) 8 (le2 512) ∧ ¬ entryRule (.tone 0) 9 (le2 256)
        ∧ ¬ entryRule (.energy .A) 0 (le2 1024))
      ∧ (toned.ord.items[(5 : Fin 64)] = some (item .receiving) ∧ (item .receiving).tone = 0)
      ∧ ((ask toned 0x01 (3 :: 0 :: (le2 0 ++ le2 1 ++ le2 511))).Asks 0x01 7 (3 :: 0 :: (le2 0 ++ le2 1 ++ le2 511)) []
        ∧ tableArg 3 4 = none ∧ tableArg 3 0 = some (.tone 0) ∧ (TableId.tone 0).entries < 776 + 2) := by
  refine ⟨?_, ?_, ?_, asks _ _ _, ?_⟩
  · unfold entryRule; decide +kernel
  · unfold entryRule; decide +kernel
  · decide +kernel
  · decide +kernel

theorem witness_TableReadAnswersTheEntries :
    live.svc.mode.serving = true ∧ (ask live 0x02 (4 :: 0 :: (le2 0 ++ le2 1024))).Asks 0x02 7 (4 :: 0 :: (le2 0 ++ le2 1024)) []
      ∧ (ask live 0x02 (7 :: 0 :: (le2 65535 ++ le2 65535))).Asks 0x02 7 (7 :: 0 :: (le2 65535 ++ le2 65535)) [] :=
  ⟨rfl, asks _ _ _, asks _ _ _⟩

theorem witness_ModesRefuseRequests :
    ((ask State.reset 0x30 [1, 0, 0, 255]).Asks 0x30 7 [1, 0, 0, 255] [] ∧ State.reset.svc.mode = .setup)
      ∧ (ask State.reset 0x13 []).Asks 0x13 7 [] [] ∧ (ask live 0x10 [0, 0]).Asks 0x10 7 [0, 0] [] ∧ live.svc.mode = .live
      ∧ (ask (inMode .drain) 0x11 []).Asks 0x11 7 [] [] ∧ (inMode .drain).svc.mode = .drain
      ∧ (ask (inMode .drain) 0x30 [1, 0, 0, 255]).Asks 0x30 7 [1, 0, 0, 255] [] :=
  ⟨⟨asks _ _ _, rfl⟩, asks _ _ _, asks _ _ _, rfl, asks _ _ _, rfl, asks _ _ _⟩

/-- A request of one byte. -/
def shortRequest : State := { live with lnk := { live.lnk with ctrl := [{ tag := 7, payload := [0x11] }] } }

theorem witness_IllFormedRequestsAreAnswered :
    (0x47 : Byte) ∉ requestCodes ∧ live.svc.mode.serving = true ∧ (ask live 0x47 []).lnk.handler = .idle
      ∧ (ask live 0x47 []).lnk.ctrl = [{ tag := 7, payload := [0x47, 0] }]
      ∧ (Instr.drain, 0x11, 0) ∈ requestRows 0 ∧ (ask live 0x11 [0]).Asks 0x11 7 [0] []
      ∧ (ask live 0x01 [1, 0, 0, 0, 1]).Asks 0x01 7 [1, 0, 0, 0, 1] [] ∧ [1, 0, 0, 0, 1].length < 6
      ∧ (shortRequest.lnk.handler = .idle ∧ shortRequest.lnk.ctrl = [{ tag := 7, payload := [0x11] }]) :=
  ⟨by decide, rfl, rfl, rfl, by decide, asks _ _ _, asks _ _ _, by decide, rfl, rfl⟩

theorem witness_RequestsWaitForTheHandler :
    (Instr.drain, 0x11, 0) ∈ requestRows 0 ∧ (ask (inMode .parkPending) 0x11 []).Asks 0x11 7 [] []
      ∧ (inMode .parkPending).svc.mode = .parkPending ∧ (served live .plain).lnk.handler ≠ .idle
      ∧ (inMode .waking).svc.mode.dark = true
      ∧ ∀ e ∈ (ask live 0x12 []).lnk.ctrl.head?, e.payload.head? ≠ some 0x11 :=
  ⟨by decide, asks _ _ _, rfl, by decide, rfl, by decide⟩

theorem witness_ModeRequestsAreAccepted :
    ((ask State.reset 0x10 [0x2A, 0xAE]).Asks 0x10 7 [0x2A, 0xAE] [] ∧ State.reset.svc.mode = .setup)
      ∧ (ask live 0x11 []).Asks 0x11 7 [] [] ∧ (ask (inMode .drain) 0x12 []).Asks 0x12 7 [] []
      ∧ (ask live 0x15 []).Asks 0x15 7 [] [] ∧ live.svc.mode.serving = true
      ∧ ∃ s : State, s.inReset = false ∧ s.lnk.handler = .resetDue ∧ s.lnk.ctrl ≠ [] ∧ s.svc.mode = .live :=
  ⟨⟨asks _ _ _, rfl⟩, asks _ _ _, asks _ _ _, asks _ _ _, rfl,
    { ask live 0x15 [] with lnk := { (ask live 0x15 []).lnk with handler := .resetDue } }, rfl, rfl, by decide, rfl⟩

/-- DRAIN with two sets of wake flags. -/
def draining (request enable : WakeSet) : State :=
  { inMode .drain with svc := { (inMode .drain).svc with request := request, enable := enable } }

theorem witness_ParkChecksTheWork :
    ((ask (draining 0 0) 0x13 []).Asks 0x13 7 [] [] ∧ (draining 0 0).svc.mode = .drain)
      ∧ ((draining 0 0).withOrder 31 (order 9)).ord.orders[31] = some (order 9) ∧ (order 9).state = .opened
      ∧ (draining 0 0).noOrderWorks = true ∧ (draining 0 0).noItemPrints = true ∧ (draining 0 0).clc.queue = []
      ∧ (draining 0 0).clc.outstanding = none ∧ (∀ i : Fin 4, (draining 0 0).csu.slots[i].queue = [])
      ∧ ((draining 32 32).svc.request.getLsbD 5 = true ∧ (draining 32 32).svc.enable.getLsbD 5 = true) :=
  ⟨⟨asks _ _ _, rfl⟩, by decide +kernel⟩

theorem witness_WakeSetReplacesTheFlags :
    (ask live 0x14 [63, 63]).Asks 0x14 7 [63, 63] [] ∧ (ask live 0x14 [64, 0]).Asks 0x14 7 [64, 0] []
      ∧ (ask live 0x14 [0, 64]).Asks 0x14 7 [0, 64] [] ∧ live.svc.mode.serving = true :=
  ⟨asks _ _ _, asks _ _ _, asks _ _ _, rfl⟩

/-- A mode with the service key's level, its enable flag set and, perhaps, its debounce running. -/
def keyed (m : Mode) (level : Bool) (timer : Timer) : State :=
  let s := inMode m
  { s with pins := { s.pins with key := level }, svc := { s.svc with enable := 32, debounce := s.svc.debounce.set 4 timer } }

theorem witness_ServiceKeyAsksToWake :
    (∀ m, (keyed m false none).inReset = false ∧ (keyed m false none).pins.key = false
        ∧ (keyed m false none).svc.enable.getLsbD 5 = true ∧ (keyed m false none).svc.request.getLsbD 5 = false
        ∧ (keyed m false none).svc.mode = m)
      ∧ Mode.drain.serving = true ∧ Mode.parked.dark = true
      ∧ (keyed .waking true (some 250)).pins.key = true ∧ (keyed .waking true (some 250)).svc.debounce[4] ≠ none :=
  ⟨fun m => by cases m <;> decide +kernel, rfl, rfl, rfl, by decide +kernel⟩

theorem witness_HeldLinesAndFramesWake :
    ((keyed .waking true (some 250)).inReset = false ∧ (keyed .waking true (some 250)).svc.mode = .waking
        ∧ (keyed .waking true (some 250)).svc.debounce[4] ≠ none
        ∧ debouncePin (keyed .waking true (some 250)) 4 = true
        ∧ (∀ e ∈ [EngineId.A, .B], ((keyed .waking true (some 250)).eng e).queue = [])
        ∧ (keyed .waking true (some 250)).ord.release = [])
      ∧ (frame 1).head? = some 0x01 ∧ (framed .parked (frame 1) 15 0 0).svc.mode.dark = true
      ∧ (framed .parked (frame 1) 15 0 0).lnk.ctrl.length < 16 := by
  decide +kernel

/-- PARK_PENDING with its grace running. -/
def pending : State := { inMode .parkPending with svc := { (inMode .parkPending).svc with grace := some 10000 } }

theorem witness_GraceEndsInParkedOrDrain :
    pending.inReset = false ∧ pending.svc.mode = .parkPending ∧ pending.svc.grace ≠ none ∧ pending.mayPark = true
      ∧ pending.svc.request &&& pending.svc.enable = 0 ∧ (pending.withOrder 0 (order 1)).mayPark = false
      ∧ (slotted pending 1 fun x => { x with state := .identifying, resume := some .bound }).mayPark = true := by
  decide +kernel

/-- PATH_RESET due or its REPLY leaving, beside an order with the focus and an operation under way. -/
def resetting (h : Handler) (tx : Option TxFrame) (o : Order) (door : Bool) : State :=
  let s := (live.withOrder 0 o).withItem 5 (item .queued)
  { s with
    lnk := { s.lnk with handler := h, tx := tx }
    pins := { s.pins with sensorsB := { Sensors.clear with doorOpen := door } }
    engA := { s.engA with state := .panel, panel := some .Y }, engB := { s.engB with state := .needsMedia }
    pay := { s.pay with focus := some 1 }
    clc := { s.clc with outstanding := some { op := { kind := .authorize, ref := 1, amount := 4 }, timer := none } } }

/-- The REPLY to PATH_RESET, leaving. -/
def resetReply : TxFrame := { sending with cls := 0x81, payload := [0x15, 0x00] }

theorem witness_PathResetEmptiesTheQueues :
    let s (o : Order) (door : Bool) := resetting .resetDue none o door
    let cancelled : Order := { order 1 with cancel := true }
    let settles (o : Order) : Prop := (o.state = .opened ∨ o.state = .committed) ∧ o.cancel = true ∧ o.cashless.state ≠ .pending
    (∀ door, (s (order 1) door).inReset = false ∧ (s (order 1) door).lnk.handler = .resetDue
        ∧ (s (order 1) door).lnk.replies = [])
      ∧ ((resetting .resetSending (some resetReply) (order 1) false).lnk.handler = .resetSending
        ∧ (resetReply.cls == 0x81 && resetReply.payload == [0x15, 0x00]) = true)
      ∧ ((resetting .resetSending (some sending) (order 1) false).lnk.handler ≠ .resetDue
        ∧ (sending.cls == 0x81 && sending.payload == [0x15, 0x00]) = false)
      ∧ (∀ k : Fin 32, ∀ o ∈ (s (order 1) true).ord.orders[k], k = 0 ∧ ¬ settles o ∧ o.cancel = false ∧ o.number = 1)
      ∧ (settles cancelled ∧ cancelled.cardAuth = 0 ∧ settles { cancelled with cardAuth := 9 }
        ∧ ¬ settles { cancelled with cashless := { cancelled.cashless with state := .pending } }
        ∧ ¬ settles { cancelled with state := .halted })
      ∧ (((s (order 1) false).eng .A).state.printing = true ∧ ((s (order 1) false).eng .B).state = .needsMedia
        ∧ ((s (order 1) false).toPart.sensors .B).condition = none
        ∧ ((s (order 1) true).toPart.sensors .B).condition = some .doorOpen)
      ∧ ((s (order 1) false).pay.focus = some 1 ∧ (s (order 1) false).clc.outstanding ≠ none ∧ live.ord.waiting = []
        ∧ live.pay.focus = none ∧ (item .queued).order = 0 ∧ (item .queued).state.terminal = false) := by
  decide +kernel

/-- A mode with every wake source enabled, and slot 0 and channel 0 in a state. -/
def watched (m : Mode) (detect : Bool) (slot : SlotState) (timer : Timer) : State :=
  let s := slotted (inMode m) 0 fun x => { x with state := slot }
  { s with
    now := 100
    pins := { s.pins with detect := s.pins.detect.set 0 detect, pulse := s.pins.pulse.set 0 true }
    svc := { s.svc with enable := 63, debounce := s.svc.debounce.set 0 timer }
    pay := { s.pay with
      table := s.pay.table.set 0
        { enabled := true, group := .coin, value := 100, minWidth := 20, maxWidth := 120, gap := 300 }
      chans := s.pay.chans.set 0 { Channel.reset with pulse := some { since := 40, jammer := false } } } }

/-- The mode after a command. -/
def modeAfter (c : Instr) (s : State) : Option Mode := after (exec c s) (·.svc.mode)

theorem witness_ModeChangesOnlyAsListed :
    modeAfter .powerOnReset live = some .setup
      ∧ modeAfter .replyHandover (served State.reset .goLive) = some .live
      ∧ modeAfter .replyHandover (served (inMode .drain) .park) = some .parkPending
      ∧ modeAfter (.frameTaken (lastByte (frame 1))) (framed .parkPending (frame 1) 0 0 0) = some .drain
      ∧ modeAfter (.frameTaken (lastByte (frame 1))) (framed .parked (frame 1) 0 0 0) = some .live
      ∧ modeAfter .graceExpiry pending = some .parked
      ∧ modeAfter .serviceKeyAssert (keyed .parked false none) = some .waking
      ∧ modeAfter .serviceKeyDeassert (keyed .waking true (some 250)) = some .parked
      ∧ modeAfter (.debounceExpiry 4) (keyed .waking true (some 250)) = some .live
      ∧ modeAfter .pathResetEffects { live with lnk := { live.lnk with handler := .resetDue } } = some .setup
      ∧ modeAfter (.cardDetectAssert 0) (watched .parked false .empty none) = some .waking
      ∧ modeAfter (.resetRelease 0 .two 25 25) { watched .parked true .empty none with inReset := true } = some .waking
      ∧ modeAfter (.cardRemoval 0) (watched .waking true .ready (some 250)) = some .parked
      ∧ modeAfter (.pulseEnd 0 100) (watched .parked false .empty none) = some .live
      ∧ modeAfter .unknownRequest (ask (inMode .parkPending) 0x47 []) = some .drain
      ∧ modeAfter .tallyRead (ask (inMode .parkPending) 0x45 []) = some .drain := by
  decide +kernel

theorem witness_CardInsertionSettles :
    (watched .live false .empty none).inReset = false ∧ (watched .live false .empty none).pins.detect[(0 : Fin 4)] = false
      ∧ (watched .live false .empty none).csu.slots[(0 : Fin 4)].state = .empty
      ∧ (watched .live false .empty none).svc.mode.serving = true
      ∧ (∀ m ∈ [Mode.parkPending, .parked, .waking], (watched m false .empty none).svc.mode = m
        ∧ (watched m false .empty none).csu.slots[(0 : Fin 4)].state = .empty
        ∧ (watched m false .empty none).svc.enable.getLsbD 0 = true
        ∧ (watched m false .empty none).svc.request.getLsbD 0 = false)
      ∧ (Mode.parked.dark = true ∧ Mode.waking.dark = true ∧ (inMode .parked).svc.enable.getLsbD 0 = false
        ∧ (inMode .parked).csu.slots[(0 : Fin 4)].state = .empty)
      ∧ (watched .live false .absentBound none).csu.slots[(0 : Fin 4)].state = .absentBound := by
  decide +kernel

/-- Slot 3 with two requests and a turn on it. -/
def reading (f : Slot → Slot) : State :=
  let s := slotted live 3 fun x => f { x with
    state := .bound, identity := some { serial := 9, capacity := 100 }, bound := some 1
    queue := [readReq 0, readReq 1] }
  waiting 9 none { s with
    pins := { s.pins with detect := s.pins.detect.set 3 true }
    csu := { s.csu with turn := some { slot := 3, count := 7 } } }

theorem reading_slotApart (o : Order) (h : o.slot = some 3) : (reading id).slotApart o := by
  intro i hi
  obtain rfl : i = 3 := Option.some.inj (hi.symm.trans h)
  refine ⟨by decide, fun r rest hr => ?_⟩
  cases hr
  decide

/-- `reading` in WAKING, with the debounces of slot 3 and perhaps of slot 0 running. -/
def wakingReader (other : Timer) : State :=
  let s := reading id
  { s with svc := { s.svc with mode := .waking, debounce := (s.svc.debounce.set 3 (some 250)).set 0 other } }

theorem witness_CardRemovalEndsTheReads :
    ((reading id).inReset = false ∧ (reading id).pins.detect[(3 : Fin 4)] = true
        ∧ (reading id).csu.slots[(3 : Fin 4)].state.cardPresent = true ∧ (reading id).svc.mode ≠ .waking)
      ∧ ((wakingReader none).svc.mode = .waking ∧ (wakingReader none).svc.debounce[(3 : Fin 4).val] ≠ none
        ∧ (¬ ∃ j : Fin 5, j.val ≠ 3 ∧ (wakingReader none).svc.debounce[j] ≠ none)
        ∧ ∃ j : Fin 5, j.val ≠ 3 ∧ (wakingReader (some 9)).svc.debounce[j] ≠ none) := by
  decide +kernel

/-- Slot 1 in an identify. -/
def identifying (phase : BusPhase) (read : Option Identity) (f : Slot → Slot) : State :=
  onBus (slotted live 1 fun x => f { x with state := .identifying, identify := some { limit := some 1000, read := read } }) 1 phase

/-- Slot 1 in SETTLING with its line asserted. -/
def settled : State :=
  slotted { live with pins := { live.pins with detect := live.pins.detect.set 1 true } } 1 fun x =>
    { x with state := .settling, settling := some 250 }

theorem witness_IdentifySequence :
    (settled.inReset = false ∧ settled.csu.slots[(1 : Fin 4)].state = .settling
        ∧ settled.csu.slots[(1 : Fin 4)].settling ≠ none ∧ settled.pins.detect[(1 : Fin 4)] = true)
      ∧ (identifying (.awaiting .resetCard 0) none id).csu.slots[(1 : Fin 4)].bus.phase = .awaiting .resetCard 0
      ∧ ((identifying (.awaiting .identify 0) none id).csu.slots[(1 : Fin 4)].bus.phase = .awaiting .identify 0
        ∧ (identifying (.awaiting .identify 0) none id).csu.slots[(1 : Fin 4)].identify = some { limit := some 1000, read := none }
        ∧ ([1, 2, 3, 4, 0, 0, 0, 0] : List Byte).length = 8)
      ∧ (identifying (.retryWait .select 9) none id).csu.slots[(1 : Fin 4)].bus.phase = .retryWait .select 9
      ∧ (identifying (.awaiting .select 9) none id).csu.slots[(1 : Fin 4)].state = .identifying
      ∧ (0x02 : Byte) ≠ 0x00 ∧ (0x02 : Byte) ≠ 0x01 := by
  decide +kernel

/-- The card that the identifies of the next witness read. -/
def card : Identity := { serial := 9, capacity := 100 }

/-- SELECT awaits its response, with a resume state, an identity and a binding. -/
def selecting (resume : Option ResumeState) (identity : Option Identity) (bound : Option Nat) : State :=
  let s := identifying (.awaiting .select 9) (some card) fun x => { x with resume := resume, identity := identity, bound := bound }
  s.withOrder 0 { order 5 with slot := some 1, locked := some card }

theorem witness_IdentifyOutcomes :
    (∀ s ∈ [selecting (some .ready) (some card) none, selecting (some .bound) (some card) (some 5),
        selecting (some .foreign) (some card) (some 5), selecting (some .bound) (some card) none,
        selecting none none none, selecting none none (some 5), selecting none none (some 6)],
      s.inReset = false ∧ s.csu.slots[(1 : Fin 4)].bus.phase = .awaiting .select 9
        ∧ s.csu.slots[(1 : Fin 4)].identify = some { limit := some 1000, read := some card })
      ∧ (selecting none none (some 5)).toPart.lockedOf (some 5) = some card
      ∧ (selecting none none (some 6)).toPart.lockedOf (some 6) ≠ some card := by
  decide +kernel

/-- Slot 3 bound to order 5 in record 31, in an order state. -/
def boundTo (st : OrderState) : State :=
  (reading fun x => { x with bound := some 5 }).withOrder 31 { order 5 with state := st, slot := some 3 }

theorem witness_SlotUnbindFreesTheSlot :
    (ask (boundTo .halted) 0x20 [3]).Asks 0x20 7 [3] [] ∧ (boundTo .halted).svc.mode.serving = true
      ∧ (boundTo .halted).csu.slots[(3 : Fin 4)].bound = some 5 ∧ (boundTo .halted).toPart.orderIdx 5 = some 31
      ∧ ((boundTo .halted).ord.orders[(31 : Fin 32)].map fun o => (o.state, o.slot)) = some (.halted, some 3)
      ∧ ((boundTo .opened).ord.orders[(31 : Fin 32)].map (·.state)) = some .opened
      ∧ (ask live 0x20 [4]).Asks 0x20 7 [4] [] ∧ live.csu.slots[(3 : Fin 4)].bound = none
      ∧ (∀ r ∈ (boundTo .halted).csu.slots[(3 : Fin 4)].queue, r.preview = false)
      ∧ (boundTo .halted).csu.slots[(3 : Fin 4)].queue = readReq 0 :: [readReq 1] ∧ ∀ q ∈ [readReq 1], q.uid ≠ 0 := by
  refine ⟨asks _ _ _, rfl, rfl, ?_, ?_, ?_, asks _ _ _, ?_, ?_⟩ <;> decide +kernel

/-- SECTOR_READ of `count` sectors from `first` at slot 3. -/
def readArgs (first count : Nat) : List Byte := [3, 0] ++ le4 first ++ le2 count

/-- Slot 3 READY with an allowance. -/
def allowed (allowance : Nat) (occupied : Nat) : State :=
  slotted live 3 fun x => { x with
    state := .ready, identity := some card, allowance := allowance
    queue := (List.range occupied).map readReq }

theorem witness_SectorReadJoinsTheQueue :
    ((ask (allowed 2 7) 0x21 (readArgs 98 2)).Asks 0x21 7 (readArgs 98 2) [] ∧ (readArgs 98 2).length = 8
        ∧ (allowed 2 7).svc.mode.trading = true)
      ∧ (u8 (readArgs 98 2) 0 = 3 ∧ u32 (readArgs 98 2) 2 = 98 ∧ u16 (readArgs 98 2) 6 = 2
        ∧ 98 + 2 ≤ card.capacity ∧ card.capacity < 99 + 2)
      ∧ (allowed 2 7).csu.slots[(3 : Fin 4)].state = .ready ∧ (allowed 2 7).toPart.occupancy 3 < 8
      ∧ 8 ≤ (allowed 2 8).toPart.occupancy 3 ∧ (allowed 1 7).csu.slots[(3 : Fin 4)].allowance < 2
      ∧ (allowed 2 0).csu.turn = none ∧ (∀ j : Fin 4, (allowed 2 0).csu.slots[j].queue = [])
      ∧ live.csu.slots[(3 : Fin 4)].state = .empty ∧ (reading id).csu.slots[(3 : Fin 4)].state = .bound
      ∧ (reading fun x => { x with state := .foreign }).csu.slots[(3 : Fin 4)].state = .foreign :=
  ⟨⟨asks _ _ _, rfl, rfl⟩, by decide +kernel⟩

theorem witness_ReadCancelEndsTheRequest :
    let s := ask (reading id) 0x22 [3, 0, 3, 0]
    (s.Asks 0x22 7 [3, 0, 3, 0] [] ∧ s.svc.mode.serving = true ∧ u8 [3, 0, 3, 0] 0 = 3)
      ∧ s.csu.slots[(3 : Fin 4)].queue.find? (fun r => r.tag == u16 [3, 0, 3, 0] 2) = some (readReq 0)
      ∧ (∀ q ∈ s.csu.slots[(3 : Fin 4)].queue, q.uid = (readReq 0).uid → q = readReq 0)
      ∧ s.toPart.inService 3 (readReq 0) = true ∧ s.toPart.attempting 3 = false
      ∧ (onBus s 3 .data).toPart.attempting 3 = true
      ∧ s.csu.slots[(3 : Fin 4)].queue.find? (fun r => r.tag == u16 [3, 0, 4, 0] 2) = none
      ∧ 4 ≤ u8 [4, 0, 3, 0] 0 := by
  refine ⟨⟨asks _ _ _, rfl, rfl⟩, ?_, ?_, ?_, ?_, ?_, ?_⟩ <;> decide +kernel

/-- The slot with its BUSY run under way. -/
def running (x : Slot) : Slot := { x with bus := { x.bus with busyRun := some 1000 } }

theorem witness_SectorAttempts :
    ((reading id).inReset = false ∧ (reading id).csu.turn = some { slot := 3, count := 7 }
        ∧ (reading id).csu.slots[(3 : Fin 4)].queue = readReq 0 :: [readReq 1] ∧ (reading id).csu.buffer = none
        ∧ (reading id).csu.slots[(3 : Fin 4)].bus.phase = .idle ∧ ∀ j : Fin 4, (reading id).csu.slots[j].bus.orphan = false)
      ∧ (onBus (reading id) 3 (.awaiting .readBlock 5)).csu.slots[(3 : Fin 4)].bus.phase = .awaiting .readBlock 5
      ∧ (onBus (reading running) 3 (.retryWait .readBlock 5)).csu.slots[(3 : Fin 4)].bus.phase = .retryWait .readBlock 5
      ∧ (onBus (reading running) 3 (.retryWait .readBlock 5)).csu.slots[(3 : Fin 4)].bus.busyRun ≠ none
      ∧ (onBus (reading id) 3 .data).csu.slots[(3 : Fin 4)].bus.phase = .data
      ∧ ((List.replicate 512 (0 : Byte)).length = 512 ∧ crc16 (List.replicate 512 0) ≠ crc16 (List.replicate 512 0) + 1)
      ∧ (onBus (reading id) 3 (.awaiting .stop 0)).csu.slots[(3 : Fin 4)].bus.phase = .awaiting .stop 0
      ∧ (readReq 0).retried = false := by
  decide +kernel

theorem witness_SectorsAreProduced :
    let s := onBus (reading id) 3 .data
    (s.inReset = false ∧ s.csu.slots[(3 : Fin 4)].bus.phase = .data ∧ s.csu.slots[(3 : Fin 4)].bus.orphan = false
        ∧ s.csu.turn = some { slot := 3, count := 7 } ∧ s.csu.slots[(3 : Fin 4)].queue = readReq 0 :: [readReq 1]
        ∧ (∀ q ∈ [readReq 1], q.uid ≠ (readReq 0).uid) ∧ s.lnk.tx ≠ none ∧ s.csu.offered ≠ none)
      ∧ ((moving true false s).lnk.tx ≠ none ∧ (moving true false s).csu.offered = none
        ∧ (moving true false s).csu.endings = [])
      ∧ ((moving false false s).lnk.tx = none ∧ (moving false false s).lnk.replies = []
        ∧ (moving false false s).csu.offered = none ∧ (moving false false s).csu.endings = [])
      ∧ ({ readReq 0 with cancelPending := true } : ReadReq).cancelPending = true
      ∧ (readReq 0).produced + 1 = (readReq 0).count ∧ 7 + 1 = 8
      ∧ ({ readReq 0 with count := 2 } : ReadReq).produced + 1 ≠ 2 ∧ 6 + 1 < 8 := by
  decide +kernel

theorem witness_StopOutcomes :
    let s := onBus (reading fun x => { x with queue := [{ readReq 0 with retried := true }, readReq 1] }) 3 (.awaiting .stop 0)
    s.inReset = false
      ∧ (s.csu.slots[(3 : Fin 4)].bus.phase = .awaiting .stop 0 ∧ s.csu.slots[(3 : Fin 4)].bus.orphan = false
        ∧ s.csu.slots[(3 : Fin 4)].queue = { readReq 0 with retried := true } :: [readReq 1]
        ∧ ∀ q ∈ [readReq 1], q.uid ≠ (readReq 0).uid)
      ∧ (slotted s 3 running).csu.slots[(3 : Fin 4)].bus.phase = .awaiting .stop 0
      ∧ (slotted s 3 running).csu.slots[(3 : Fin 4)].bus.busyRun ≠ none := by
  decide +kernel

/-- Slot 2 READY with a card and a preview request. -/
def offered : State :=
  slotted live 2 fun x => { x with
    state := .ready, identity := some card, queue := [{ readReq 0 with owner := 0xFFF2, preview := true }] }

/-- All records taken. -/
def full : State := { offered with ord := { offered.ord with orders := Vector.replicate 32 (some (order 9)) } }

theorem witness_OrderOpenTakesARecord :
    ((ask offered 0x30 [1, 0, 1, 2]).Asks 0x30 7 [1, 0, 1, 2] [] ∧ offered.svc.mode = .live)
      ∧ (u16 [1, 0, 1, 2] 0 = 1 ∧ u16 [0, 0, 1, 2] 0 = 0 ∧ u8 [1, 0, 1, 255] 3 = 255 ∧ u8 [1, 0, 1, 2] 3 = 2)
      ∧ ((offered.withOrder 0 (order 1)).ord.orders[(0 : Fin 32)].map (·.number)) = some 1
      ∧ (∀ k : Fin 32, full.ord.orders[k] ≠ none) ∧ (∀ k : Fin 32, ∀ o ∈ full.ord.orders[k], o.number ≠ 1)
      ∧ ((offered.withOrder 0 (order 1)).ord.orders[(1 : Fin 32)] = none
        ∧ (∀ j : Fin 32, j < 1 → (offered.withOrder 0 (order 1)).ord.orders[j] ≠ none)
        ∧ ∀ k : Fin 32, ∀ o ∈ (offered.withOrder 0 (order 1)).ord.orders[k], o.number ≠ 2)
      ∧ offered.csu.slots[(2 : Fin 4)].state = .ready ∧ offered.csu.slots[(3 : Fin 4)].state ≠ .ready :=
  ⟨⟨asks _ _ _, rfl⟩, by decide +kernel⟩

/-- Order 1 OPEN with a total, product row 5 valid, regions 3 (4 MiB) and 4 (held) open. -/
def shop (total : Nat) : State :=
  let s := live.withOrder 0 { order 1 with total := total }
  let row : ProductRow :=
    { valid := true, p1 := 100, p2 := 90, p3 := 80, t2 := 2, t3 := 10, mask := 3, media := 0, finish := 2, tone := 3 }
  let regions := s.spl.regions.set 3 { valid := true, base := 0, size := 4, holder := none }
  { s with
    ord := { s.ord with products := s.ord.products.set 5 row }
    spl := { s.spl with regions := regions.set 4 { valid := true, base := 4194304, size := 4, holder := some 9 } } }

/-- ITEM_ADD to order 1: code, copies, region, width and length. -/
def addArgs (code copies region w l : Nat) : List Byte := le2 1 ++ le2 code ++ [byte copies, byte region] ++ le2 w ++ le2 l

theorem witness_ItemAddFillsAnEntry :
    ((ask (shop 0) 0x36 (addArgs 5 3 3 1024 1024)).Asks 0x36 7 (addArgs 5 3 3 1024 1024) []
        ∧ (addArgs 5 3 3 1024 1024).length = 10 ∧ (shop 0).svc.mode = .live)
      ∧ ((shop 0).toPart.orderIdx (u16 (addArgs 5 3 3 1024 1024) 0) = some 0
        ∧ (shop 0).ord.orders[(0 : Fin 32)] = some { order 1 with total := 0 } ∧ (shop 0).toPart.orderIdx 2 = none
        ∧ (order 1).state = .opened ∧ (order 1).cancel = false)
      ∧ ((shop 0).ord.items[(0 : Fin 64)] = none ∧ (List.replicate 16 (0 : Fin 64)).length = 16
        ∧ (∀ id : Fin 64, ({ live.ord with items := Vector.replicate 64 (some (item .done)) } : OrderTable).items[id] ≠ none))
      ∧ ((4095 < 4096) ∧ (shop 0).ord.products[(5 : Fin 32)].valid = true ∧ (shop 0).ord.products[(6 : Fin 32)].valid = false
        ∧ finishArg (shop 0).ord.products[(5 : Fin 32)].finish = some .pattern
        ∧ (shop 0).ord.products[(5 : Fin 32)].tone = (3 : Fin 4).val)
      ∧ ((shop 0).spl.regions[(3 : Fin 16)].holder = none ∧ (shop 0).spl.regions[(4 : Fin 16)].holder ≠ none
        ∧ (shop 0).spl.regions[(15 : Fin 16)].valid = false)
      ∧ ((shop 0).spl.regions[(3 : Fin 16)].size * 1048576 / 4 = 1024 * 1024 ∧ 1024 * 1024 < 1026 * 1024)
      ∧ 9999729 + 3 * 90 = 9999999 ∧ 9999999 < 9999730 + 3 * 90 :=
  ⟨⟨asks _ _ _, rfl, rfl⟩, by decide +kernel⟩

/-- Order 1 COMMITTED with item 0 and a PRINTING item 1, an intake record for item 0, bands and a conversion. -/
def printing (cash : Nat) (it : Item) (receiving : Bool) (band : Fin 64) (queue : List (List Byte)) : State :=
  let o := { order 1 with state := .committed, items := [0, 1], total := 600, cashIn := cash, consumed := 600 }
  let s := ((live.withOrder 0 o).withItem 0 it).withItem 1 (item .printing)
  { s with
    ord := { s.ord with release := [{ item := 0, marked := true }] }
    rin := { s.rin with
      intake := s.rin.intake.set 0 (some { segments := [(0, 0)], receiving := receiving })
      conv := some { item := band, row := 1, half := 1, writes := [] }, queue := queue } }

theorem witness_ItemWithdrawTakesTheItemBack :
    let s := printing 500 (item .receiving) true 0 [[0, 0], [1, 0]]
    let o := { order 1 with state := .committed, items := [0, 1], total := 600, cashIn := 500, consumed := 600 }
    ((ask s 0x37 [0]).Asks 0x37 7 [0] [] ∧ s.svc.mode.trading = true ∧ 64 ≤ (64 : Byte).toNat)
      ∧ (s.ord.items[(63 : Fin 64)] = none ∧ (s.ord.items[(1 : Fin 64)].map (·.state)) = some .printing
        ∧ (item .done).state = .done)
      ∧ (s.ord.items[(0 : Fin 64)] = some (item .receiving) ∧ (item .receiving).state = .receiving
        ∧ s.ord.orders[(item .receiving).order] = some o
        ∧ s.rin.intake[(0 : Fin 64)] = some { segments := [(0, 0)], receiving := true } ∧ o.cancel = false
        ∧ o.state = .committed ∧ (∃ j ∈ o.items, j ≠ 0 ∧ (s.ord.items[j].any fun x => !x.state.terminal) = true)
        ∧ ∀ e ∈ s.ord.release, e.item = 0)
      ∧ ((s.rin.conv.map (·.item)) = some 0 ∧ ((printing 500 (item .receiving) true 1 []).rin.conv.map (·.item)) = some 1
        ∧ (∃ b ∈ s.rin.queue, bandNames 0 b = true) ∧ ¬ ∃ b ∈ ([[1, 0]] : List (List Byte)), bandNames 0 b = true)
      ∧ (500 < 600 ∧ 600 - (item .receiving).price ≤ 500 ∧ ¬ 600 - (item .receiving).price ≤ 200) := by
  refine ⟨⟨asks _ _ _, rfl, ?_⟩, ?_⟩ <;> decide +kernel

/-- Order 1 in record 4 with one item, the focus on it, and `queued` operations in the cashless operation queue. -/
def selling (o : Order) (st : ItemState) (queued : Nat) : State :=
  let s := (live.withOrder 4 o).withItem 0 { item st with order := 4 }
  { s with
    pay := { s.pay with focus := some 1, kept := 5, pool := 6 }
    clc := { s.clc with queue := List.replicate queued { kind := .capture, ref := 9, amount := 9 } } }

/-- The order of the settlement witnesses. -/
def sale : Order := { order 1 with items := [0], total := 300, cashIn := 200, cardAuth := 150, consumed := 300 }

theorem witness_OrderCommitSettlesOrWaits :
    let s := selling sale .done 0
    ((ask s 0x31 [1, 0]).Asks 0x31 7 [1, 0] [] ∧ (ask s 0x33 [1, 0]).Asks 0x33 7 [1, 0] [] ∧ s.svc.mode.trading = true)
      ∧ (s.toPart.orderIdx 2 = none ∧ s.toPart.orderIdx 1 = some 4 ∧ s.ord.orders[(4 : Fin 32)] = some sale
        ∧ s.ord.release = [])
      ∧ (sale.state = .opened ∧ sale.cancel = false ∧ sale.cashless.state ≠ .pending ∧ 0 < sale.cardAuth)
      ∧ ((∀ id ∈ sale.items, ∀ it ∈ s.ord.items[id], it.state.terminal = true)
        ∧ ¬ ∀ id ∈ sale.items, ∀ it ∈ (selling sale .printing 0).ord.items[id], it.state.terminal = true)
      ∧ (s.clc.outstanding = none ∧ s.clc.queue = [] ∧ s.ord.waiting = [] ∧ s.clc.late = []
        ∧ 8 ≤ (selling sale .done 8).clc.queue.length)
      ∧ ({ sale with cardAuth := 0 } : Order).cardAuth = 0 ∧ s.slotApart sale
      ∧ ((reading id).slotApart { sale with slot := some 3, cardAuth := 0 } ∧ (reading id).ord.release = []) := by
  refine ⟨⟨asks _ _ _, asks _ _ _, rfl⟩, ?_, ?_, ?_, ?_, ?_, nofun, reading_slotApart _ rfl, rfl⟩ <;> decide +kernel

/-- Order 1 in record 4 with item 0, which waits alone in the release list, and the two engines idle but for `f`. -/
def releasing (o : Order) (it : Item) (f : Engine → Engine) : State :=
  let s := (live.withOrder 4 o).withItem 0 it
  let ready : Engine := { s.engA with state := .idle, prints := 21 }
  { s with ord := { s.ord with release := [{ item := 0, marked := false }] }, engA := f ready, engB := ready }

/-- The item of the walk witness, which needs 300 of available funds. -/
def spooled : Item := { item .spooled with order := 4 }

/-- The order of the walk witness, COMMITTED: its funds reach the total and the item's price exactly. -/
def funded : Order :=
  { order 1 with state := .committed, funding := .prepay, items := [0], total := 300, cashIn := 200, cardAuth := 150, consumed := 50 }

theorem witness_OrderCommitWalks :
    let s (f : Engine → Engine) := releasing { funded with state := .opened } spooled f
    ((ask (s id) 0x31 [1, 0]).Asks 0x31 7 [1, 0] [] ∧ (s id).svc.mode.trading = true ∧ (s id).toPart.orderIdx 1 = some 4
        ∧ (s id).ord.orders[(4 : Fin 32)] = some { funded with state := .opened } ∧ (0 : Fin 64) ∈ funded.items
        ∧ (s id).ord.release = [{ item := 0, marked := false }] ∧ (s id).ord.items[(0 : Fin 64)] = some spooled
        ∧ spooled.order = 4 ∧ spooled.state = .spooled)
      ∧ (funded.letsItemGo spooled ∧ ¬ { funded with cashIn := 199 }.letsItemGo spooled
        ∧ { funded with cashIn := 149 }.letsItemGo { spooled with debited := true })
      ∧ ((s id).takes .A spooled ∧ ((s id).eng .A).queue = []
        ∧ (s fun en => { en with state := .panel, queue := [9] }).takes .B spooled
        ∧ (s fun en => { en with offlinePending := true }).takes .B spooled)
      ∧ ¬ (s id).mayTake .A { spooled with media := 1 } ∧ ¬ (s id).mayTake .B { spooled with media := 1 } := by
  unfold State.takes State.mayTake Order.letsItemGo
  refine ⟨⟨asks _ _ _, ?_⟩, ?_, ?_, ?_⟩ <;> decide +kernel

/-- Order 1 in record 4 with three items, and a release list that holds the second. -/
def cancelling (o : Order) (b : ItemState) : State :=
  let s := ((live.withOrder 4 o).withItem 0 { item .receiving with order := 4 }).withItem 1 { item b with order := 4 }
  let s' := s.withItem 63 { item .failed with order := 4 }
  { s' with ord := { s'.ord with release := [{ item := 1, marked := true }] } }

/-- The order of the cancel witness. -/
def cancelled : Order := { order 1 with state := .committed, items := [0, 1, 63], total := 900, cashIn := 400, cardAuth := 200 }

theorem witness_OrderCancelWithdrawsItems :
    let s := cancelling cancelled .queued
    ((ask s 0x32 [1, 0]).Asks 0x32 7 [1, 0] [] ∧ s.svc.mode.trading = true ∧ s.toPart.orderIdx 2 = none)
      ∧ (s.toPart.orderIdx 1 = some 4 ∧ s.ord.orders[(4 : Fin 32)] = some cancelled)
      ∧ (cancelled.state ≠ .settling ∧ cancelled.state ≠ .closed ∧ cancelled.cancel = false ∧ cancelled.items.Nodup)
      ∧ (∀ e ∈ s.ord.release, ∀ it ∈ s.ord.items[e.item], it.order = 4)
      ∧ (∀ id ∈ cancelled.items, (s.ord.items[id].any fun it => it.order == 4) = true)
      ∧ ((cancelled.items.any fun id => s.toPart.itemState id == some .printing) = false
        ∧ (cancelled.items.any fun id => (cancelling cancelled .printing).toPart.itemState id == some .printing) = true)
      ∧ cancelled.cashless.state ≠ .pending := by
  refine ⟨⟨asks _ _ _, rfl, ?_⟩, ?_⟩ <;> decide +kernel

theorem witness_OrderReadAndRelease :
    let o := { sale with state := .closed }
    let s := selling o .done 0
    ((ask s 0x34 [1, 0]).Asks 0x34 7 [1, 0] [] ∧ (ask s 0x35 [1, 0]).Asks 0x35 7 [1, 0] [] ∧ s.svc.mode.trading = true)
      ∧ (s.toPart.orderIdx 2 = none ∧ s.toPart.orderIdx 1 = some 4 ∧ s.ord.orders[(4 : Fin 32)] = some o)
      ∧ (∀ id ∈ o.items, s.ord.items[id] ≠ none) ∧ o.state = .closed ∧ sale.state ≠ .closed := by
  refine ⟨⟨asks _ _ _, asks _ _ _, rfl⟩, ?_⟩
  decide +kernel

/-- A coin entry: value 500, widths 20 to 120. -/
def coinEntry : ChannelEntry := { enabled := true, group := .coin, value := 500, minWidth := 20, maxWidth := 120, gap := 300 }

/-- Channel 5 with an entry, a record and a level, at 1000 ms. -/
def paying (level : Bool) (e : ChannelEntry) (ch : Channel) : State :=
  { live with
    now := 1000, pins := { live.pins with pulse := live.pins.pulse.set 5 level }
    pay := { live.pay with table := live.pay.table.set 5 e, chans := live.pay.chans.set 5 ch } }

/-- A channel with a pulse under way. -/
def pulsing (since : Nat) (jammer : Bool) : Channel := { Channel.reset with pulse := some { since := since, jammer := jammer } }

/-- A mode with every wake source enabled and none requested. -/
def enabled (m : Mode) (s : State) : State := { s with svc := { s.svc with mode := m, enable := 63, request := 0 } }

/-- R29: a coin in PARKED goes to the pool, and the part wakes to LIVE. -/
theorem test_coin_wakes :
    after (exec (.pulseEnd 5 1000) (enabled .parked (paying true coinEntry (pulsing 980 false))))
        (fun t => (t.svc.mode, t.svc.enable, t.svc.captureSet.has .poolCredit, t.svc.captureSet.has .wake))
      = some (.live, 0, true, true) := by
  decide +kernel

/-- A channel with an open train of two since 990 ms. -/
def gapped (pulse : Option Pulse) : Channel :=
  { Channel.reset with pulse := pulse, train := some { n := 2, value := 500, gapSince := some 990 } }

/-- R112: a pulse that begins when the gap of 300 ms has been reached finds the train ended and posted; one before stops the
gap timer. -/
theorem test_pulse_after_the_gap :
    (after (exec (.pulseAssert 5 1291) (paying false coinEntry (gapped none)))
        fun t => (t.pay.counted, t.pay.chans[(5 : Fin 6)].train.isSome)) = some (1000, false)
      ∧ (after (exec (.pulseAssert 5 1289) (paying false coinEntry (gapped none)))
        fun t => (t.pay.counted, t.pay.chans[(5 : Fin 6)].train.isSome)) = some (0, true) := by
  decide +kernel

theorem witness_PulsesAreClassified :
    ((paying false coinEntry Channel.reset).inReset = false
        ∧ (paying false coinEntry Channel.reset).pins.pulse[(5 : Fin 6)] = false)
      ∧ ((paying false coinEntry (gapped none)).pay.chans[(5 : Fin 6)].train.bind (·.gapSince) = some 990
        ∧ max 1000 1289 < 990 + coinEntry.gap ∧ 990 + coinEntry.gap ≤ max 1000 1290
        ∧ (paying false coinEntry (gapped none)).ord.release = [])
      ∧ ((paying true coinEntry (pulsing 980 false)).pins.pulse[(5 : Fin 6)] = true
        ∧ (paying true coinEntry (pulsing 980 false)).pay.chans[(5 : Fin 6)].pulse = some { since := 980, jammer := false })
      ∧ (coinEntry.enabled = true ∧ (pulsing 980 false).jammed = false ∧ coinEntry.group = .coin)
      ∧ (999 - 980 < coinEntry.minWidth ∧ coinEntry.minWidth ≤ 1000 - 980 ∧ 1100 - 980 ≤ coinEntry.maxWidth)
      ∧ ({ coinEntry with enabled := false } : ChannelEntry).enabled = false
      ∧ ({ pulsing 980 true with jammed := true } : Channel).jammed = true
      ∧ (paying true coinEntry (pulsing 980 false)).svc.mode.serving = true
      ∧ (paying true coinEntry (pulsing 980 false)).ord.release = []
      ∧ ∀ m ∈ [Mode.parkPending, .parked, .waking],
        let s := enabled m (paying true coinEntry (pulsing 980 false))
        s.svc.mode = m ∧ s.svc.enable.getLsbD 4 = true ∧ s.svc.request.getLsbD 4 = false
          ∧ (∀ e ∈ [EngineId.A, .B], (s.eng e).queue = []) ∧ s.ord.release = [] := by
  decide +kernel

/-- Channel 5 in the bill group with a pulse and an open train of `n`. -/
def billing (n : Nat) (gap : Option Nat) : State :=
  paying true { coinEntry with group := .bill }
    { pulsing 980 false with train := some { n := n, value := 500, gapSince := gap } }

theorem witness_TrainsPostAtTheirEnd :
    (∀ n ∈ [1, 98, 99], (billing n none).inReset = false ∧ (billing n none).ord.release = []
        ∧ (billing n none).pins.pulse[(5 : Fin 6)] = true
        ∧ (billing n none).pay.chans[(5 : Fin 6)].pulse = some { since := 980, jammer := false }
        ∧ (billing n none).pay.table[(5 : Fin 6)].enabled = true ∧ (billing n none).pay.table[(5 : Fin 6)].group = .bill
        ∧ (billing n none).pay.chans[(5 : Fin 6)].jammed = false ∧ (billing n none).svc.mode.serving = true
        ∧ (billing n none).pay.table[(5 : Fin 6)].minWidth ≤ max 1000 1000 - 980
        ∧ max 1000 1100 - 980 ≤ (billing n none).pay.table[(5 : Fin 6)].maxWidth
        ∧ ((billing n none).pay.chans[(5 : Fin 6)].train.map (·.n)) = some n)
      ∧ (98 + 1 < 100 ∧ 99 + 1 = 100) ∧ (pulsing 980 false).train = none
      ∧ (∀ m ∈ [Mode.parkPending, .parked, .waking], (enabled m (billing 99 none)).svc.mode = m
        ∧ (enabled m (billing 99 none)).svc.request.getLsbD 4 = false ∧ (enabled m (billing 99 none)).ord.release = [])
      ∧ (billing 7 (some 990)).pay.chans[(5 : Fin 6)].train = some { n := 7, value := 500, gapSince := some 990 } := by
  decide +kernel

/-- TABLE_WRITE of channel 5 with a max width and a train gap. -/
def writeChannel (enabled : Byte) (maxWidth gap : Nat) : List Byte :=
  0x06 :: 0x00 :: (le2 5 ++ le2 1 ++ (enabled :: 0 :: (le2 500 ++ le2 5 ++ le2 maxWidth ++ le2 gap)))

/-- Channel 5 in the bill group with an open train of two since 990 ms and no pulse. -/
def trained : State := paying false { coinEntry with group := .bill } (gapped none)

/-- At 1100 ms a pulse since 980 jams at a max width of 119 and not at 120, and at 1101 ms at the earlier 120 whatever is
written; a train's gap since 990 ends at 110, not at 111, and at 1290 ms at the earlier 300. -/
theorem witness_TrainsPostAtTheWrite :
    (∀ s ∈ [billing 7 none, trained], ∀ args ∈ [writeChannel 1 119 300, writeChannel 0 500 110],
        (ask s 0x01 args).lnk.ctrl = [{ tag := 7, payload := 0x01 :: 0 :: args }]
          ∧ s.svc.mode.serving = true ∧ s.ord.release = [] ∧ s.pay.table[(5 : Fin 6)].enabled = true
          ∧ s.pay.table[(5 : Fin 6)].maxWidth = 120 ∧ s.pay.table[(5 : Fin 6)].gap = 300)
      ∧ (∀ gap ∈ [50, 1000], entryRule .channels 5 (1 :: 0 :: (le2 500 ++ le2 5 ++ le2 119 ++ le2 gap)))
      ∧ ((billing 7 none).pay.chans[(5 : Fin 6)].jammed = false
        ∧ (billing 7 none).pay.chans[(5 : Fin 6)].pulse = some { since := 980, jammer := false }
        ∧ (billing 7 none).pay.chans[(5 : Fin 6)].train.bind (·.gapSince) = none)
      ∧ (trained.pay.chans[(5 : Fin 6)].pulse = none
        ∧ trained.pay.chans[(5 : Fin 6)].train = some { n := 2, value := 500, gapSince := some 990 })
      ∧ (980 + 119 < max 1000 1100 ∧ ¬ 980 + 120 < max 1000 1100 ∧ 980 + 120 < max 1000 1101)
      ∧ (990 + 110 ≤ max 1000 1100 ∧ ¬ 990 + 111 ≤ max 1000 1100 ∧ ¬ 990 + 300 ≤ max 1000 1289
        ∧ 990 + 300 ≤ max 1000 1290) := by
  unfold entryRule
  decide +kernel

/-- R109, R112: a write that raises the max width or the gap finds a pulse that has passed the earlier jam point jammed, and a
train that has reached the earlier gap posted. -/
theorem test_write_after_the_jam_point :
    ([1100, 1101].map fun ms => after (exec (.tableWrite ms) (ask (billing 7 none) 0x01 (writeChannel 1 500 1000)))
        fun t => (t.pay.chans[(5 : Fin 6)].jammed, t.pay.counted)) = [some (false, 0), some (true, 3500)]
      ∧ ([1289, 1290].map fun ms => after (exec (.tableWrite ms) (ask trained 0x01 (writeChannel 1 500 1000)))
        fun t => t.pay.counted) = [some 0, some 1000] := by
  decide +kernel

theorem witness_FocusAndChannelRequests :
    let jammed (level : Bool) : State := paying level coinEntry { Channel.reset with jammed := true }
    (live.svc.mode.serving = true ∧ live.svc.mode.trading = true ∧ (ask live 0x41 []).Asks 0x41 7 [] [])
      ∧ ((ask live 0x40 [1, 0]).Asks 0x40 7 [1, 0] [] ∧ live.toPart.orderIdx 1 = none
        ∧ (live.withOrder 31 (order 1)).toPart.orderIdx 1 = some 31
        ∧ (live.withOrder 31 (order 1)).ord.orders[(31 : Fin 32)] = some (order 1))
      ∧ ((ask live 0x42 [5]).Asks 0x42 7 [5] [] ∧ (ask live 0x42 [6]).Asks 0x42 7 [6] [] ∧ 6 ≤ u8 [6] 0 ∧ u8 [5] 0 = 5)
      ∧ (live.pay.chans[(5 : Fin 6)].jammed = false ∧ (jammed true).pay.chans[(5 : Fin 6)].jammed = true
        ∧ (jammed true).pins.pulse[(5 : Fin 6)] = true ∧ (jammed false).pins.pulse[(5 : Fin 6)] = false)
      ∧ ((paying true coinEntry { gapped none with jammed := true }).pay.chans[(5 : Fin 6)]
          = { gapped none with jammed := true }
        ∧ (gapped none).train.bind (·.gapSince) = some 990 ∧ max 1000 1289 < 990 + coinEntry.gap
        ∧ 990 + coinEntry.gap ≤ max 1000 1290
        ∧ (paying true coinEntry { gapped none with jammed := true }).ord.release = [])
      ∧ ((paying true coinEntry (pulsing 980 false)).pay.chans[(5 : Fin 6)] = pulsing 980 false
        ∧ (pulsing 980 false).jammed = false ∧ (pulsing 980 false).train = none ∧ coinEntry.enabled = true
        ∧ ¬ 980 + coinEntry.maxWidth < max 1000 1100 ∧ 980 + coinEntry.maxWidth < max 1000 1101
        ∧ (billing 7 none).pay.chans[(5 : Fin 6)].train ≠ none ∧ (billing 7 none).ord.release = [])
      ∧ ((gapped none).jammed = false ∧ (gapped none).pulse = none ∧ trained.pay.counted = 0
        ∧ 4294967295 < 4294966296 + 2 * 500 ∧ ¬ 4294967295 < 4294966295 + 2 * 500) := by
  refine ⟨⟨rfl, rfl, asks _ _ _⟩, ⟨asks _ _ _, ?_⟩, ⟨asks _ _ _, asks _ _ _, ?_⟩, ?_, ?_, ?_, ?_⟩ <;> decide +kernel

/-- R109, R118: a pulse that has passed its jam point when CHANNEL_RESET is taken has jammed its channel, which becomes NORMAL
with a new pulse; a pulse short of it leaves the channel NORMAL and the request WRONG_STATE. -/
theorem test_channel_reset_after_the_jam_point :
    ([1100, 1101].map fun ms => after (exec (.channelReset ms) (ask (paying true coinEntry (pulsing 980 false)) 0x42 [5]))
        fun t => (t.pay.chans[(5 : Fin 6)].pulse.map (·.since), t.svc.captureSet.has .channelJam))
      = [some (some 980, false), some (some 1101, true)] := by
  decide +kernel

theorem witness_PoolAndTallyRequests :
    let s := live.withOrder 31 { order 1 with cashIn := 16777115 }
    (s.svc.mode.serving = true ∧ s.svc.mode.trading = true ∧ s.ord.release = [])
      ∧ ((ask s 0x43 [1, 0, 0, 0, 100, 0, 0, 0]).Asks 0x43 7 [1, 0, 0, 0, 100, 0, 0, 0] []
        ∧ (ask s 0x44 [100, 0, 0, 0]).Asks 0x44 7 [100, 0, 0, 0] [] ∧ (ask s 0x45 []).Asks 0x45 7 [] []
        ∧ (ask s 0x46 []).Asks 0x46 7 [] [])
      ∧ (s.toPart.orderIdx 2 = none ∧ s.toPart.orderIdx 1 = some 31
        ∧ s.ord.orders[(31 : Fin 32)] = some { order 1 with cashIn := 16777115 } ∧ (order 1).state = .opened)
      ∧ (u32 [1, 0, 0, 0, 100, 0, 0, 0] 4 = 100 ∧ 16777115 + 100 = 16777215 ∧ 16777215 < 16777115 + 101)
      ∧ ({ order 1 with state := .halted } : Order).state ≠ .opened := by
  refine ⟨⟨rfl, rfl, rfl⟩, ⟨asks _ _ _, asks _ _ _, asks _ _ _, asks _ _ _⟩, ?_, ?_, ?_⟩ <;> decide +kernel

/-! ### The cashless line -/

/-- An operation of order 258. -/
def operation (k : OpKind) : CashlessOp := { kind := k, ref := 258, amount := 5 }

/-- Order record 4 in the table, with the cashless line's queue and what is outstanding. -/
def lined (o : Order) (queue : List CashlessOp) (out : Option Outstanding) : State :=
  let s := (live.withOrder 4 o).withItem 0 { item .printing with order := 4 }
  { s with clc := { s.clc with queue := queue, outstanding := out } }

/-- Order 258 with one item. -/
def carded : Order := { order 258 with items := [0], total := 900, cashIn := 400, consumed := 300 }

/-- An operation outstanding whose timer runs. -/
def out (k : OpKind) : Option Outstanding := some { op := operation k, timer := some 9 }

theorem witness_CardAuthorizeJoinsTheQueue :
    let args : List Byte := [2, 1, 0, 0, 0xF4, 1, 0, 0]
    let s := lined carded [] none
    ((ask s 0x48 args).Asks 0x48 7 args [] ∧ args.length = 8 ∧ s.svc.mode.trading = true)
      ∧ (s.toPart.orderIdx 259 = none ∧ s.toPart.orderIdx (u16 args 0) = some 4
        ∧ s.ord.orders[(4 : Fin 32)] = some carded)
      ∧ (carded.state = .opened ∧ carded.cashless.state = .none ∧ u32 args 4 + carded.cashIn + carded.cardAuth = carded.total)
      ∧ (s.clc.queue = [] ∧ s.clc.outstanding = none ∧ s.ord.waiting = [] ∧ s.clc.late = [])
      ∧ ((lined carded (List.replicate 7 (operation .capture)) (out .release)).clc.queue.length < 8
        ∧ (lined carded (List.replicate 7 (operation .capture)) (out .release)).clc.outstanding ≠ none
        ∧ 8 ≤ (lined carded (List.replicate 8 (operation .capture)) (out .release)).clc.queue.length)
      ∧ ((lined carded [] (some { op := operation .authorize, timer := none })).inReset = false
        ∧ (lined carded [] (some { op := operation .authorize, timer := none })).clc.outstanding
          = some { op := operation .authorize, timer := none }) := by
  refine ⟨⟨asks _ _ _, rfl, rfl⟩, ?_⟩
  decide +kernel

/-- The receiver in a state with its bytes. -/
def hearing (s : State) (st : RxState) (bytes : List Byte) : State :=
  { s with clc := { s.clc with rx := { state := st, bytes := bytes, gap := some 50 } } }

theorem witness_CashlessBytesAreAssembled :
    (live.inReset = false ∧ live.clc.rx.state = .hunt)
      ∧ ((hearing live .header []).clc.rx.bytes = [] ∧ (hearing live .header [0x81]).clc.rx.bytes = [0x81]
        ∧ (hearing live .header [0x81]).clc.rx.gap ≠ none)
      ∧ ((hearing live .body [0x81, 2, 9]).clc.rx.bytes = 0x81 :: 2 :: [9] ∧ [9].length < (2 : Byte).toNat)
      ∧ ((hearing live .sum [0x81, 2, 9, 1]).clc.rx.state = .sum ∧ sum8 [0x81, 2, 9, 1] = 0x8D
        ∧ (0x8E : Byte) ≠ sum8 [0x81, 2, 9, 1] ∧ ¬ ((2 : Byte) = 6) ∧ ¬ ((0x81 : Byte) = 0x82) ∧ ¬ ((0x81 : Byte) = 0x83)
        ∧ ¬ ((0x81 : Byte) = 0x84)) := by
  decide +kernel

/-- A message of the terminal that has come but for its check byte. -/
def heard (s : State) (type : Byte) (body : List Byte) : State :=
  hearing s .sum (type :: BitVec.ofNat 8 body.length :: body)

theorem hears (s : State) (type : Byte) (body : List Byte) (h : s.inReset = false := by rfl) :
    (heard s type body).Heard type body (sum8 (type :: BitVec.ofNat 8 body.length :: body)) :=
  ⟨h, rfl, rfl, rfl⟩

/-- Order 258 with an authorization of 500 in a state. -/
def authorizing (st : CashlessState) (late : Bool) : Order :=
  { carded with cashless := { carded.cashless with state := st, requested := 500, lateSeen := late } }

theorem witness_AuthorizationsEnd :
    let s := lined (authorizing .pending false) [] (out .authorize)
    let l (late : Bool) (n : Nat) := lined (authorizing .timedOut late) (List.replicate n (operation .capture)) (out .release)
    ((heard s 0x81 (le2 258 ++ le4 500)).Heard 0x81 (le2 258 ++ le4 500) (sum8 (0x81 :: 6 :: (le2 258 ++ le4 500)))
        ∧ (heard s 0x82 (le2 258 ++ [byte 255])).Heard 0x82 (le2 258 ++ [byte 255]) (sum8 (0x82 :: 3 :: (le2 258 ++ [byte 255]))))
      ∧ (s.toPart.orderIdx 3 = none ∧ s.toPart.orderIdx 258 = some 4
        ∧ s.ord.orders[(4 : Fin 32)] = some (authorizing .pending false))
      ∧ (s.clc.outstanding = out .authorize ∧ (operation .authorize).kind = .authorize ∧ (operation .authorize).ref = 258
        ∧ s.clc.queue = [] ∧ s.ord.release = [] ∧ (authorizing .pending false).state ≠ .committed
        ∧ (authorizing .pending false).cancel = false ∧ (some 9 : Timer) ≠ none)
      ∧ (authorizing .timedOut false).cashless.state = .timedOut
      ∧ (∀ late : Bool, ∀ n ∈ [7, 8], (l late n).ord.orders[(4 : Fin 32)] = some (authorizing .timedOut late))
      ∧ ((l false 7).clc.queue.length < 8 ∧ (l false 7).clc.outstanding ≠ none ∧ 8 ≤ (l false 8).clc.queue.length
        ∧ (l false 8).clc.late.length < 8 ∧ 8 ≤ (List.replicate 8 3).length)
      ∧ ((lined (authorizing .timedOut false) [] none).clc.outstanding = none
        ∧ (lined (authorizing .timedOut false) [] none).ord.waiting = []
        ∧ (lined (authorizing .timedOut false) [] none).clc.late = []) := by
  refine ⟨⟨hears _ _ _, hears _ _ _⟩, ?_⟩
  decide +kernel

/-- Order 258 SETTLING. -/
def ending258 : Order := { carded with state := .settling, cardAuth := 50, consumed := 420, change := some 0 }

theorem witness_SettlementOperationsEnd :
    let s (k : OpKind) := lined ending258 [] (out k)
    let q := lined ending258 [operation .capture, operation .release] (out .lateRelease)
    ((heard (s .capture) 0x83 (le2 258)).Heard 0x83 (le2 258) (sum8 (0x83 :: 2 :: le2 258))
        ∧ (heard (s .release) 0x84 (le2 258)).Heard 0x84 (le2 258) (sum8 (0x84 :: 2 :: le2 258)))
      ∧ (∀ k ∈ [OpKind.capture, .release, .lateRelease], (s k).clc.outstanding = out k ∧ (operation k).ref = 258
        ∧ (s k).clc.queue = [] ∧ (s k).toPart.orderIdx 258 = some 4 ∧ (s k).ord.orders[(4 : Fin 32)] = some ending258
        ∧ (s k).inReset = false ∧ ending258.state = .settling)
      ∧ ((∀ k, (s k).slotApart ending258) ∧ (reading id).slotApart { ending258 with slot := some 3 })
      ∧ ((lined ending258 [] none).clc.outstanding = none)
      ∧ (q.clc.outstanding = out .lateRelease ∧ q.clc.queue = operation .capture :: [operation .release]
        ∧ q.ord.waiting = [] ∧ q.clc.late = [])
      ∧ ([operation .release] = operation .release :: [] ∧ q.toPart.orderIdx (operation .release).ref = some 4
        ∧ [3, 4] = 3 :: [4]) := by
  refine ⟨⟨hears _ _ _, hears _ _ _⟩, ?_, ⟨fun _ => nofun, reading_slotApart _ rfl⟩, ?_⟩ <;> decide +kernel

/-- A PRINTING or receiving item in region 3, in print on or coming for record 5. -/
def printed (st : ItemState) : Item := { item st with finish := .pattern, region := 3 }

/-- Item 5 with a band in the intake queue. -/
def banded (st : ItemState) (band : List Byte) : State :=
  let s := live.withItem 5 (printed st)
  { s with rin := { s.rin with queue := [band, []] } }

/-- A band of item 5: half, row, kind, and its bytes. -/
def bandOf (half row kind : Byte) (data : List Byte) : List Byte := [5, half, row, 0, kind, 0] ++ data

theorem witness_BandsAreConverted :
    let s := banded .defined (bandOf 1 1 0 [10, 20, 30, 200, 100, 0])
    (s.inReset = false ∧ s.rin.conv = none ∧ s.rin.queue = bandOf 1 1 0 [10, 20, 30, 200, 100, 0] :: [[]])
      ∧ (([5, 1, 1, 0, 0] : List Byte).length < 6 ∧ 64 ≤ u8 [64, 0, 0, 0, 0, 0] 0 ∧ s.ord.items[(6 : Fin 64)] = none)
      ∧ (6 ≤ (bandOf 1 1 0 [10, 20, 30, 200, 100, 0]).length ∧ u8 (bandOf 1 1 0 []) 0 = (5 : Fin 64).val
        ∧ s.ord.items[(5 : Fin 64)] = some (printed .defined))
      ∧ (u8 (bandOf 1 1 0 []) 1 ≤ 1 ∧ u16 (bandOf 1 1 0 []) 2 + 1 = (printed .defined).length
        ∧ (bandOf 1 1 0 [10, 20, 30, 200, 100, 0]).length = 6 + 3 * ((printed .defined).width / 2)
        ∧ (bandOf 1 1 1 [10, 20, 30, 200, 100, 0, 7, 8]).length = 6 + 4 * ((printed .defined).width / 2))
      ∧ u16 (bandOf 1 2 0 []) 2 = (printed .defined).length := by
  decide +kernel

/-- Regions 3 (8 MiB at 8 MiB, held) and 15 (4 MiB at 16 MiB). -/
def opened : State :=
  let regions := live.spl.regions.set 3 { valid := true, base := 8388608, size := 8, holder := some 5 }
  { live with spl := { live.spl with regions := regions.set 15 { valid := true, base := 16777216, size := 4, holder := none } } }

/-- REGION_OPEN. -/
def openArgs (r size base : Nat) : List Byte := [byte r, byte size, 0, 0] ++ le4 base

theorem witness_RegionsOpenAndClose :
    ((ask opened 0x50 (openArgs 0 8 0)).Asks 0x50 7 (openArgs 0 8 0) [] ∧ (openArgs 0 8 0).length = 8
        ∧ (ask opened 0x51 [15]).Asks 0x51 7 [15] [] ∧ opened.svc.mode.serving = true)
      ∧ (16 ≤ u8 (openArgs 16 8 0) 0 ∧ 5 ∉ [4, 8, 16, 32, 64] ∧ u8 (openArgs 15 8 0) 0 = (15 : Fin 16).val
        ∧ u8 (openArgs 15 8 0) 1 ∈ [4, 8, 16, 32, 64])
      ∧ (u32 (openArgs 0 8 4194304) 4 % (8 * 1048576) ≠ 0 ∧ 201326592 % (64 * 1048576) = 0
        ∧ 201326592 + 64 * 1048576 = 268435456 ∧ 268435456 < 268435456 + 4 * 1048576)
      ∧ (opened.spl.regions[(3 : Fin 16)].valid = true ∧ opened.spl.regions[(0 : Fin 16)].valid = false
        ∧ opened.spl.regions[(3 : Fin 16)].holder = some 5 ∧ opened.spl.regions[(15 : Fin 16)].holder = none)
      ∧ (opened.spl.regions[(3 : Fin 16)].base < 0 + 16 * 1048576 ∧ 0 < opened.spl.regions[(3 : Fin 16)].base + 8 * 1048576)
      ∧ (∀ q : Fin 16, opened.spl.regions[q].valid = true → 8388608 ≤ opened.spl.regions[q].base) := by
  refine ⟨⟨asks _ _ _, rfl, asks _ _ _, rfl⟩, ?_⟩
  decide +kernel

/-- The last plane write of a conversion, granted. -/
def written (live : Bool) : Access := { who := .intake, addr := 268435454, len := 2, bytes := [1, 2], live := live }

/-- A read of an engine, granted. -/
def readOf (e : EngineId) : Access := { who := .engine e, addr := 268435452, len := 4, bytes := [], live := true }

/-- Item 5 with segments received and a conversion, an access at the port, the engines in a panel of it. -/
def porting (mode : Mode) (st : ItemState) (segments : List (Nat × Nat)) (writes : List PlaneWrite) (port : Option Access)
    (last : Requester) : State :=
  let s := ((inMode mode).withOrder 0 { order 1 with cashIn := 300 }).withItem 5 (printed st)
  let e : Engine := { s.engA with state := .panel, panel := some .M, line := some 1, queue := [5], readWaiting := true }
  { s with
    engA := e, engB := e
    rin := { s.rin with
      conv := some { item := 5, row := 1, half := 1, writes := writes }
      intake := s.rin.intake.set 5 (some { segments := segments, receiving := true }) }
    spl := { s.spl with port := port, lastServed := last } }

theorem witness_ThePortServesOneAccess :
    let g := porting .live .printing [] [{ addr := 100, bytes := [1, 2] }] none (.engine .B)
    let w (segments : List (Nat × Nat)) := porting .parked .receiving segments [] (some (written true)) .intake
    (g.inReset = false ∧ g.spl.port = none ∧ g.spl.lastServed = .engine .B
        ∧ (g.rin.conv.map (·.writes)) = some [{ addr := 100, bytes := [1, 2] }])
      ∧ ((g.eng .A).readWaiting = true ∧ (g.eng .A).queue = 5 :: [] ∧ (g.eng .A).panel = some .M
        ∧ (g.eng .A).line = some 1 ∧ g.ord.items[(5 : Fin 64)] = some (printed .printing)
        ∧ (porting .live .printing [] [] none .intake).spl.lastServed = .intake
        ∧ (porting .live .printing [] [] none (.engine .A)).spl.lastServed = .engine .A)
      ∧ ((written true).addr + max (written true).len (written true).bytes.length = 268435456 ∧ (w []).memoryOk = true
        ∧ (w []).spl.port = some (written true) ∧ (w []).rin.conv = some { item := 5, row := 1, half := 1, writes := [] }
        ∧ (w []).rin.intake[(5 : Fin 64)] = some { segments := [], receiving := true }
        ∧ (w []).ord.items[(5 : Fin 64)] = some (printed .receiving))
      ∧ (([] : List (Nat × Nat)).length + 1 < 2 * (printed .receiving).length ∧ (1, 1) ∈ [((1 : Nat), (1 : Nat))]
        ∧ [((0 : Nat), (0 : Nat)), (0, 1), (1, 0)].length + 1 = 2 * (printed .receiving).length
        ∧ (1, 1) ∉ [((0 : Nat), (0 : Nat)), (0, 1), (1, 0)])
      ∧ ((w [(0, 0), (0, 1), (1, 0)]).svc.mode.dark = true ∧ (w []).ord.release = []
        ∧ (w []).ord.orders[(0 : Fin 32)] = some { order 1 with cashIn := 300 }
        ∧ ∀ band ∈ (w []).rin.queue, bandNames 5 band = false)
      ∧ ((readOf .B).addr + max (readOf .B).len (readOf .B).bytes.length = 268435456
        ∧ (porting .live .printing [] [] (some (readOf .B)) .intake).spl.port = some (readOf .B)
        ∧ ((porting .live .printing [] [] (some (readOf .B)) .intake).eng .B).panel = some .M) := by
  decide +kernel

/-- R159: served last RIN, engine A resting, engine B and a plane write waiting: engine B comes first. -/
theorem witness_ThePortPassesOver :
    let s : State := porting .live .printing [] [{ addr := 100, bytes := [1, 2] }] none .intake
    let t := s.withEngine .A { s.engA with readWaiting := false }
    t.spl.lastServed = .intake ∧ (t.eng .A).readWaiting = false ∧ (t.eng .B).readWaiting = true
      ∧ ([.engine .A, .engine .B, .intake] : List Requester).takeWhile (· != .engine .B) = [.engine .A]
      ∧ after (exec (.spoolGrant 0) t) (fun u => u.spl.lastServed) = some (.engine .B) := by
  decide +kernel

theorem witness_ThePortReleasesTheItem :
    let s := porting .live .receiving [(0, 0), (0, 1), (1, 0)] [] (some (written true)) .intake
    s.svc.mode.dark = false ∧ ({ order 1 with cashIn := 300 } : Order).letsItemGo (printed .receiving)
      ∧ ¬ (order 1).letsItemGo (printed .receiving) ∧ s.takes .A (printed .receiving) ∧ (s.eng .A).state ≠ .idle := by
  unfold State.takes State.mayTake Order.letsItemGo
  decide +kernel

/-! ### Print engines -/

/-- Engine B in a state. -/
def engine (st : EngineState) (pending : Bool) (temp : Int) : State :=
  { live with engB := { live.engB with state := st, offlinePending := pending, temperature := temp } }

/-- The sensors of engine B. -/
def sensing (s : State) (x : Sensors) : State := { s with pins := { s.pins with sensorsB := x } }

/-- Engine B in NEEDS_MEDIA with item 5 at the head of its queue. -/
def stopped (st : ItemState) : State :=
  let s := (engine .needsMedia false 25).withItem 5 (item st)
  { s with engB := { s.engB with queue := [5] } }

theorem witness_EngineRequestsChangeTheState :
    let s := engine .fault false 70
    ((ask s 0x60 [1]).Asks 0x60 7 [1] [] ∧ (ask s 0x61 [1]).Asks 0x61 7 [1] [] ∧ (ask s 0x62 [1]).Asks 0x62 7 [1] []
        ∧ (ask s 0x63 [1, 15, 0xE8, 3]).Asks 0x63 7 [1, 15, 0xE8, 3] [] ∧ (ask s 0x63 [2, 0, 0, 0]).Asks 0x63 7 [2, 0, 0, 0] []
        ∧ s.svc.mode.serving = true)
      ∧ (2 ≤ u8 [2, 0, 0, 0] 0 ∧ u8 [1] 0 = engineCode .B ∧ s.ord.release = [] ∧ (s.eng .B).queue = [])
      ∧ (∀ st ∈ [ItemState.queued, .printing], ((stopped st).eng .B).queue = [5]
        ∧ (stopped st).ord.items[(5 : Fin 64)] = some (item st) ∧ ((stopped st).eng .B).state = .needsMedia
        ∧ ((stopped st).toPart.sensors .B).condition = none
        ∧ ((sensing (stopped st) { Sensors.clear with doorOpen := true }).toPart.sensors .B).condition = some .doorOpen)
      ∧ (∀ st ∈ [EngineState.absent, .offline, .idle, .needsMedia, .fault, .panel, .heatHold], ∀ p : Bool,
        ((engine st p 25).eng .B).state = st ∧ ((engine st p 25).eng .B).offlinePending = p)
      ∧ ((s.toPart.sensors .B).paperJam = false ∧ (s.toPart.sensors .B).ribbonBreak = false
        ∧ (s.toPart.sensors .B).doorOpen = false ∧ (s.toPart.sensors .B).media.val = (s.eng .B).mediaKind)
      ∧ ((s.eng .B).state = .fault ∧ ¬ (s.eng .B).temperature < (s.eng .B).params.stop
        ∧ ((engine .fault false 69).eng .B).temperature < ((engine .fault false 69).eng .B).params.stop)
      ∧ (((sensing s { Sensors.clear with paperJam := true }).toPart.sensors .B).paperJam = true
        ∧ ((sensing s { Sensors.clear with ribbonBreak := true }).toPart.sensors .B).ribbonBreak = true
        ∧ ((sensing s { Sensors.clear with doorOpen := true }).toPart.sensors .B).doorOpen = true
        ∧ ((sensing s { Sensors.clear with media := 15 }).toPart.sensors .B).media.val ≠ (s.eng .B).mediaKind)
      ∧ (u8 [1, 15, 0xE8, 3] 1 = 15 ∧ u16 [1, 15, 0xE8, 3] 2 = 1000) := by
  refine ⟨⟨asks _ _ _, asks _ _ _, asks _ _ _, asks _ _ _, asks _ _ _, rfl⟩, ?_⟩
  decide +kernel

/-- Engine B at work on item 5 of order 1, whose item 0 also prints; item 6 of order 2 is QUEUED. -/
def working (it : Item) (f : Engine → Engine) : State :=
  let s := ((live.withOrder 0 { order 1 with items := [0, 5] }).withItem 0 (item .printing)).withItem 5 it
  let s := (s.withOrder 1 { order 2 with items := [6] }).withItem 6 { item .queued with order := 1 }
  { s with engB := f { s.engB with queue := [5] } }

/-- Item 5 with copies delivered. -/
def copy (done : Nat) : Item := { printed .printing with copiesDone := done }

/-- The hypotheses of State.copyFails, for item 5 at the head of engine B's queue, engine A being OFFLINE. -/
def copyStops (s : State) (waiting : List (Fin 64)) (it : Item) (o : Order) : Bool :=
  (s.eng .B).queue = 5 :: waiting && s.ord.items[(5 : Fin 64)] = some it && it.state = .printing
    && s.ord.orders[it.order] = some o && s.ord.release = [] && (s.eng .A).state = .offline && (s.eng .A).queue = []
    && waiting.all (fun j => (s.ord.items[j]).any fun w => w.state = .queued
      && (s.ord.orders[w.order]).any fun ow => ow.cancel = false)
    && o.items.any fun j => j ≠ 5 && (s.ord.items[j]).any fun other => other.state.terminal = false

theorem copyStops_meets {s : State} {waiting : List (Fin 64)} {it : Item} {o : Order} (h : copyStops s waiting it o = true) :
    ((s.eng .B).queue = 5 :: waiting ∧ s.ord.items[(5 : Fin 64)] = some it ∧ it.state = .printing
        ∧ s.ord.orders[it.order] = some o ∧ s.ord.release = [])
      ∧ (∀ j ∈ waiting, ∃ w ow, s.ord.items[j] = some w ∧ w.state = .queued ∧ s.ord.orders[w.order] = some ow
        ∧ ow.cancel = false)
      ∧ (∀ j ∈ 5 :: waiting, ∀ w, s.ord.items[j] = some w → ∀ other, other ≠ .B →
        ¬ s.mayTake other w ∧ j ∉ (s.eng other).queue)
      ∧ s.worksBeside 5 o := by
  simp only [copyStops, Bool.and_eq_true, decide_eq_true_eq, List.all_eq_true, List.any_eq_true, Option.any_eq_true] at h
  obtain ⟨⟨⟨⟨⟨⟨⟨⟨h1, h2⟩, h3⟩, h4⟩, h5⟩, h6⟩, h7⟩, h8⟩, h9⟩ := h
  refine ⟨⟨h1, h2, h3, h4, h5⟩, fun j hj => ?_, fun j hj w hw other ho => ?_, ?_⟩
  · obtain ⟨w, a, b, ow, c, d⟩ := h8 j hj
    exact ⟨w, ow, a, b, c, d⟩
  · cases other with
    | A => exact ⟨by unfold State.mayTake; simp [h6], by simp [h7]⟩
    | B => exact absurd rfl ho
  · obtain ⟨j, a, b, w, c, d⟩ := h9
    exact ⟨j, a, b, w, c, d⟩

/-- Order 1 of `working`. -/
def worked : Order := { order 1 with items := [0, 5] }

theorem witness_MechanismReportsMoveTheCopy :
    let s (m : Motion) (st : EngineState) (done : Nat) (pending : Bool) (queue : List (Fin 64)) := working (copy done) fun x =>
      { x with motion := some m, state := st, offlinePending := pending, prints := 21, queue := queue }
    let o := worked
    (∀ m ∈ [Motion.draw, .panelStart .C, .eject], ∀ p : Bool, ∀ waiting ∈ [[], [(6 : Fin 64)]],
        let t := s m .panel 2 p (5 :: waiting)
        t.inReset = false ∧ t.svc.mode.dark = false ∧ t.ord.release = [] ∧ (t.toPart.sensors .B).condition = none
          ∧ (t.eng .B).motion = some m ∧ (t.eng .B).queue = 5 :: waiting ∧ t.ord.items[(5 : Fin 64)] = some (copy 2)
          ∧ t.ord.orders[(copy 2).order] = some o ∧ (t.eng .B).offlinePending = p)
      ∧ (((s .abortEject .ejecting 0 false []).eng .B).motion = some .abortEject
        ∧ ((s .abortEject .ejecting 0 false []).eng .B).queue = []
        ∧ ((s .abortEject .ejecting 0 false []).eng .B).state.printing = true)
      ∧ ((54 : Int) < EngineParams.reset.hold ∧ (69 : Int) < EngineParams.reset.stop ∧ (EngineParams.reset.hold : Int) ≤ 55)
      ∧ (∃ j ∈ o.items, j ≠ 5 ∧ ((s .eject .ejecting 2 false [5]).ord.items[j].any fun x => !x.state.terminal) = true)
      ∧ ((copy 2).copiesDone + 1 = (copy 2).copies ∧ (copy 0).copiesDone + 1 ≠ (copy 0).copies
        ∧ (copy 0).state = .printing
        ∧ (s .eject .ejecting 2 false [5, 6]).ord.items[(6 : Fin 64)] = some { item .queued with order := 1 })
      ∧ (∀ again : Bool, ∀ waiting ∈ [[], [(6 : Fin 64)]],
        let it : Item := { copy 0 with reprintUsed := again }
        copyStops (working it fun x => { x with motion := some (.panelStart .C), state := .panel, queue := 5 :: waiting })
          waiting it o = true)
      ∧ copyStops ((s .draw .loading 0 false [5]).withOrder 0 { o with cancel := true }) [] (copy 0) { o with cancel := true } = true
      ∧ (s .draw .loading 0 false [5]).rin.intake[(5 : Fin 64)] = none ∧ (EngineParams.reset.stop : Int) ≤ 70 := by
  decide +kernel

/-- Engine B in a panel, at a line of item 5, with a line in drive. -/
def driving (panel : Panel) (line groups : Nat) : State :=
  working (copy 0) fun x => { x with
    state := .panel, panel := some panel, line := some line
    hdu := { x.hdu with drive := some { codes := [1, 2, 3, 4], groups := groups, fired := 0 } } }

theorem witness_SensorsSamplesAndPasses :
    (∀ st ∈ [EngineState.idle, .offline, .absent, .panel, .fault], (engine st false 25).inReset = false
        ∧ (engine st false 25).svc.mode.dark = false ∧ ((engine st false 25).eng .B).state = st
        ∧ ((engine st false 25).eng .B).queue = [])
      ∧ (EngineState.offline.printing = false ∧ EngineState.fault.printing = false)
      ∧ (((working (copy 0) fun x => { x with state := .heatHold, panel := some .M }).eng .B).state = .heatHold
        ∧ ((working (copy 0) fun x => { x with state := .heatHold, panel := some .M }).eng .B).panel = some .M
        ∧ (52 : Int) ≤ (EngineParams.reset.hold : Int) - 3 ∧ (EngineParams.reset.hold : Int) - 3 < 53)
      ∧ (∀ st ∈ [EngineState.loading, .panel, .heatHold, .ejecting], ∀ again : Bool,
        let it : Item := { copy 0 with reprintUsed := again }
        let s := working it fun x => { x with state := st }
        (s.eng .B).state.printing = true ∧ (s.eng .B).motion ≠ some .abortEject
          ∧ copyStops (sensing s { Sensors.clear with doorOpen := true }) [] it worked = true)
      ∧ (let s := working (copy 0) fun x => { x with queue := [], state := .ejecting, motion := some .abortEject }
        (s.eng .B).state.printing = true ∧ (s.eng .B).motion = some .abortEject ∧ (s.eng .B).queue = [])
      ∧ (let s := working (copy 0) fun x =>
          { x with state := .heatHold, panel := some .M, queue := [5, 6], params := { x.params with stop := 40 } }
        (45 : Int) ≤ ((s.eng .B).params.hold : Int) - 3 ∧ ((s.eng .B).params.stop : Int) ≤ 45
          ∧ copyStops (s.withEngine .B { (s.eng .B) with temperature := 45 }) [6] (copy 0) worked = true)
      ∧ (∀ panel ∈ [Panel.Y, .M, .C, .F], ∀ line ∈ [0, 1], ∀ groups ∈ [1, 4],
        ((driving panel line groups).eng .B).hdu.drive = some { codes := [1, 2, 3, 4], groups := groups, fired := 0 }
          ∧ ((driving panel line groups).eng .B).panel = some panel ∧ ((driving panel line groups).eng .B).line = some line
          ∧ ((driving panel line groups).eng .B).queue = [5]
          ∧ (driving panel line groups).ord.items[(5 : Fin 64)] = some (copy 0))
      ∧ ((driving .M 0 1).eng .B).state.printing = true ∧ copyStops (driving .M 0 1) [] (copy 0) worked = true
      ∧ (0 + 1 < 4 ∧ 1 ≤ 0 + 1 ∧ 0 + 1 < (copy 0).length ∧ (copy 0).length ≤ 1 + 1)
      ∧ ((69 : Int) < EngineParams.reset.stop ∧ (EngineParams.reset.stop : Int) ≤ 70) := by
  decide +kernel

theorem witness_StrobeCodesKeepTheBudget :
    let codes := [587, 900, 1023, 0, 400, 700, 1023, 650]
    let sum (g k : Nat) : Nat := ((List.range 8).map fun i => if i % g = k then codes.getD i 0 else 0).sum
    lineCodes codes EngineParams.reset .Y 25 [] [0, 1, 2, 3, 4, 5, 6, 7] = codes
      ∧ (∀ k, k < 1 → sum 1 k ≤ 5283) ∧ (¬ (∀ k, k < 1 → sum 1 k ≤ 5282) ∧ ∀ k, k < 2 → sum 2 k ≤ 3033)
      ∧ (¬ (∀ k, k < 2 → sum 2 k ≤ 3032) ∧ ∀ k, k < 4 → sum 4 k ≤ 2046)
      ∧ (¬ (∀ k, k < 2 → sum 2 k ≤ 2045) ∧ ¬ ∀ k, k < 4 → sum 4 k ≤ 2045) := by
  decide +kernel

/-! ### What every step keeps -/

/-- The order of 6.10 with ORDER_COMMIT at the front of the queue. -/
def closing : State :=
  { ask { live.withOrder 0 { order 701 with total := 480, cashIn := 600, consumed := 480 } with
      pay := { live.pay with counted := 10600, kept := 8000, pool := 2000 } } 0x31 [0xBD, 0x02] with
    pending := [.orderCommit] }

theorem witness_TheTallyStaysBalanced : closing.tallyHolds ∧ ∃ t, step closing = .next t := by
  refine ⟨?_, _, rfl⟩
  unfold State.tallyHolds
  decide +kernel

theorem witness_OrdersStayWithinTheirFunds : closing.moneyHolds ∧ ∃ t, step closing = .next t := by
  refine ⟨fun k o h => ?_, _, rfl⟩
  have all : ∀ k : Fin 32, ∀ o ∈ closing.ord.orders[k], o.consumed ≤ o.cashIn + o.cardAuth ∧ o.cardAuth = 0 := by
    decide +kernel
  exact ⟨(all k o h).1, fun _ => (all k o h).2⟩

/-- A write of two bytes about to finish, one of them of the value that an unlisted byte reads as. -/
def finishing : State :=
  let w : Access := { who := .intake, addr := 268435454, len := 2, bytes := [1, 0], live := false }
  { live with spl := { live.spl with port := some w, mem := [(4, 9), (268435455, 7)] }, pending := [.spoolAccessDone] }

theorem witness_StoresKeepTheirForm :
    finishing.memoryOk = true ∧ finishing.tablesSized
      ∧ after (step finishing) (fun t => t.spl.mem) = some [(4, 9), (268435454, 1)] := by
  refine ⟨by decide +kernel, ⟨by decide +kernel, fun e => ?_⟩, by decide +kernel⟩
  cases e <;> decide +kernel

end Sys2Proof.Tests
end

section
/-! PROOFS. Reset values, the receive frame assembler and dispatch (R3 to R7, R18, R139). -/

set_option Elab.async false

open Sys2Proof Sys2Proof.Machine

namespace Sys2Proof.Machine

/-! ### Resets -/

/-- A tone set after reset has 777 words and opens with 256 on the diagonal of the mix (R145). -/
theorem toneReset_shape : toneReset.length = 777 ∧ toneReset.take 9 = [256, 0, 0, 0, 256, 0, 0, 0, 256] := by
  refine ⟨?_, rfl⟩
  simp only [toneReset, List.length_append, List.length_range, List.length_cons, List.length_nil]

/-- Both engines after reset are the same but for their place (R162). -/
theorem State.reset_eng (e : EngineId) : State.reset.eng e = Engine.reset .offline 25 := by cases e <;> rfl

/-- Settles O3: each block of the reset state is a record of the values, and its vectors hold one value throughout. -/
theorem resetHoldsTheValuesOfTheRules : Obligations.ResetHoldsTheValuesOfTheRules := by
  unfold Obligations.ResetHoldsTheValuesOfTheRules
  intro s
  have slots (i : Fin 4) : s.csu.slots[i] = Slot.reset := by simp [s, State.reset, Cards.reset]
  have orders (k : Fin 32) : s.ord.orders[k] = none := by simp [s, State.reset, OrderTable.reset]
  have products (k : Fin 32) : s.ord.products[k] = ProductRow.reset := by simp [s, State.reset, OrderTable.reset]
  have items (i : Fin 64) : s.ord.items[i] = none := by simp [s, State.reset, OrderTable.reset]
  have table (c : Fin 6) : s.pay.table[c] = ChannelEntry.reset := by simp [s, State.reset, Payment.reset]
  have chans (c : Fin 6) : s.pay.chans[c] = Channel.reset := by simp [s, State.reset, Payment.reset]
  have tones (k : Fin 4) : s.rin.tones[k] = toneReset := by simp [s, State.reset, RasterIntake.reset]
  have regions (r : Fin 16) : s.spl.regions[r] = Region.reset := by simp [s, State.reset, Spool.reset]
  refine ⟨⟨rfl, rfl, rfl, rfl, rfl, rfl, rfl, rfl⟩, ⟨rfl, rfl, rfl, rfl, rfl, rfl⟩,
    ⟨fun i => ?_, rfl, rfl, rfl, rfl, rfl, rfl⟩, ⟨fun k => ?_, items, rfl, rfl⟩, ⟨fun c => ?_, rfl⟩, ⟨rfl, rfl, rfl, rfl⟩,
    ⟨fun k => ?_, rfl, rfl⟩, ⟨fun r => ?_, rfl, rfl⟩, fun e => ?_⟩
  · rw [slots]; exact ⟨rfl, rfl, rfl, rfl, rfl, rfl⟩
  · rw [orders, products]; exact ⟨rfl, rfl⟩
  · rw [table, chans]; exact ⟨rfl, rfl, rfl⟩
  · rw [tones]; exact toneReset_shape
  · rw [regions]; rfl
  · rw [State.reset_eng]; exact ⟨rfl, rfl, rfl, rfl, rfl, rfl⟩

/-- Settles O5: the next state is the record of reset values that POWER_ON_RESET builds, over the pins and the tally. -/
theorem powerOnResetKeepsTheMoney : Obligations.PowerOnResetKeepsTheMoney := by
  unfold Obligations.PowerOnResetKeepsTheMoney
  intro s
  refine ⟨_, rfl, ⟨rfl, rfl, rfl, rfl, rfl, rfl, rfl, rfl⟩, rfl, rfl, rfl, rfl, rfl, rfl, rfl, fun e => ?_, rfl, rfl⟩
  cases e <;> exact ⟨rfl, rfl, rfl, rfl, rfl⟩

/-! ### The receive frame assembler -/

/-- LINK_BYTE_RECEIVED hands its byte to the assembler (R3). -/
theorem exec_linkByteReceived {s : State} (hr : s.inReset = false) (b : Byte) :
    exec (.linkByteReceived b) s = .next (s.assembling (s.lnk.asm.take b)) :=
  exec_running (c := .linkByteReceived b) hr nofun

/-- The second byte of the start marker opens a frame (R3). -/
theorem huntByte_marker : huntByte true 0x3C = { state := .header, sawStart := false, bytes := [], gap := some 5 } := rfl

/-- A 0xC3 may always be the first byte of a start marker (R3). -/
theorem huntByte_start (saw : Bool) :
    huntByte saw 0xC3 = { state := .hunt, sawStart := true, bytes := [], gap := some 5 } := by
  cases saw <;> rfl

/-- Any other byte leaves HUNT with nothing seen (R3). -/
theorem huntByte_other {saw : Bool} {b : Byte} (hb : b ≠ 0xC3) (hs : saw = true → b ≠ 0x3C) :
    huntByte saw b = Assembler.hunt := by
  have hc : (saw && b == 0x3C) = false := by
    cases saw
    · rfl
    · simpa using hs rfl
  simp only [huntByte, hc, Bool.false_eq_true, if_false, if_neg hb]

theorem Assembler.take_hunt {a : Assembler} (h : a.state = .hunt) (b : Byte) : a.take b = huntByte a.sawStart b := by
  simp only [Assembler.take, h]

theorem Assembler.take_header {a : Assembler} (h : a.state = .header) (hn : a.bytes.length < 5) (b : Byte) :
    a.take b = a.collect .header b := by
  simp only [Assembler.take, h, if_pos hn]

theorem Assembler.take_payload {a : Assembler} (h : a.state = .payload) (b : Byte) :
    a.take b = a.collect (if a.bytes.length + 1 = 6 + a.payloadLength then .check else .payload) b := by
  simp only [Assembler.take, h]

theorem Assembler.take_check {a : Assembler} (h : a.state = .check) (hn : a.bytes.length = 6 + a.payloadLength)
    (b : Byte) : a.take b = a.collect .check b := by
  simp only [Assembler.take, h, if_pos hn]

/-- The second byte of the payload length (R3, R4): what the length chooses. -/
theorem exec_frameHeaderTaken {s : State} (hr : s.inReset = false) {b : Byte} (ha : s.lnk.asm.state = .header)
    (hn : s.lnk.asm.bytes.length = 5) :
    exec (.frameHeaderTaken b) s = .next
      (if u16 (s.lnk.asm.bytes ++ [b]) 4 = 0 then s.assembling (s.lnk.asm.collect .check b)
      else if u16 (s.lnk.asm.bytes ++ [b]) 4 ≤ 4096 then s.assembling (s.lnk.asm.collect .payload b)
      else s.discarded.assembling Assembler.hunt) := by
  rw [exec_running (c := .frameHeaderTaken b) hr nofun]
  simp only [runOf, Part.headerTaken, ha, hn, beq_self_eq_true, Bool.and_self, if_true]
  rw [show (s.lnk.asm.collect .header b).payloadLength = u16 (s.lnk.asm.bytes ++ [b]) 4 from rfl]
  by_cases h0 : u16 (s.lnk.asm.bytes ++ [b]) 4 = 0
  · rw [if_pos h0, if_pos h0]; rfl
  · rw [if_neg h0, if_neg h0]
    by_cases hm : u16 (s.lnk.asm.bytes ++ [b]) 4 ≤ 4096
    · rw [if_pos (c := _ ≤ Config.maxPayload) hm, if_pos hm]; rfl
    · rw [if_neg (c := _ ≤ Config.maxPayload) hm, if_neg hm]; rfl

/-- The gap timer passes its limit (R4): a lone 0xC3 is dropped, a frame that has begun is discarded. -/
theorem exec_linkGapExpiry {s : State} (hr : s.inReset = false) (hg : s.lnk.asm.gap ≠ none) :
    exec .linkGapExpiry s = .next
      (if s.lnk.asm.state = .hunt then s.assembling Assembler.hunt else s.discarded.assembling Assembler.hunt) := by
  rw [exec_running (c := .linkGapExpiry) hr nofun]
  obtain ⟨g, hg⟩ := Option.ne_none_iff_exists'.mp hg
  simp only [runOf, Part.linkGapExpires, hg]
  cases ha : s.lnk.asm.state <;> rfl

/-- Settles O7, clause by clause from what the assembler does with a byte in each of its states. -/
theorem linkBytesAreAssembled : Obligations.LinkBytesAreAssembled := by
  unfold Obligations.LinkBytesAreAssembled
  intro s hr a taken
  refine ⟨?_, ?_, exec_linkGapExpiry hr⟩
  · intro b after n
    have received {x : Assembler} (hx : a.take b = x) : after x := hx ▸ exec_linkByteReceived hr b
    refine ⟨fun h hs hb => received ?_, fun h hb => received ?_, fun h hb hs => received ?_,
      fun h hn => received (Assembler.take_header h hn b), fun h hn => received ?_, fun h hn => received ?_,
      fun h hn => received (Assembler.take_check h hn b)⟩
    · rw [Assembler.take_hunt h, hb, hs, huntByte_marker]
    · rw [Assembler.take_hunt h, hb, huntByte_start]
    · rw [Assembler.take_hunt h, huntByte_other hb hs]; rfl
    · rw [Assembler.take_payload h, if_neg (c := _ = 6 + a.payloadLength) (Nat.ne_of_lt hn)]; rfl
    · rw [Assembler.take_payload h, if_pos (c := _ = 6 + a.payloadLength) hn]; rfl
  · intro b h hn n
    exact exec_frameHeaderTaken hr h hn

/-! ### Dispatch -/

theorem u8_append_left {bs : List Byte} {o : Nat} (h : o < bs.length) (cs : List Byte) : u8 (bs ++ cs) o = u8 bs o := by
  rw [u8, List.getD_append _ _ _ _ h, u8]

theorem u16_append_left {bs : List Byte} {o : Nat} (h : o + 1 < bs.length) (cs : List Byte) :
    u16 (bs ++ cs) o = u16 bs o := by
  rw [u16, u8_append_left (by omega), u8_append_left h, u16]

theorem u8_append_length (bs : List Byte) (b : Byte) : u8 (bs ++ [b]) bs.length = b.toNat := by
  simp [u8]

/-- The second CRC byte of a frame (R3, R4): with a CRC that agrees the frame is dispatched from HUNT, and with another it is
discarded. -/
theorem exec_frameTaken {s : State} {frame : List Byte} {lo : Byte} (h : s.Framed frame lo) (b : Byte) :
    exec (.frameTaken b) s = .next (if (crc16 frame).toNat = lo.toNat + 256 * b.toNat then
      { s with toPart := (s.assembling Assembler.hunt).toPart.dispatch frame }
      else (s.assembling Assembler.hunt).discarded) := by
  obtain ⟨hr, hc, hb, hl⟩ := h
  have hn : 6 + s.lnk.asm.payloadLength = frame.length := by
    rw [Assembler.payloadLength, hb, u16_append_left (by omega), hl]
  rw [exec_running (c := .frameTaken b) hr nofun]
  simp only [runOf, Part.frameTaken, hn, hc, hb, List.length_append, List.length_singleton, beq_self_eq_true,
    Bool.and_self, if_true, List.take_left, u8_append_length]
  split <;> rfl

/-- The class of a frame (R1). -/
theorem u8_zero_of_head {bs : List Byte} {c : Byte} (h : bs.head? = some c) : u8 bs 0 = c.toNat := by
  cases bs with
  | nil => cases h
  | cons x xs => simp_all [u8]

/-- A CTRL frame goes to the control request queue once its arrival has acted on the mode (R6, R24, R28). -/
theorem Part.dispatch_ctrl (p : Part) {frame : List Byte} (h : frame.head? = some 0x01) :
    p.dispatch frame = p.controlArrival.offerCtrl (u16 frame 2) (frame.drop 6) := by
  have hc : u8 frame 0 = 1 := u8_zero_of_head h
  rw [Part.dispatch, if_pos hc]

/-- A BAND frame goes to the band queue (R6, R139). -/
theorem Part.dispatch_band (p : Part) {frame : List Byte} (h : frame.head? = some 0x02) :
    p.dispatch frame = p.offerBand (frame.drop 6) := by
  have hc : u8 frame 0 = 2 := u8_zero_of_head h
  rw [Part.dispatch, if_neg (by rw [hc]; decide), if_pos hc]

/-- A frame of any other class is discarded (R4). -/
theorem Part.dispatch_other (p : Part) {frame : List Byte} (hne : frame ≠ []) (h1 : frame.head? ≠ some 0x01)
    (h2 : frame.head? ≠ some 0x02) : p.dispatch frame = p.linkDiscard := by
  obtain ⟨c, cs, rfl⟩ := List.exists_cons_of_ne_nil hne
  have class_ne {k : Byte} (hk : (c :: cs).head? ≠ some k) : u8 (c :: cs) 0 ≠ k.toNat := by
    simpa [u8, BitVec.toNat_inj] using hk
  rw [Part.dispatch, if_neg (c := _ = 1) (class_ne h1), if_neg (c := _ = 2) (class_ne h2)]

/-- A CTRL arrival outside PARKED and WAKING ends a grace and does nothing else (R24). -/
theorem Part.controlArrival_awake (p : Part) (h : p.svc.mode.dark = false) :
    p.controlArrival
      = if p.svc.mode = .parkPending then { p with svc := { p.svc with mode := .drain, grace := none } } else p := by
  cases hm : p.svc.mode <;> simp_all [Part.controlArrival, Part.endGrace, Mode.dark]

/-- Settles O9: the BAND clauses are the two sides of the band queue's room, the others the two ways of a discard. -/
theorem bandFramesAndBadFrames : Obligations.BandFramesAndBadFrames := by
  unfold Obligations.BandFramesAndBadFrames
  intro s frame lo b hf s' good
  have hne : frame ≠ [] := List.ne_nil_of_length_pos (by rw [hf.length]; omega)
  have taken (hg : good) : exec (.frameTaken b) s = .next { s with toPart := s'.toPart.dispatch frame } := by
    rw [exec_frameTaken hf, if_pos hg]; rfl
  refine ⟨fun hg hc hq => ?_, fun hg hc hq => ?_, fun hg h1 h2 => ?_, fun hg => ?_⟩
  · rw [taken hg, Part.dispatch_band _ hc, Part.offerBand, if_pos (c := s'.rin.queue.length < Config.bandQueueRoom) hq]
    rfl
  · rw [taken hg, Part.dispatch_band _ hc, Part.offerBand,
      if_neg (c := s'.rin.queue.length < Config.bandQueueRoom) (Nat.not_lt.mpr (Nat.le_of_eq hq.symm))]
    rfl
  · rw [taken hg, Part.dispatch_other _ hne h1 h2]; rfl
  · rw [exec_frameTaken hf, if_neg hg]; rfl

/-- Settles O8: the three outcomes are the branches of the offer to the control request queue, after the arrival has acted on
the mode. -/
theorem ctrlFramesAreOffered : Obligations.CtrlFramesAreOffered := by
  unfold Obligations.CtrlFramesAreOffered
  intro s frame lo b hf hg hc hd tag payload s'
  have taken : exec (.frameTaken b) s = .next { s with toPart := s'.toPart.offerCtrl tag payload } := by
    rw [exec_frameTaken hf, if_pos hg, Part.dispatch_ctrl _ hc,
      Part.controlArrival_awake (s.assembling Assembler.hunt).toPart hd]
    simp only [s', show (s.assembling Assembler.hunt).svc = s.svc from rfl]
    split <;> rfl
  have ctrl : s'.lnk.ctrl = s.lnk.ctrl := by simp only [s']; split <;> rfl
  have replies : s'.lnk.replies = s.lnk.replies := by simp only [s']; split <;> rfl
  have pending : s'.pending = s.pending := by simp only [s']; split <;> rfl
  refine ⟨fun hq => ?_, fun hq hr => ?_, fun hq hr => ?_⟩
  · rw [taken, Part.offerCtrl, if_pos (by rw [ctrl]; exact hq), ← ctrl, ← pending]
  · rw [taken, Part.offerCtrl, if_neg (by rw [ctrl, hq]; decide), if_pos (by rw [replies]; exact hr), ← pending,
      ← State.replied_eq]
  · rw [taken, Part.offerCtrl, if_neg (by rw [ctrl, hq]; decide), if_neg (by rw [replies, hr]; decide), ← pending]; rfl

/-! ### Hand-over and transmission -/

/-- A hand-over with room in the reply queue (R10): what the request does at it takes place, and its REPLY is pushed. -/
theorem exec_replyHandover {s : State} {r : Reply} {h : Handover} (hr : s.inReset = false)
    (hh : s.lnk.handler = .serving r h) (hq : s.lnk.replies.length < 8) :
    exec .replyHandover s = .next (State.replied
      { s with toPart := { s.toPart.applyHandover h with
        lnk := { (s.toPart.applyHandover h).lnk with handler := h.handler } } } r) := by
  rw [exec_running (c := .replyHandover) hr nofun, ← State.replied_eq]
  simp only [runOf, Part.handOver, hh, if_pos (show s.lnk.replies.length < Config.replyQueueRoom from hq)]

/-- A REPLY beside a busy transmitter joins the queue (R10). -/
theorem State.replied_busy {s : State} (h : s.lnk.tx ≠ none) (r : Reply) :
    s.replied r = { s with lnk := { s.lnk with replies := s.lnk.replies ++ [r] } } := by
  obtain ⟨f, hf⟩ := Option.ne_none_iff_exists'.mp h
  simp only [State.replied, hf]

/-- A REPLY beside an idle transmitter and an empty queue is sent (R11). -/
theorem State.replied_idle {s : State} (h : s.lnk.tx = none) (hq : s.lnk.replies = []) (r : Reply) :
    s.replied r = { s with lnk := { s.lnk with
      tx := some (s.frameBegun 0x81 r.tag (r.code :: r.status.code :: r.result)), replies := [] } } := by
  simp only [State.replied, h, hq, List.nil_append]

/-- Settles O10: the REPLY is pushed once its effect has taken place, and the effect leaves ALERT and the transmitter. -/
theorem repliesAreHandedOver : Obligations.RepliesAreHandedOver := by
  unfold Obligations.RepliesAreHandedOver
  intro s r h hr hh
  refine ⟨fun hq => ?_, ?_⟩
  · rw [exec_running (c := .replyHandover) hr nofun]
    simp only [runOf, Part.handOver, hh,
      if_neg (c := s.lnk.replies.length < Config.replyQueueRoom) (Nat.not_lt.mpr hq)]
  · intro tx replies hq hbusy hidle t
    have handed {u : State} (hl : u.lnk = { s.lnk with handler := h.handler }) (ha : u.alert = s.alert) :
        u.replied r = { u with lnk := { s.lnk with tx := tx, replies := replies, handler := h.handler } } := by
      by_cases htx : s.lnk.tx = none
      · obtain ⟨hnil, rfl, rfl⟩ := hidle htx
        rw [State.replied_idle (by rw [hl]; exact htx) (by rw [hl]; exact hnil), hl, State.frameBegun, ha]
      · obtain ⟨rfl, rfl⟩ := hbusy htx
        rw [State.replied_busy (by rw [hl]; exact htx), hl]
    have done := exec_replyHandover hr hh hq
    refine ⟨?_, ?_, ?_, ?_, ?_⟩
    · rintro rfl
      exact done.trans (congrArg _ (handed rfl rfl))
    · rintro (rfl | rfl)
      · exact done.trans (congrArg _ (handed rfl rfl))
      · exact done.trans (congrArg _ (handed rfl rfl))
    · rintro rfl
      exact done.trans (congrArg _ (handed rfl rfl))
    · rintro rfl
      exact done.trans (congrArg _ (handed rfl rfl))
    · rintro rfl
      exact done.trans (congrArg _ (handed rfl rfl))

/-- The handler at the end of a frame (R12): a wait for the end of the PATH_RESET REPLY is over when that frame ends. -/
def Handler.afterFrame (h : Handler) (f : TxFrame) : Handler :=
  if h = .resetSending ∧ f.cls = 0x81 ∧ f.payload = [0x15, 0x00] then .resetDue else h

/-- The end of a frame leaves an idle transmitter, and the frames move on (R11, R62). -/
theorem exec_frameTransmitDone {s : State} {f : TxFrame} (hr : s.inReset = false) (hf : s.lnk.tx = some f) :
    exec .frameTransmitDone s
      = .next ({ s with lnk := { s.lnk with tx := none, handler := s.lnk.handler.afterFrame f } } : State).framesMoved := by
  have hh : (if (s.lnk.handler == .resetSending && f.isResetReply) = true then .resetDue else s.lnk.handler)
      = s.lnk.handler.afterFrame f := by
    simp only [Handler.afterFrame, TxFrame.isResetReply, Bool.and_eq_true, beq_iff_eq]
  rw [exec_running (c := .frameTransmitDone) hr nofun, ← State.framesMoved_eq]
  simp only [runOf, Part.transmitDone, hf, hh]

/-- An idle transmitter takes the head of the reply queue (R11). -/
theorem State.framesMoved_reply {s : State} {r : Reply} {rs : List Reply} (ht : s.lnk.tx = none)
    (hr : s.lnk.replies = r :: rs) :
    s.framesMoved = { s with
      lnk := { s.lnk with tx := some (s.frameBegun 0x81 r.tag (r.code :: r.status.code :: r.result)), replies := rs }
      csu := s.csu.offering } := by
  simp only [State.framesMoved, ht, hr]

/-- An idle transmitter with no REPLY waiting takes the offered frame (R11), and the place is refilled (R62). -/
theorem State.framesMoved_sector {s : State} {f : SectorFrame} (ht : s.lnk.tx = none) (hr : s.lnk.replies = [])
    (hf : s.csu.offering.offered = some f) :
    s.framesMoved = { s with
      lnk := { s.lnk with tx := some (s.frameBegun 0x82 f.tag f.payload), replies := [] }
      csu := Cards.offering { s.csu.offering with offered := none } } := by
  simp only [State.framesMoved, ht, hr, hf]

/-- With nothing to send the transmitter stays idle (R11). -/
theorem State.framesMoved_idle {s : State} (ht : s.lnk.tx = none) (hr : s.lnk.replies = [])
    (hf : s.csu.offering.offered = none) : s.framesMoved = { s with csu := s.csu.offering } := by
  simp only [State.framesMoved, ht, hr, hf]

/-- Beside a frame in transmission only the offered position is refilled (R62). -/
theorem State.framesMoved_busy {s : State} (ht : s.lnk.tx ≠ none) : s.framesMoved = { s with csu := s.csu.offering } := by
  obtain ⟨f, hf⟩ := Option.ne_none_iff_exists'.mp ht
  simp only [State.framesMoved, hf]

/-- The oldest ending fills an empty offered position (R62). -/
theorem Cards.offering_ending {c : Cards} {e : SectorFrame} {es : List SectorFrame} (h : c.offered = none)
    (he : c.endings = e :: es) : c.offering = { c with offered := some e, endings := es } := by
  simp only [Cards.offering, h, he]

/-- With no ending waiting the transfer buffer fills an empty offered position (R62). -/
theorem Cards.offering_buffer {c : Cards} (h : c.offered = none) (he : c.endings = []) :
    c.offering = { c with offered := c.buffer, buffer := none } := by
  simp only [Cards.offering, h, he]

/-- With nothing to offer the offered position stays empty (R62). -/
theorem Cards.offering_empty {c : Cards} (h : c.offered = none) (he : c.endings = []) (hb : c.buffer = none) :
    c.offering = c := by
  rw [Cards.offering_buffer h he]
  cases c
  simp_all

/-- Settles O11: the frames move on, and each clause is one way in which they can. -/
theorem transmitterChoosesTheNextFrame : Obligations.TransmitterChoosesTheNextFrame := by
  unfold Obligations.TransmitterChoosesTheNextFrame
  intro s f hr hf sent handler c answers
  let u : State := { s with lnk := { s.lnk with tx := none, handler := s.lnk.handler.afterFrame f } }
  have done : exec .frameTransmitDone s = .next u.framesMoved := exec_frameTransmitDone hr hf
  have full (ho : c.offered ≠ none) : u.csu.offering = c := Cards.offering_full (Option.isSome_iff_ne_none.mpr ho)
  refine ⟨fun r rs hq => ⟨fun ho => ?_, fun e es ho he => ?_, fun ho he => ?_⟩,
    fun g hq ho => ⟨fun e es he => ?_, fun he => ?_⟩, fun hq ho he hb => ?_, fun _ _ => done⟩
  · rw [State.framesMoved_reply (s := u) rfl hq, full ho] at done
    exact done
  · rw [State.framesMoved_reply (s := u) rfl hq, Cards.offering_ending (c := u.csu) ho he] at done
    exact done
  · rw [State.framesMoved_reply (s := u) rfl hq, Cards.offering_buffer (c := u.csu) ho he] at done
    exact done
  · have hc := full (by rw [ho]; nofun)
    rw [State.framesMoved_sector (s := u) rfl hq (by rw [hc]; exact ho), hc,
      Cards.offering_ending (c := { c with offered := none }) rfl he] at done
    exact done
  · have hc := full (by rw [ho]; nofun)
    rw [State.framesMoved_sector (s := u) rfl hq (by rw [hc]; exact ho), hc,
      Cards.offering_buffer (c := { c with offered := none }) rfl he] at done
    exact done
  · have hc : u.csu.offering = c := Cards.offering_empty ho he hb
    rw [State.framesMoved_idle (s := u) rfl hq (by rw [hc]; exact ho), hc] at done
    simp only [u, hq] at done
    exact done

end Sys2Proof.Machine
end

section
/-! PROOFS. What the control handler answers before a request is carried out: refusals by length, code and mode (R8, R19,
R191), and the requests that read or set the service's registers (R14, R16, R17, R20, R22). -/

set_option Elab.async false

open Sys2Proof Sys2Proof.Machine

namespace Sys2Proof.Machine

/-! ### Requests that the handler serves -/

/-- A command is the request of a code, with the lengths and the modes that let it in (R8, R19). -/
def Serves (c : Instr) (code : Byte) (lengthOk : Nat → Bool) (admits : Mode → Option Status) : Prop :=
  ∃ run : Part → Nat → List Byte → Served, ∀ s, exec c s = s.answer fun p => p.serve code lengthOk admits run

/-- What the mode answers to a request (R19). -/
def requestAdmission : Instr → Mode → Option Status
  | .goLive => admitGoLive
  | .drain => admitDrain
  | .resume => admitResume
  | .park => admitPark
  | .orderOpen | .itemAdd => admitNew
  | .sectorRead | .itemWithdraw | .orderCommit | .orderCancel | .orderResume | .orderRead | .orderRelease | .focusSet
  | .focusClear | .poolApply | .cardAuthorize => admitLive
  | _ => admitAll

/-- Every request with one argument length is served with that length and the admission of R19. -/
theorem serves_of_mem_requestRows {ms : Nat} {c : Instr} {code : Byte} {n : Nat} (h : (c, code, n) ∈ requestRows ms) :
    Serves c code (exactly n) (requestAdmission c) := by
  have all : ∀ row ∈ requestRows ms, Serves row.1 row.2.1 (exactly row.2.2) (requestAdmission row.1) := by
    simp only [requestRows, List.forall_mem_cons, List.not_mem_nil, false_imp_iff, implies_true, and_true]
    refine ⟨?_, ?_, ?_, ?_, ?_, ?_, ?_, ?_, ?_, ?_, ?_, ?_, ?_, ?_, ?_, ?_, ?_, ?_, ?_, ?_, ?_, ?_, ?_, ?_, ?_, ?_, ?_, ?_,
      ?_, ?_, ?_, ?_, ?_, ?_⟩
    all_goals exact ⟨_, fun _ => rfl⟩
  exact all _ h

/-- TABLE_WRITE has its own length check (R13). -/
theorem serves_tableWrite (ms : Nat) : Serves (.tableWrite ms) 0x01 (fun n => decide (6 ≤ n)) admitAll :=
  ⟨_, fun _ => rfl⟩

/-- A request of another length is refused with BAD_ARGUMENT before the mode is looked at (R8). -/
theorem Serves.badLength {c : Instr} {code : Byte} {lengthOk : Nat → Bool} {admits : Mode → Option Status}
    (hc : Serves c code lengthOk admits) {s : State} {tag : Nat} {args : List Byte} {rest : List CtrlEntry}
    (h : s.Asks code tag args rest) (hm : s.svc.mode.serving = true) (hl : lengthOk args.length = false) :
    exec c s = .next (s.replying rest tag code .badArgument []) := by
  obtain ⟨run, hrun⟩ := hc
  rw [hrun, State.serve_badLength h hm hl]

/-- A request that the mode does not let in is refused with the mode's status (R19). -/
theorem Serves.refused {c : Instr} {code : Byte} {lengthOk : Nat → Bool} {admits : Mode → Option Status}
    (hc : Serves c code lengthOk admits) {s : State} {tag : Nat} {args : List Byte} {rest : List CtrlEntry}
    (h : s.Asks code tag args rest) (hm : s.svc.mode.serving = true) (hl : lengthOk args.length = true) {st : Status}
    (ha : admits s.svc.mode = some st) : exec c s = .next (s.replying rest tag code st []) := by
  obtain ⟨run, hrun⟩ := hc
  rw [hrun, State.serve_refused h hm hl ha]

/-- A payload of one byte has no reserved byte and is refused with BAD_ARGUMENT (R8, R191). -/
theorem Serves.oneByte {c : Instr} {code : Byte} {lengthOk : Nat → Bool} {admits : Mode → Option Status}
    (hc : Serves c code lengthOk admits) {s : State} {tag : Nat} {rest : List CtrlEntry} (hr : s.inReset = false)
    (hi : s.lnk.handler = .idle) (hq : s.lnk.ctrl = { tag := tag, payload := [code] } :: rest)
    (hm : s.svc.mode.serving = true) : exec c s = .next (s.replying rest tag code .badArgument []) := by
  obtain ⟨run, hrun⟩ := hc
  rw [hrun, State.answer_running _ _ hr]
  simp only [Part.serve, Part.handlerFree, hi, hq, Mode.serving_not_dark hm, beq_self_eq_true, Bool.not_false, Bool.and_self,
    List.head?_cons, if_true, Part.takeRequest, Mode.serving_not_parkPending hm, Bool.false_eq_true, if_false, Part.checked]
  rfl

/-- Settles O16: each row names a request of `requestRows` whose admission gives the status in that mode. -/
theorem modesRefuseRequests : Obligations.ModesRefuseRequests := by
  unfold Obligations.ModesRefuseRequests
  intro s c code n tag args rest h hn refused row
  have refuses {mode : Mode} {st : Status} {rows : List (Instr × Byte × Nat)} (hs : mode.serving = true)
      (hrows : ∀ x ∈ rows, x ∈ requestRows 0 ∧ requestAdmission x.1 mode = some st)
      (hm : s.svc.mode = mode) (hx : row ∈ rows) : refused st :=
    (serves_of_mem_requestRows (hrows row hx).1).refused h (hm ▸ hs) (by simp [exactly, hn]) (hm ▸ (hrows row hx).2)
  exact ⟨refuses rfl (by decide), refuses rfl (by decide), refuses rfl (by decide), refuses rfl (by decide),
    refuses rfl (by decide)⟩

/-- A head that names no request is answered UNKNOWN_REQUEST (R8). -/
theorem exec_unknownRequest {s : State} {tag : Nat} {payload : List Byte} {rest : List CtrlEntry} (hr : s.inReset = false)
    (hi : s.lnk.handler = .idle) (hq : s.lnk.ctrl = { tag := tag, payload := payload } :: rest)
    (hm : s.svc.mode.serving = true) (hu : ∀ c ∈ payload.head?, c ∉ requestCodes) :
    exec .unknownRequest s = .next (s.replying rest tag (payload.getD 0 0) .unknownRequest []) := by
  have unknown : CtrlEntry.unknown { tag := tag, payload := payload } = true := by
    cases payload with
    | nil => rfl
    | cons c _ => simpa [CtrlEntry.unknown] using hu c rfl
  rw [exec_running (c := .unknownRequest) hr nofun]
  simp only [runOf, Part.refuseUnknown, Part.handlerFree, hi, hq, Mode.serving_not_dark hm, beq_self_eq_true, Bool.not_false,
    Bool.and_self, unknown, if_true, Part.takeRequest, Mode.serving_not_parkPending hm, Bool.false_eq_true, if_false]
  rfl

/-- Settles O17, from the checks that the handler makes before it looks at the mode. -/
theorem illFormedRequestsAreAnswered : Obligations.IllFormedRequestsAreAnswered := by
  unfold Obligations.IllFormedRequestsAreAnswered
  intro s ms tag rest hm
  refine ⟨fun payload hr hi hq hu => exec_unknownRequest hr hi hq hm hu, fun c code n args hrow h hl => ?_,
    fun args h hl => ?_, fun c code n hrow hr hi hq => ?_⟩
  · exact (serves_of_mem_requestRows hrow).badLength h hm (by simpa [exactly] using hl)
  · exact (serves_tableWrite ms).badLength h hm (by simpa using hl)
  · rcases List.mem_cons.mp hrow with hw | hrow
    · obtain ⟨rfl, rfl, rfl⟩ : c = .tableWrite ms ∧ code = 0x01 ∧ n = 6 := by simpa using hw
      exact (serves_tableWrite ms).oneByte hr hi hq hm
    · exact (serves_of_mem_requestRows hrow).oneByte hr hi hq hm

/-! ### Answers of the owning block -/

/-- A request that its block refuses leaves the part as it was (R8). -/
theorem State.serve_refuses {s : State} {code : Byte} {tag : Nat} {args : List Byte} {rest : List CtrlEntry}
    (h : s.Asks code tag args rest) (hm : s.svc.mode.serving = true) {lengthOk : Nat → Bool}
    {admits : Mode → Option Status} {run : Part → Nat → List Byte → Served} (hl : lengthOk args.length = true)
    (ha : admits s.svc.mode = none) {st : Status}
    (hrun : run (s.toPart.dequeue rest) tag args = .refuse (s.toPart.dequeue rest) st) :
    s.answer (fun p => p.serve code lengthOk admits run) = .next (s.replying rest tag code st []) := by
  rw [State.serve_admitted h hm hl ha, hrun]; rfl

/-! ### EVENT_MASK -/

/-- The capture kinds in the order of the table of 1.6. -/
def CaptureKind.all : List CaptureKind :=
  [.cardIn, .cardOut, .cardForeign, .slotFault, .credit, .poolCredit, .channelJam, .noisePulse, .uncountedPulse, .authResult,
    .cashlessDone, .cashlessUnconfirmed, .lateApproval, .strayMessage, .itemSpooled, .itemDone, .itemFailed, .orderFunded,
    .orderClosed, .engineFault, .heatHold, .mediaLow, .mediaOut, .budgetClip, .bandDiscard, .linkError, .wake]

/-- Every bit of a capture set is the bit of a kind (R191). -/
theorem CaptureKind.exists_index {n : Nat} (h : n < 27) : ∃ k : CaptureKind, k.index = n := by
  have indexes : CaptureKind.all.map CaptureKind.index = List.range 27 := rfl
  have hn : n ∈ CaptureKind.all.map CaptureKind.index := indexes ▸ List.mem_range.mpr h
  obtain ⟨k, -, hk⟩ := List.mem_map.mp hn
  exact ⟨k, hk⟩

theorem CaptureKind.index_lt (k : CaptureKind) : k.index < 27 := by cases k <;> decide

/-- A capture set holds some kind when it is not 0. -/
theorem CaptureSet.ne_zero_iff (c : CaptureSet) : c ≠ 0 ↔ ∃ k : CaptureKind, c.has k = true := by
  constructor
  · intro hc
    obtain ⟨i, hi, hb⟩ : ∃ i, i < 27 ∧ c.getLsbD i = true := by
      by_contra hnone
      push Not at hnone
      exact hc (BitVec.eq_of_getLsbD_eq fun i hi => by simpa using hnone i hi)
    obtain ⟨k, rfl⟩ := CaptureKind.exists_index hi
    exact ⟨k, hb⟩
  · rintro ⟨k, hk⟩ rfl
    simp [CaptureSet.has] at hk

/-- ALERT stands when a kind is in both the capture set and the mask (R15). -/
theorem Part.alert_iff (p : Part) :
    p.alert = true ↔ ∃ k : CaptureKind, p.svc.captureSet.has k = true ∧ p.svc.alertMask.has k = true := by
  rw [Part.alert, bne_iff_ne]
  refine (CaptureSet.ne_zero_iff _).trans (exists_congr fun k => ?_)
  simp only [CaptureSet.has, BitVec.getLsbD_and, Bool.and_eq_true]

/-- Settles O13: the two branches of the check of the mask. -/
theorem eventMaskReplacesTheMask : Obligations.EventMaskReplacesTheMask := by
  unfold Obligations.EventMaskReplacesTheMask
  intro s tag args rest h hm hl
  have length : exactly 4 args.length = true := by simp [exactly, hl]
  refine ⟨fun hbig => ?_, fun hsmall => ⟨_, rfl, ?_, ?_⟩⟩
  · refine State.serve_refuses h hm (admits := admitAll) length rfl ?_
    exact if_pos hbig
  · refine (State.serve_admitted h hm (admits := admitAll) length rfl).trans ?_
    rw [Part.setMask, if_neg (c := 2 ^ 27 ≤ u32 args 0) (Nat.not_le.mpr hsmall)]
    rfl
  · refine (Part.alert_iff _).trans (exists_congr fun k => and_congr_right fun _ => ?_)
    simp only [CaptureSet.has, BitVec.getLsbD_ofNat, k.index_lt, decide_true, Bool.true_and]

end Sys2Proof.Machine
end

section
/-! PROOFS. The requests that read or sum the tables and the status (R5, R12, R14, R15, R17, R20, R22). -/

set_option Elab.async false

open Sys2Proof Sys2Proof.Machine

namespace Sys2Proof.Machine

/-! ### Fields of a request -/

/-- A two-byte field reads as the number it was made of. -/
theorem le2_value {n : Nat} (h : n < 65536) : (byte n).toNat + 256 * (byte (n / 256)).toNat = n := by
  simp only [byte, BitVec.toNat_ofNat]
  omega

/-- The first index of a request for a table (13.1). -/
theorem u16_first {first : Nat} (h : first < 65536) (a b : Byte) (bs : List Byte) :
    u16 (a :: b :: (le2 first ++ bs)) 2 = first := le2_value h

/-- The count of a request for a table (13.1). -/
theorem u16_count {first count : Nat} (h : count < 65536) (a b : Byte) (bs : List Byte) :
    u16 (a :: b :: (le2 first ++ le2 count ++ bs)) 4 = count := le2_value h

/-! ### Tables -/

/-- The bytes of a table from the fields that no shared operation touches. -/
def Fixed.tableBytes (x : Fixed) : TableId → List Byte
  | .product => x.products.toList.flatMap ProductRow.bytes
  | .priceKey => [byte x.priceKey, 0]
  | .tone k => x.tones[k].flatMap le2
  | .energy .A => x.energyA.flatMap le2
  | .energy .B => x.energyB.flatMap le2
  | .params .A => x.paramsA.bytes
  | .params .B => x.paramsB.bytes
  | .channels => x.channels.toList.flatMap ChannelEntry.bytes
  | .slotParams => le2 x.previewAllowance

theorem Part.tableBytes_eq (p : Part) (T : TableId) : p.tableBytes T = p.fixed.tableBytes T := by
  cases T with
  | energy e => cases e <;> rfl
  | params e => cases e <;> rfl
  | _ => rfl

theorem Part.dequeue_tableBytes (p : Part) (rest : List CtrlEntry) (T : TableId) :
    (p.dequeue rest).tableBytes T = p.tableBytes T := by
  rw [Part.tableBytes_eq, Part.tableBytes_eq]
  cases T with
  | energy e => cases e <;> rfl
  | params e => cases e <;> rfl
  | _ => rfl

/-- Settles O15: the checks of TABLE_READ in the order in which the statement nests them. -/
theorem tableReadAnswersTheEntries : Obligations.TableReadAnswersTheEntries := by
  unfold Obligations.TableReadAnswersTheEntries
  intro s tag id instance_ first count rest hf hc hm h
  have hfirst : u16 (id :: instance_ :: (le2 first ++ le2 count)) 2 = first := u16_first hf _ _ _
  have hcount : u16 (id :: instance_ :: (le2 first ++ le2 count)) 4 = count := by
    simpa using u16_count (first := first) hc id instance_ []
  have htable : tableArg (u8 (id :: instance_ :: (le2 first ++ le2 count)) 0)
      (u8 (id :: instance_ :: (le2 first ++ le2 count)) 1) = tableArg id.toNat instance_.toNat := rfl
  refine (State.serve_admitted h hm (lengthOk := exactly 6) (admits := admitAll) rfl rfl).trans (congrArg _ ?_)
  simp only [Part.tableRead, tableRange, hfirst, hcount, htable]
  cases tableArg id.toNat instance_.toNat with
  | none => rfl
  | some T =>
    simp only [Bool.not_true, Bool.or_false, decide_eq_true_eq]
    by_cases h0 : count = 0
    · simp only [if_pos h0]; rfl
    simp only [if_neg h0]
    by_cases hr : T.entries < first + count
    · simp only [if_pos hr]; rfl
    simp only [if_neg hr]
    by_cases hp : 4096 < 2 + count * T.entrySize
    · simp only [if_pos (c := Config.maxPayload < _) hp, if_pos hp]; rfl
    · simp only [if_neg (c := Config.maxPayload < _) hp, if_neg hp, Part.tableSlice, Part.dequeue_tableBytes]; rfl

/-! ### Mode requests -/

theorem wordSum_append_words (words : List Nat) (bs : List Byte) (h : ∀ w ∈ words, w < 65536) :
    wordSum (words.flatMap le2 ++ bs) = words.sum + wordSum bs := by
  induction words with
  | nil => simp
  | cons w ws ih =>
    have hw := le2_value (h w (List.mem_cons_self ..))
    rw [List.flatMap_cons, List.append_assoc, List.sum_cons, le2, List.cons_append, List.cons_append, List.nil_append,
      wordSum, ih fun x hx => h x (List.mem_cons_of_mem _ hx), hw]
    omega

/-- The words of a table of words sum to the sum of its bytes (R20, R192). -/
theorem wordSum_words (words : List Nat) (h : ∀ w ∈ words, w < 65536) : wordSum (words.flatMap le2) = words.sum := by
  simpa [wordSum] using wordSum_append_words words [] h

/-- The words of a tone set after reset: 768 on the diagonal of the mix and three curves of 0 to 255 (R145). -/
theorem wordSum_toneReset : wordSum (toneReset.flatMap le2) = 98688 := by
  have range : (List.range 256).sum = 32640 := by decide +kernel
  rw [wordSum_words]
  · simp only [toneReset, List.sum_append, range]; rfl
  · intro w hw
    simp only [toneReset, List.mem_append, List.mem_range, List.mem_cons, List.not_mem_nil, or_false] at hw
    omega

theorem Part.dequeue_tableSum (p : Part) (rest : List CtrlEntry) : (p.dequeue rest).tableSum = p.tableSum := by
  simp only [Part.tableSum, Part.dequeue_tableBytes]

/-- 13.6: the sum of the tables after reset, table by table. -/
theorem State.reset_tableSum : State.reset.tableSum = 44586 := by
  have tone (k : Fin 4) : wordSum (State.reset.tableBytes (.tone k)) = 98688 := by
    have hk : State.reset.rin.tones[k] = toneReset := by simp [State.reset, RasterIntake.reset]
    rw [Part.tableBytes, hk, wordSum_toneReset]
  have energy (e : EngineId) : wordSum (State.reset.tableBytes (.energy e)) = 0 := by
    rw [Part.tableBytes, State.reset_eng, wordSum_words]
    · exact List.sum_eq_zero fun w hw => (List.mem_replicate.mp hw).2
    · intro w hw
      rw [(List.mem_replicate.mp hw).2]; decide
  have params (e : EngineId) : wordSum (State.reset.tableBytes (.params e)) = wordSum EngineParams.reset.bytes := by
    rw [Part.tableBytes, State.reset_eng]; rfl
  simp only [Part.tableSum, goLiveTables, List.map_cons, List.map_nil, tone, energy, params, List.sum_cons, List.sum_nil]
  decide +kernel

/-- Settles O19: the four acceptances are branches of the requests' checks; PATH_RESET's effects change the mode, the control
request queue and the handler of what no shared operation touches. -/
theorem modeRequestsAreAccepted : Obligations.ModeRequestsAreAccepted := by
  unfold Obligations.ModeRequestsAreAccepted
  refine ⟨fun s tag args rest h hl hm => ?_, State.reset_tableSum, fun s tag rest h hm => ?_, fun s tag rest h hm => ?_,
    fun s tag rest h hm => ?_, fun s hr hh => ?_⟩
  · refine (State.serve_admitted h (hm ▸ rfl) (lengthOk := exactly 2) (admits := admitGoLive) (by simp [exactly, hl])
      (hm ▸ rfl)).trans (congrArg _ ?_)
    rw [Part.checkLive, Part.dequeue_tableSum]
    by_cases hsum : u16 args 0 = s.tableSum
    · rw [if_pos hsum, if_pos (c := u16 args 0 = _ % 65536) hsum]; rfl
    · rw [if_neg hsum, if_neg (c := u16 args 0 = _ % 65536) hsum]; rfl
  · exact State.serve_admitted h (hm ▸ rfl) (lengthOk := exactly 0) (admits := admitDrain) rfl (hm ▸ rfl)
  · exact State.serve_admitted h (hm ▸ rfl) (lengthOk := exactly 0) (admits := admitResume) rfl (hm ▸ rfl)
  · exact State.serve_admitted h hm (lengthOk := exactly 0) (admits := admitAll) rfl rfl
  · have fixed : s.toPart.pathResetEffects.fixed = { s.toPart.fixed with mode := .setup, ctrl := [], handler := .idle } := by
      simp only [Part.pathResetEffects, hh, Part.feed_fixed, Part.pathResetBlocks_fixed]
    exact ⟨_, exec_running (c := .pathResetEffects) hr nofun, congrArg Fixed.mode fixed, congrArg Fixed.handler fixed,
      congrArg Fixed.ctrl fixed⟩

/-! ### Captures and STATUS_READ -/

theorem CaptureKind.all_index (k : CaptureKind) : CaptureKind.all[k.index]? = some k := by cases k <;> rfl

theorem CaptureKind.index_inj {j k : CaptureKind} (h : j.index = k.index) : j = k :=
  Option.some.inj (by rw [← CaptureKind.all_index j, h, CaptureKind.all_index])

/-- The set of one kind holds that kind alone. -/
theorem CaptureKind.bit_has (k j : CaptureKind) : CaptureSet.has k.bit j = decide (j = k) := by
  have hj := j.index_lt
  have same : j = k ↔ j.index = k.index := ⟨fun h => h ▸ rfl, CaptureKind.index_inj⟩
  rw [CaptureSet.has, CaptureKind.bit, BitVec.natCast_eq_ofNat, BitVec.getLsbD_ofNat, Nat.one_shiftLeft,
    Nat.testBit_two_pow, Bool.eq_iff_iff]
  simp only [hj, decide_true, Bool.true_and, decide_eq_true_eq, same]
  exact eq_comm

theorem CaptureSet.has_or (c d : CaptureSet) (k : CaptureKind) : CaptureSet.has (c ||| d) k = (c.has k || d.has k) :=
  BitVec.getLsbD_or

theorem CaptureSet.has_and (c d : CaptureSet) (k : CaptureKind) : CaptureSet.has (c &&& d) k = (c.has k && d.has k) :=
  BitVec.getLsbD_and

theorem CaptureSet.has_not (c : CaptureSet) (k : CaptureKind) : CaptureSet.has (~~~c) k = !c.has k := by
  simp [CaptureSet.has, k.index_lt]

/-- A capture (R15, R17), kind by kind. -/
theorem Service.capture_has (v : Service) (k j : CaptureKind) :
    (v.capture k).captureSet.has j = (v.captureSet.has j || decide (j = k)) := by
  rw [Service.capture_captureSet, CaptureSet.has_or, CaptureKind.bit_has]

theorem Service.capture_again_has (v : Service) (k j : CaptureKind) :
    (v.capture k).again.has j
      = (v.again.has j || (decide (j = k) && (v.snapshot.map fun sn => sn.has k).getD false)) := by
  cases hs : v.snapshot with
  | none => simp [Service.capture, hs]
  | some sn =>
    cases hk : sn.has k with
    | false => simp [Service.capture, hs, hk]
    | true => simp [Service.capture, hs, hk, CaptureSet.has_or, CaptureKind.bit_has]

/-- An order's place in the result keeps the others (R17). -/
theorem insertOrder_perm (o : Order) (l : List Order) : (insertOrder o l).Perm (o :: l) := by
  induction l with
  | nil => exact .refl _
  | cons x xs ih =>
    rw [insertOrder]
    split
    · exact .refl _
    · exact (ih.cons x).trans (.swap o x xs)

/-- An order joins the others in ascending order number (R17). -/
theorem insertOrder_sorted (o : Order) {l : List Order} (h : (l.map (·.number)).Pairwise (· ≤ ·)) :
    ((insertOrder o l).map (·.number)).Pairwise (· ≤ ·) := by
  induction l with
  | nil => simp [insertOrder]
  | cons x xs ih =>
    rw [List.map_cons, List.pairwise_cons] at h
    obtain ⟨hx, hxs⟩ := h
    rw [insertOrder]
    split
    · rename_i ho
      rw [List.map_cons, List.map_cons, List.pairwise_cons, List.pairwise_cons]
      refine ⟨fun n hn => ?_, hx, hxs⟩
      rcases List.mem_cons.mp hn with rfl | hn
      · exact ho
      · exact Nat.le_trans ho (hx n hn)
    · rename_i ho
      rw [List.map_cons, List.pairwise_cons]
      refine ⟨fun n hn => ?_, ih hxs⟩
      rw [((insertOrder_perm o xs).map (·.number)).mem_iff, List.map_cons, List.mem_cons] at hn
      rcases hn with rfl | hn
      · omega
      · exact hx n hn

/-- The live order records in ascending order number (R17). -/
theorem Part.liveOrders_sorted (p : Part) :
    (p.liveOrders.map (·.number)).Pairwise (· ≤ ·) ∧ p.liveOrders.Perm (p.ord.orders.toList.filterMap id) := by
  unfold Part.liveOrders
  induction p.ord.orders.toList.filterMap id with
  | nil => exact ⟨.nil, .refl _⟩
  | cons o l ih => exact ⟨insertOrder_sorted o ih.1, (insertOrder_perm o _).trans (ih.2.cons o)⟩

theorem le2_length (n : Nat) : (le2 n).length = 2 := rfl
theorem le4_length (n : Nat) : (le4 n).length = 4 := rfl

/-- An absent identity is eight bytes of 0, and an absent order is 0 (R191). -/
theorem optIdentity_eq (c : Option Identity) :
    optIdentity c = le4 ((c.map (·.serial)).getD 0) ++ le4 ((c.map (·.capacity)).getD 0) := by cases c <;> rfl
theorem optOrder_eq (n : Option Nat) : optOrder n = le2 (n.getD 0) := by cases n <;> rfl

/-- A named value is sent as its place in the table that first lists it (R191). -/
theorem SlotState.code_eq (x : SlotState) : x.code
    = byte (([.empty, .settling, .identifying, .ready, .bound, .absentBound, .foreign, .fault]
      : List SlotState).idxOf x) := by
  cases x <;> rfl
theorem EngineState.code_eq (x : EngineState) : x.code
    = byte (([.absent, .offline, .idle, .loading, .panel, .heatHold, .ejecting, .needsMedia, .fault]
        : List EngineState).idxOf x) := by
  cases x <;> rfl
theorem Mode.code_eq (x : Mode) :
    x.code = byte (([.setup, .live, .drain, .parkPending, .parked, .waking] : List Mode).idxOf x) := by
  cases x <;> rfl
theorem OrderState.code_eq (x : OrderState) :
    x.code = byte (([.opened, .committed, .settling, .closed, .halted] : List OrderState).idxOf x) := by
  cases x <;> rfl
theorem Strap.code_eq (x : Strap) : Strap.code x = if x = .one then 1 else 2 := by cases x <;> rfl
theorem optByte_panel (x : Option Panel) :
    optByte (x.map Panel.code) = (x.map fun p => byte (([.Y, .M, .C, .F] : List Panel).idxOf p)).getD 0xFF := by
  rcases x with _ | x
  · rfl
  · cases x <;> rfl
theorem optByte_fault (x : Option FaultKind) : optByte (x.map FaultKind.code)
    = (x.map fun k => byte (([.paperJam, .ribbonBreak, .headHot, .doorOpen, .mediaMismatch] : List FaultKind).idxOf k)).getD
      0xFF := by
  rcases x with _ | x
  · rfl
  · cases x <;> rfl

/-- The STATUS_READ result in bytes (13.2). -/
theorem statusLayout_holds : statusLayout := by
  refine ⟨fun s i => ?_, fun en => ?_, fun s => ⟨s.toPart.liveOrders, s.liveOrders_sorted.1, s.liveOrders_sorted.2, ?_⟩⟩
  · intro x
    refine ⟨?_, ?_⟩
    · simp only [Part.slotSummary, SlotState.code_eq, optIdentity_eq, optOrder_eq, List.append_assoc]; rfl
    · simp only [Part.slotSummary, optIdentity_eq, optOrder_eq, List.length_append, le2_length, le4_length]; rfl
  · intro panels faults
    refine ⟨?_, ?_⟩
    · simp only [Engine.summary, EngineState.code_eq, optByte_panel, optByte_fault]; rfl
    · simp only [Engine.summary, List.length_append, le2_length]; rfl
  · simp only [Part.statusResult, Mode.code_eq, Strap.code_eq, OrderState.code_eq]
    have slots : (List.finRange 4).flatMap s.slotSummary
        = s.slotSummary 0 ++ s.slotSummary 1 ++ s.slotSummary 2 ++ s.slotSummary 3 := by
      rw [show List.finRange 4 = [0, 1, 2, 3] from rfl]
      simp only [List.flatMap_cons, List.flatMap_nil, List.append_nil, List.append_assoc]
    rw [slots]
    simp only [List.append_assoc]
    rfl

/-- Settles O12: the layout, the snapshot that the request takes, its clear at the hand-over kind by kind, and a capture. -/
theorem statusReadClearsWhatItReported : Obligations.StatusReadClearsWhatItReported := by
  unfold Obligations.StatusReadClearsWhatItReported
  refine ⟨statusLayout_holds, fun s tag clear rest h hm => ?_, fun s r clear sn hr hh hq hs => ?_,
    fun v k j => ⟨v.capture_has k j, v.capture_again_has k j, rfl⟩⟩
  · refine (State.serve_admitted h hm (lengthOk := exactly 1) (admits := admitAll) rfl rfl).trans (congrArg _ ?_)
    have arg : u8 [clear] 0 = clear.toNat := rfl
    have flag : (clear.toNat == 1) = (clear == 1) := by
      rw [Bool.eq_iff_iff, beq_iff_eq, beq_iff_eq, ← BitVec.toNat_inj]; rfl
    simp only [Part.statusRead, arg, flag]
    split <;> rfl
  · refine ⟨s.svc.captureSet &&& ~~~(sn &&& ~~~s.svc.again), ?_, fun k => ?_⟩
    · rw [exec_replyHandover hr hh hq]
      simp only [Part.applyHandover, Part.statusClear, hs]
      rfl
    · simp only [CaptureSet.has_and, CaptureSet.has_not]

end Sys2Proof.Machine
end

section
/-! PROOFS. The transfer path in the terms of the statements: the ends of read requests, the turns, the drop of a binding
(R46, R57, R60, R63 to R66), and what the moving of frames does not look at (R11, R62). -/

set_option Elab.async false

open Sys2Proof Sys2Proof.Machine

namespace Sys2Proof.Machine

/-! ### Frames held for a request -/

/-- A holding place once LAST and an outcome stand in its frame, where `ends` picks the frame (R63). -/
def markLast (o : ReadOutcome) (ends : SectorFrame → Bool) (place : Option SectorFrame) : Option SectorFrame :=
  place.map fun f => if ends f then f.ending o else f

theorem heldFor_eq (r : ReadReq) (place : Option SectorFrame) : heldFor r place = holdsFrame place r := by
  cases place <;> rfl

theorem holdsFrame_markLast (o : ReadOutcome) (ends : SectorFrame → Bool) (place : Option SectorFrame) (r : ReadReq) :
    holdsFrame (markLast o ends place) r = holdsFrame place r := by
  cases place with
  | none => rfl
  | some f => simp only [holdsFrame, markLast, Option.map_some, Option.any_some]; split <;> rfl

/-- A frame that is picked once or later carries LAST once. -/
theorem markLast_markLast (o : ReadOutcome) (e e' : SectorFrame → Bool) (h : ∀ f, e' (f.ending o) = e' f)
    (place : Option SectorFrame) : markLast o e' (markLast o e place) = markLast o (fun f => e f || e' f) place := by
  cases place with
  | none => rfl
  | some f =>
    by_cases he : e f = true
    · by_cases he' : e' f = true
      · simp [markLast, he, he', SectorFrame.ending]
      · simp [markLast, he, he', h]
    · simp [markLast, he]

theorem markLast_of_held {place : Option SectorFrame} {r : ReadReq} (h : holdsFrame place r = true) (o : ReadOutcome) :
    markLast o (fun f => f.uid == r.uid) place = place.map (·.ending o) := by
  cases place with
  | none => rfl
  | some f => simp only [markLast, Option.map_some, show (f.uid == r.uid) = true from h, if_true]

theorem markLast_of_not_held {place : Option SectorFrame} {r : ReadReq} (h : holdsFrame place r = false) (o : ReadOutcome) :
    markLast o (fun f => f.uid == r.uid) place = place := by
  cases place with
  | none => rfl
  | some f => simp only [markLast, Option.map_some, show (f.uid == r.uid) = false from h, Bool.false_eq_true, if_false]

theorem markLast_none (o : ReadOutcome) (place : Option SectorFrame) : markLast o (fun _ => false) place = place := by
  cases place <;> rfl

theorem Cards.readsEnded_eq (c : Cards) (i : Fin 4) (rs : List ReadReq) (o : ReadOutcome) :
    c.readsEnded i rs o = { c with
      buffer := markLast o (fun f => rs.any fun r => f.uid == r.uid) c.buffer
      offered := markLast o (fun f => rs.any fun r => f.uid == r.uid && !holdsFrame c.buffer r) c.offered
      endings := c.endings ++ (rs.filter fun r => !holdsFrame c.buffer r && !holdsFrame c.offered r).map
        fun r => endingFrame i r o } := rfl

/-- The frames once one request has ended (R63): LAST is placed where its last frame is held, else on an empty frame. -/
theorem Cards.readsEnded_one (c : Cards) (i : Fin 4) (r : ReadReq) (o : ReadOutcome) :
    c.readsEnded i [r] o
      = if holdsFrame c.buffer r then { c with buffer := c.buffer.map (·.ending o) }
        else if holdsFrame c.offered r then { c with offered := c.offered.map (·.ending o) }
        else { c with endings := c.endings ++ [endingFrame i r o] } := by
  rw [Cards.readsEnded_eq]
  simp only [List.any_cons, List.any_nil, Bool.or_false, List.filter_cons, List.filter_nil]
  cases hb : holdsFrame c.buffer r with
  | true => simp [markLast_of_held hb, markLast_none]
  | false =>
    cases ho : holdsFrame c.offered r with
    | true => simp [markLast_of_not_held hb, markLast_of_held ho]
    | false => simp [markLast_of_not_held hb, markLast_of_not_held ho]

/-- Requests end one after the other (R63, R65). -/
theorem Cards.readsEnded_cons (c : Cards) (i : Fin 4) (r : ReadReq) (rs : List ReadReq) (o : ReadOutcome) :
    (c.readsEnded i [r] o).readsEnded i rs o = c.readsEnded i (r :: rs) o := by
  simp only [Cards.readsEnded_eq, holdsFrame_markLast]
  rw [markLast_markLast _ _ _ fun _ => rfl, markLast_markLast _ _ _ fun _ => rfl, List.append_assoc, ← List.map_append,
    ← List.filter_append]
  simp only [List.any_cons, List.any_nil, Bool.or_false, List.cons_append, List.nil_append]

theorem Cards.readsEnded_nil (c : Cards) (i : Fin 4) (o : ReadOutcome) : c.readsEnded i [] o = c := by
  simp only [Cards.readsEnded_eq, List.any_nil, markLast_none, List.filter_nil, List.map_nil, List.append_nil]

theorem Part.placeLast_eq (p : Part) (i : Fin 4) (r : ReadReq) (o : ReadOutcome) :
    p.placeLast i r o = { p with csu := p.csu.readsEnded i [r] o } := by
  rw [Cards.readsEnded_one, Part.placeLast, heldFor_eq, heldFor_eq]
  split
  · rfl
  · split <;> rfl

/-! ### The ends of requests -/

/-- The transfer path stands with its frames and one slot record as given; all else is as it was. -/
def Part.withPath (p : Part) (c : Cards) (i : Fin 4) (x : Slot) : Part :=
  { p with csu := { c with slots := p.csu.slots.set i x } }

theorem Part.withPath_slot (p : Part) (c : Cards) (i : Fin 4) (x : Slot) : (p.withPath c i x).csu.slots[i] = x :=
  Vector.getElem_set_self _

/-- More requests end on the transfer path as the first have left it. -/
theorem Part.withPath_readsEnded (p : Part) (c : Cards) (i : Fin 4) (x y : Slot) (rs : List ReadReq) (o : ReadOutcome) :
    (p.withPath c i x).withPath ((p.withPath c i x).csu.readsEnded i rs o) i y = p.withPath (c.readsEnded i rs o) i y := by
  simp only [Part.withPath, Vector.set_set]
  rfl

/-- A slot record once a request has left its queue (R63, R64). -/
def Slot.readEnded (x : Slot) (o : ReadOutcome) (r : ReadReq) : Slot :=
  { x with
    queue := x.queue.filter fun q => q.uid != r.uid
    allowance := if r.preview && o == .cancelled then x.allowance + (r.count - r.produced) else x.allowance }

/-- The end of one request (R63, R64). -/
theorem Part.endRead_eq (p : Part) (i : Fin 4) (o : ReadOutcome) (r : ReadReq) :
    p.endRead i o r = p.withPath (p.csu.readsEnded i [r] o) i (p.csu.slots[i].readEnded o r) := by
  rw [Part.endRead, Part.placeLast_eq]
  rfl

/-- The ends of several requests that give no allowance back (R63, R65). -/
theorem Part.foldl_endRead (p : Part) (i : Fin 4) (o : ReadOutcome) (rs : List ReadReq)
    (h : ∀ r ∈ rs, (r.preview && o == .cancelled) = false) :
    rs.foldl (fun p r => p.endRead i o r) p = p.withPath (p.csu.readsEnded i rs o) i
      { p.csu.slots[i] with queue := p.csu.slots[i].queue.filter fun q => rs.all fun r => q.uid != r.uid } := by
  induction rs generalizing p with
  | nil =>
    simp only [List.foldl_nil, Cards.readsEnded_nil, List.all_nil, List.filter_true, Part.withPath]
    rw [set_self]
  | cons r rs ih =>
    have hr := h r (List.mem_cons_self ..)
    rw [List.foldl_cons, ih _ fun q hq => h q (List.mem_cons_of_mem _ hq), Part.endRead_eq, Part.withPath_slot,
      Part.withPath_readsEnded, Cards.readsEnded_cons]
    simp only [Slot.readEnded, hr, Bool.false_eq_true, if_false, List.filter_filter, List.all_cons, Bool.and_comm]

/-- No request is left once all of a queue have ended (R65). -/
theorem queue_all_ended (queue : List ReadReq) : (queue.filter fun q => queue.all fun r => q.uid != r.uid) = [] := by
  rw [List.filter_eq_nil_iff]
  intro q hq hall
  simpa using List.all_eq_true.mp hall q hq

/-- The request in service is left once those behind it have ended (R66). -/
theorem queue_rest_ended (r : ReadReq) (rest : List ReadReq) (h : ∀ q ∈ rest, q.uid ≠ r.uid) :
    ((r :: rest).filter fun q => rest.all fun r => q.uid != r.uid) = [r] := by
  have stays : (rest.all fun q => r.uid != q.uid) = true := by
    rw [List.all_eq_true]
    exact fun q hq => by simpa using (h q hq).symm
  simp only [List.filter_cons, stays, if_true, queue_all_ended]

/-! ### Turns -/

theorem Part.hasTurn_eq (p : Part) (i : Fin 4) : p.hasTurn i = p.csu.turnOf i := by
  unfold Part.hasTurn Cards.turnOf
  cases p.csu.turn <;> rfl

theorem Part.beginTurn_eq (p : Part) :
    p.beginTurn = { p with csu := if p.csu.turn = none then { p.csu with turn := p.csu.nextTurn } else p.csu } := by
  unfold Part.beginTurn
  cases ht : p.csu.turn with
  | some t => rfl
  | none =>
    have order : ([1, 2, 3, 0] : List (Fin 4)).map (fun d => p.csu.lastServed + d)
        = [p.csu.lastServed + 1, p.csu.lastServed + 2, p.csu.lastServed + 3, p.csu.lastServed] := by simp
    have waits : (fun j : Fin 4 => p.csu.slots[j].queue != []) = fun j => !p.csu.slots[j].queue.isEmpty := by
      funext j; cases p.csu.slots[j].queue <;> rfl
    simp only [if_true, Cards.nextTurn, order, waits]
    cases List.find? _ _ with
    | some j => rfl
    | none => simp only [Option.map_none, ← ht]

/-- A slot's turn ends and the next one begins (R57, R60). -/
theorem Part.endTurn_beginTurn (p : Part) (i : Fin 4) :
    (p.endTurn i).beginTurn = { p with csu := p.csu.turnEnded i } := by
  rw [Part.beginTurn_eq, Part.endTurn, Part.hasTurn_eq, Cards.turnEnded]
  cases p.csu.turnOf i <;> rfl

/-- All requests of a slot end and its turn ends (R60, R63, R65). -/
theorem Part.endAllReads_eq (p : Part) (i : Fin 4) (o : ReadOutcome)
    (h : ∀ r ∈ p.csu.slots[i].queue, (r.preview && o == .cancelled) = false) :
    p.endAllReads i o = Part.feed { p with
      csu := Cards.turnEnded { p.csu.readsEnded i p.csu.slots[i].queue o with
        slots := p.csu.slots.set i { p.csu.slots[i] with queue := [] } } i } := by
  rw [Part.endAllReads, Part.foldl_endRead p i o _ h, queue_all_ended, Part.endTurn_beginTurn]
  rfl

/-- All requests of a slot end on a transfer path that stands as given (R60, R63, R65). -/
theorem Part.withPath_endAllReads (p : Part) (c : Cards) (i : Fin 4) (x : Slot) (o : ReadOutcome)
    (h : ∀ r ∈ x.queue, (r.preview && o == .cancelled) = false) :
    (p.withPath c i x).endAllReads i o = Part.feed { p with
      csu := Cards.turnEnded { c.readsEnded i x.queue o with slots := p.csu.slots.set i { x with queue := [] } } i } := by
  rw [Part.endAllReads_eq _ i o (by rwa [Part.withPath_slot]), Part.withPath_slot]
  simp only [Part.withPath, Vector.set_set]
  rfl

/-! ### The drop of a binding -/

/-- The slot's part of a dropped binding, its requests aside (R46). -/
def Slot.unbound (x : Slot) (allowance : Nat) : Slot :=
  { x with
    bound := none
    state := match x.state with
      | .bound | .foreign => .ready
      | .absentBound => .empty
      | other => other
    allowance := if x.state = .bound ∨ x.state = .foreign then allowance else x.allowance }

theorem Slot.unbound_eq (x : Slot) (allowance : Nat) : x.unbound allowance = { x with
    bound := none
    state := match x.state with
      | .bound | .foreign => .ready
      | .absentBound => .empty
      | other => other
    allowance := match x.state with
      | .bound | .foreign => allowance
      | _ => x.allowance } := by
  cases h : x.state <;> simp [Slot.unbound, h]

/-- The transfer path once the reads of an unbound slot have ended CANCELLED, but for the one in service while its attempt is
under way (R66). -/
def Cards.readsCancelled (c : Cards) (i : Fin 4) : Cards :=
  match c.turnOf i && c.slots[i].bus.phase != .idle && !c.slots[i].bus.orphan, c.slots[i].queue with
  | true, r :: rest =>
    { c.readsEnded i rest .cancelled with
      slots := c.slots.set i { c.slots[i] with queue := [{ r with cancelPending := true }] } }
  | _, _ =>
    Cards.turnEnded { c.readsEnded i c.slots[i].queue .cancelled with
      slots := c.slots.set i { c.slots[i] with queue := [] } } i

/-- The reads end where the statements put them (R66). -/
theorem Part.cancelReads_eq (p : Part) (i : Fin 4) (h : p.csu.slots[i].readsApart) :
    p.cancelReads i = Part.feed { p with csu := p.csu.readsCancelled i } := by
  obtain ⟨owned, apart⟩ := h
  have kept : ∀ r ∈ p.csu.slots[i].queue, (r.preview && ReadOutcome.cancelled == .cancelled) = false := fun r hr => by
    rw [owned r hr]; rfl
  have all := Part.endAllReads_eq p i .cancelled kept
  unfold Part.cancelReads Part.attempting Cards.readsCancelled
  rw [Part.hasTurn_eq]
  cases p.csu.turnOf i && p.csu.slots[i].bus.phase != .idle && !p.csu.slots[i].bus.orphan with
  | false => rw [all]
  | true =>
    cases hq : p.csu.slots[i].queue with
    | nil => rw [all, hq]
    | cons r rest =>
      simp only
      rw [Part.foldl_endRead _ i .cancelled rest fun q hq' => kept q (hq ▸ List.mem_cons_of_mem _ hq')]
      have head : (p.modSlot i fun s => { s with queue := { r with cancelPending := true } :: s.queue.drop 1 })
          = p.withPath p.csu i { p.csu.slots[i] with queue := { r with cancelPending := true } :: rest } := by
        rw [Part.modSlot, hq]; rfl
      rw [head, Part.withPath_slot, Part.withPath_readsEnded,
        queue_rest_ended { r with cancelPending := true } rest (apart r rest hq)]
      rfl

/-- A slot that is not BOUND only moves (R46). -/
theorem Cards.bindingDropped_other {c : Cards} {i : Fin 4} (h : c.slots[i].state ≠ .bound) :
    c.bindingDropped i = { c with slots := c.slots.set i (c.slots[i].unbound c.previewAllowance) } := by
  rw [Cards.bindingDropped, if_neg h]
  rfl

/-- A BOUND slot moves and its reads end (R46, R66). -/
theorem Cards.bindingDropped_bound {c : Cards} {i : Fin 4} (h : c.slots[i].state = .bound) :
    c.bindingDropped i
      = Cards.readsCancelled { c with slots := c.slots.set i (c.slots[i].unbound c.previewAllowance) } i := by
  have slot : (c.slots.set i (c.slots[i].unbound c.previewAllowance))[i] = c.slots[i].unbound c.previewAllowance :=
    Vector.getElem_set_self _
  rw [Cards.bindingDropped, if_pos h, Cards.readsCancelled]
  simp only [slot, Vector.set_set]
  rfl

/-- The binding of a slot is dropped (R46, R66). -/
theorem Part.releaseSlot_eq (p : Part) (i : Fin 4) (h : p.csu.slots[i].readsApart) :
    p.releaseSlot i = if p.csu.slots[i].state = .bound then Part.feed { p with csu := p.csu.bindingDropped i }
      else { p with csu := p.csu.bindingDropped i } := by
  let q := p.withPath p.csu i (p.csu.slots[i].unbound p.csu.previewAllowance)
  have moved : p.releaseSlot i = if p.csu.slots[i].state == .bound then q.cancelReads i else q := by
    simp only [q, Slot.unbound_eq]
    rfl
  rw [moved]
  by_cases hb : p.csu.slots[i].state = .bound
  · have apart : q.csu.slots[i].readsApart := by
      rw [Part.withPath_slot]
      exact h
    rw [if_pos hb, if_pos (by rw [hb]; rfl), Cards.bindingDropped_bound hb, Part.cancelReads_eq q i apart]
    rfl
  · rw [if_neg hb, if_neg (by simpa using hb), Cards.bindingDropped_other hb]
    rfl

/-! ### What the moving of frames does not look at -/

/-- Frames move by the capture set and the alert mask, and leave every field of SVC (R11). -/
theorem State.framesMoved_svc (s : State) (v : Service) (hc : v.captureSet = s.svc.captureSet)
    (hm : v.alertMask = s.svc.alertMask) : ({ s with svc := v } : State).framesMoved = { s.framesMoved with svc := v } := by
  have begun (cls : Byte) (tag : Nat) (payload : List Byte) :
      ({ s with svc := v } : State).frameBegun cls tag payload = s.frameBegun cls tag payload := by
    have alert : ({ s with svc := v } : State).alert = s.alert := by simp only [Part.alert, hc, hm]
    simp only [State.frameBegun]
    rw [alert]
  unfold State.framesMoved
  simp only [begun]
  split <;> rfl

/-- Frames move whatever the control handler does (R11). -/
theorem State.framesMoved_handler (s : State) (handler : Handler) :
    ({ s with lnk := { s.lnk with handler := handler } } : State).framesMoved
      = { s.framesMoved with lnk := { s.framesMoved.lnk with handler := handler } } := by
  unfold State.framesMoved
  cases s.lnk.tx with
  | some f => rfl
  | none =>
    cases s.lnk.replies with
    | cons r rs => rfl
    | nil => simp only; cases s.csu.offering.offered <;> rfl

/-- Frames move past SVC and the slot records. -/
theorem State.framesMoved_svc_eq (s : State) : s.framesMoved.svc = s.svc := by
  unfold State.framesMoved
  simp only
  split <;> rfl

theorem Cards.offering_slots (c : Cards) : c.offering.slots = c.slots := by
  unfold Cards.offering
  split <;> rfl

theorem Part.feed_slots (p : Part) : p.feed.csu.slots = p.csu.slots := by
  have kick (q : Part) : q.kick.csu.slots = q.csu.slots := by
    unfold Part.kick
    split
    · rfl
    · split
      · rfl
      · split <;> rfl
  rw [Part.feed, Part.refill_eq, Cards.offering_slots, kick, Part.refill_eq, Cards.offering_slots]

/-- A request whose effect lets frames move: they move whether its REPLY waits or not (R10, R11). -/
theorem State.hold_framesMoved (u : State) (tag : Nat) (code : Byte) (st : Status) (result : List Byte) (h : Handover) :
    ({ u with toPart := Part.hold tag code ⟨u.toPart.feed, st, result, h⟩ } : State)
      = State.framesMoved { u with lnk := { u.lnk with
          handler := .serving { tag := tag, code := code, status := st, result := result } h } } := by
  rw [State.framesMoved_handler, ← State.framesMoved_eq]
  rfl

end Sys2Proof.Machine
end

section
/-! PROOFS. The card slots and the sector reads (R38, R42, R43, R46, R47, R57 to R66). -/

set_option Elab.async false

open Sys2Proof Sys2Proof.Machine

namespace Sys2Proof.Machine

/-! ### STOP -/

/-- The readings of a response without data (R37, R38). -/
theorem responseStatus_bad {status check : Byte} (h : check ≠ status ∨ (status ≠ 0x00 ∧ status ≠ 0x01)) :
    responseStatus status [] check = .error := by
  have sum : sum8 [status] = status := by simp [sum8]
  rw [responseStatus, sum]
  rcases h with h | ⟨h0, h1⟩
  · rw [if_neg h]
  · rw [cardStatus, if_neg h0, if_neg h1, ite_self]

/-- A slot faults (R38, R65). -/
theorem State.slotFault_eq (s : State) (i : Fin 4) :
    ({ s with toPart := s.toPart.slotFault i } : State) = State.framesMoved { s with
      svc := s.svc.capture .slotFault
      csu := Cards.turnEnded { s.csu.readsEnded i s.csu.slots[i].queue .readError with
        slots := s.csu.slots.set i
          { s.csu.slots[i] with state := .fault, identity := none, bus := quietBus, queue := [] } } i } := by
  have fault : s.toPart.slotFault i = ((s.toPart.capture .slotFault).withPath s.csu i
      { s.csu.slots[i] with state := .fault, identity := none, bus := quietBus }).endAllReads i .readError := rfl
  rw [fault, Part.withPath_endAllReads _ _ _ _ _ fun r _ => Bool.and_false _, ← State.framesMoved_eq]
  rfl

/-- A STOP that awaits its response (R38, R59), for each reading of the response. -/
theorem Part.stopResponse_ok {p : Part} {i : Fin 4} {arg : Nat} {status check : Byte}
    (hp : p.csu.slots[i].bus.phase = .awaiting .stop arg) (h : responseStatus status [] check = .ok) :
    p.stopResponse i status check = p.stopAnswered i := by
  simp only [Part.stopResponse, hp, h]

theorem Part.stopResponse_busy {p : Part} {i : Fin 4} {arg : Nat} {status check : Byte}
    (hp : p.csu.slots[i].bus.phase = .awaiting .stop arg) (h : responseStatus status [] check = .busy) :
    p.stopResponse i status check = p.cardBusy i .stop arg := by
  simp only [Part.stopResponse, hp, h]

theorem Part.stopResponse_error {p : Part} {i : Fin 4} {arg : Nat} {status check : Byte}
    (hp : p.csu.slots[i].bus.phase = .awaiting .stop arg) (h : responseStatus status [] check = .error) :
    p.stopResponse i status check = p.slotFault i := by
  simp only [Part.stopResponse, hp, h]

/-- The queue without its head, when no other request carries the head's number. -/
theorem queue_head_ended {r : ReadReq} {rest : List ReadReq} (h : ∀ q ∈ rest, q.uid ≠ r.uid) :
    ((r :: rest).filter fun q => q.uid != r.uid) = rest := by
  rw [List.filter_cons, if_neg (by simp), List.filter_eq_self]
  exact fun q hq => by simpa using h q hq

/-- The request at the head of a queue ends and the slot's turn with it (R60, R63, R64). -/
theorem Part.withPath_endHead (p : Part) (c : Cards) (i : Fin 4) (x : Slot) (o : ReadOutcome) (r : ReadReq)
    (rest : List ReadReq) (hq : x.queue = r :: rest) (h : ∀ q ∈ rest, q.uid ≠ r.uid) :
    (((p.withPath c i x).endRead i o r).endTurn i).beginTurn = { p with
      csu := Cards.turnEnded { c.readsEnded i [r] o with
        slots := p.csu.slots.set i { x with
          queue := rest
          allowance := if r.preview && o == .cancelled then x.allowance + (r.count - r.produced)
            else x.allowance } } i } := by
  rw [Part.endRead_eq, Part.withPath_slot, Part.withPath_readsEnded, Part.endTurn_beginTurn, Slot.readEnded, hq,
    queue_head_ended h]
  rfl

/-- Settles O36: the three readings of the response, the timeout and the end of the BUSY run. -/
theorem stopOutcomes : Obligations.StopOutcomes := by
  unfold Obligations.StopOutcomes
  intro s i hr x faulted
  have answers (status check : Byte) :
      exec (.stopResponse i status check) s = .next { s with toPart := s.toPart.stopResponse i status check } :=
    exec_running (c := .stopResponse i status check) hr nofun
  refine ⟨fun arg hp => ⟨?_, fun status check hbad => ?_, ?_⟩, fun arg hp hb => ?_, fun arg r rest hp ho hq hret huid => ?_⟩
  · rw [answers, Part.stopResponse_busy hp rfl]
    rfl
  · rw [answers, Part.stopResponse_error hp (responseStatus_bad hbad)]
    exact congrArg _ (State.slotFault_eq s i)
  · rw [exec_running (c := .cardResponseTimeout i) hr nofun]
    simp only [runOf, Part.responseTimeout, show s.csu.slots[i].bus.phase = _ from hp]
    exact congrArg _ (State.slotFault_eq s i)
  · rw [exec_running (c := .stopBusyLimit i) hr nofun]
    have cmd : s.csu.slots[i].bus.phase.cmd = some .stop := by
      rcases hp with hp | hp <;> rw [show s.csu.slots[i].bus.phase = _ from hp] <;> rfl
    have run : s.csu.slots[i].bus.busyRun.isSome = true := Option.isSome_iff_ne_none.mpr hb
    simp only [runOf, Part.stopBusyExpired, cmd, run, beq_self_eq_true, Bool.and_self, if_true]
    exact congrArg _ (State.slotFault_eq s i)
  · rw [answers, Part.stopResponse_ok hp rfl]
    have ends : s.toPart.stopAnswered i = Part.feed ((((s.toPart.withPath s.csu i { x with bus := quietBus }).endRead i
        (if r.cancelPending then .cancelled else .readError) r).endTurn i).beginTurn) := by
      simp only [Part.stopAnswered, show s.csu.slots[i].bus.orphan = false from ho,
        show s.csu.slots[i].queue = r :: rest from hq, hret, if_true, Bool.false_eq_true, if_false]
      rfl
    have back : (r.preview && (if r.cancelPending = true then ReadOutcome.cancelled else .readError) == .cancelled)
        = decide (r.cancelPending = true ∧ r.preview = true) := by
      cases r.cancelPending <;> cases r.preview <;> rfl
    rw [ends, Part.withPath_endHead _ _ _ { x with bus := quietBus } _ _ rest hq huid, ← State.framesMoved_eq]
    simp only [back, decide_eq_true_eq]

/-! ### Sectors -/

/-- A turn's end leaves the frames where they are (R60). -/
theorem Cards.turnEnded_frames (c : Cards) (i : Fin 4) :
    (c.turnEnded i).offered = c.offered ∧ (c.turnEnded i).endings = c.endings ∧ (c.turnEnded i).buffer = c.buffer := by
  unfold Cards.turnEnded
  simp only
  split <;> split <;> exact ⟨rfl, rfl, rfl⟩

/-- A frame alone in the transfer buffer is offered and sent at once beside an idle link (R11, R62). -/
theorem State.framesMoved_buffered {s : State} {f : SectorFrame} (htx : s.lnk.tx = none) (hrep : s.lnk.replies = [])
    (ho : s.csu.offered = none) (he : s.csu.endings = []) (hb : s.csu.buffer = some f) :
    s.framesMoved = { s with
      lnk := { s.lnk with tx := some (s.frameBegun 0x82 f.tag f.payload) }, csu := { s.csu with buffer := none } } := by
  have first : s.csu.offering = { s.csu with offered := some f, buffer := none } := by rw [Cards.offering_buffer ho he, hb]
  rw [State.framesMoved_sector (f := f) htx hrep (by rw [first]), first,
    Cards.offering_empty (c := { s.csu with offered := none, buffer := none }) rfl he rfl]
  simp only [← ho, ← hrep]

/-- Settles O35: what follows a sector is one of four moves of the transfer path, and then the frames move on. -/
theorem sectorsAreProduced : Obligations.SectorsAreProduced := by
  unfold Obligations.SectorsAreProduced
  intro s i data r rest n hr hp ho hd ht hq huid x r' ends frame produced t answers
  let c : Cards := { s.csu with buffer := some (r.frame i data), turn := some { slot := i, count := n + 1 } }
  let y : Slot := { x with queue := r' :: rest, delivered := (x.delivered + 1) % 4294967296, bus := quietBus }
  have hq' : s.csu.slots[i].queue = r :: rest := hq
  have read : exec (.dataPhaseComplete i data (le2 (crc16 data).toNat)) s
      = .next { s with toPart := ((s.toPart.withPath c i y).afterSector i r' (n + 1)).feed } := by
    have check : dataCheck (le2 (crc16 data).toNat) = (crc16 data).toNat := le2_value (crc16 data).isLt
    rw [exec_running (c := .dataPhaseComplete i data (le2 (crc16 data).toNat)) hr nofun]
    simp only [runOf, Part.dataComplete, hp, ho, hd, check, le2_length, beq_self_eq_true, Bool.and_self, if_true,
      Bool.false_eq_true, if_false, Part.produceSector, ht, hq']
    rfl
  have last (o : ReadOutcome) : c.readsEnded i [r'] o = { c with buffer := some ((r.frame i data).ending o) } := by
    rw [Cards.readsEnded_one, if_pos (by simp [c, r', holdsFrame, ReadReq.frame])]
    rfl
  have ended (o : ReadOutcome) := Part.withPath_endHead s.toPart c i y o r' rest rfl huid
  have after : (s.toPart.withPath c i y).afterSector i r' (n + 1) = { s.toPart with csu := t } := by
    rw [Part.afterSector]
    by_cases hc : r.cancelPending = true
    · have he : ends = true := by simp only [ends, hc, Bool.true_or]
      rw [if_pos (c := r'.cancelPending = true) hc, ended, last, show t = produced.turnEnded i from if_pos (.inl he)]
      simp only [produced, frame, he, hc, if_true, true_and, beq_self_eq_true, Bool.and_true]
      rfl
    rw [if_neg (c := r'.cancelPending = true) hc]
    by_cases hl : r.produced + 1 = r.count
    · have he : ends = true := by simp only [ends, hl, beq_self_eq_true, Bool.or_true]
      rw [if_pos (c := r'.produced = r'.count) hl, ended, last, show t = produced.turnEnded i from if_pos (.inl he)]
      have kept : (r'.preview && ReadOutcome.ok == .cancelled) = false := Bool.and_false _
      simp only [produced, frame, he, hc, kept, if_true, Bool.false_eq_true, if_false, false_and]
      rfl
    rw [if_neg (c := r'.produced = r'.count) hl]
    have he : ends = false := by simp only [ends, hc, Bool.false_or, beq_eq_false_iff_ne, ne_eq, hl, not_false_eq_true]
    have goesOn : s.toPart.withPath c i y = { s.toPart with csu := produced } := by
      simp only [produced, frame, he, hc, Bool.false_eq_true, if_false, false_and]
      rfl
    by_cases hn : 8 ≤ n + 1
    · rw [if_pos (c := Config.turnSectors ≤ n + 1) hn, Part.endTurn_beginTurn, goesOn,
        show t = produced.turnEnded i from if_pos (.inr hn)]
    · rw [if_neg (c := Config.turnSectors ≤ n + 1) hn, goesOn, show t = produced from if_neg (by rw [he]; simpa using hn)]
  let u : State := { s with csu := t }
  have done : exec (.dataPhaseComplete i data (le2 (crc16 data).toNat)) s = .next u.framesMoved := by
    rw [read, after, ← State.framesMoved_eq]
  have frames : t.offered = s.csu.offered ∧ t.endings = s.csu.endings ∧ t.buffer = some frame := by
    simp only [t]
    split
    · exact Cards.turnEnded_frames _ _
    · exact ⟨rfl, rfl, rfl⟩
  obtain ⟨offered, endings, buffer⟩ := frames
  refine ⟨fun hf htx => ?_, fun hf he htx => ?_, fun hf he htx hrep => ?_, done⟩
  · rw [State.framesMoved_busy (s := u) htx, Cards.offering_full (c := u.csu)
      (Option.isSome_iff_ne_none.mpr (offered ▸ hf))] at done
    exact done
  · rw [State.framesMoved_busy (s := u) htx, Cards.offering_buffer (c := u.csu) (offered.trans hf) (endings.trans he),
      show u.csu.buffer = some frame from buffer] at done
    exact done
  · intro flags sent
    rw [State.framesMoved_buffered (s := u) htx hrep (offered.trans hf) (endings.trans he) buffer] at done
    exact done

end Sys2Proof.Machine
end

section
/-! PROOFS. The removal of a card (R30, R42, R43, R65) and the requests that end reads (R46, R47, R64). -/

set_option Elab.async false

open Sys2Proof Sys2Proof.Machine

namespace Sys2Proof.Machine

/-! ### A removal -/

/-- SVC once a slot's debounce has failed (R30). -/
def Service.debounceStopped (v : Service) (i : Fin 4) : Service :=
  { v with
    debounce := v.debounce.set i.val none, request := v.request &&& ~~~(BitVec.ofNat 6 (2 ^ i.val))
    mode := if ∃ j : Fin 5, j.val ≠ i.val ∧ v.debounce[j] ≠ none then .waking else .parked }

/-- Some debounce runs beside a stopped one when one of the others runs (R30). -/
theorem debouncing_set (v : Service) (i : Fin 4) (r : WakeSet) :
    ({ v with debounce := v.debounce.set i.val none, request := r } : Service).debouncing = true
      ↔ ∃ j : Fin 5, j.val ≠ i.val ∧ v.debounce[j] ≠ none := by
  have each (j : Nat) (hj : j < 5) : (v.debounce.set i.val none)[j] = if i.val = j then none else v.debounce[j] :=
    Vector.getElem_set ..
  simp only [Service.debouncing, List.any_eq_true, List.mem_iff_getElem, Vector.length_toList, Vector.getElem_toList]
  constructor
  · rintro ⟨x, ⟨j, hj, rfl⟩, hx⟩
    rw [each] at hx
    by_cases h : i.val = j
    · rw [if_pos h] at hx; exact nomatch hx
    · rw [if_neg h] at hx
      exact ⟨⟨j, hj⟩, fun e => h e.symm, Option.isSome_iff_ne_none.mp hx⟩
  · rintro ⟨j, hj, hx⟩
    exact ⟨_, ⟨j, j.isLt, rfl⟩, by rw [each, if_neg fun e => hj e.symm]; exact Option.isSome_iff_ne_none.mpr hx⟩

theorem WakeSource.bit_slot (i : Fin 4) : (WakeSource.slot i).bit = BitVec.ofNat 6 (2 ^ i.val) := by
  rw [WakeSource.bit, WakeSource.index, Nat.one_shiftLeft]
  rfl

/-- The debounce of a slot that runs fails with its card (R30). -/
theorem Part.failDebounce_slot_stops {p : Part} {i : Fin 4} (hm : p.svc.mode = .waking)
    (hd : p.svc.debounce[i.val] ≠ none) : p.failDebounce (.slot i) = { p with svc := p.svc.debounceStopped i } := by
  have runs : p.svc.debounce[slotTimer i].isSome = true := Option.isSome_iff_ne_none.mpr hd
  simp only [Part.failDebounce, hm, WakeSource.timer, runs, if_true, WakeSource.bit_slot, Service.debounceStopped,
    ← debouncing_set _ i (p.svc.request &&& ~~~(BitVec.ofNat 6 (2 ^ i.val)))]
  rfl

/-- No debounce of a slot fails outside WAKING or while none runs (R30). -/
theorem Part.failDebounce_slot_rests {p : Part} {i : Fin 4} (h : p.svc.mode ≠ .waking ∨ p.svc.debounce[i.val] = none) :
    p.failDebounce (.slot i) = p := by
  unfold Part.failDebounce
  split
  next t hm ht =>
    cases ht
    rw [if_neg]
    have rests := h.resolve_left (· hm)
    simp only [show p.svc.debounce[slotTimer i] = none from rests, Option.isSome_none, Bool.false_eq_true, not_false_eq_true]
  next => rfl

theorem Slot.removedState_eq (x : Slot) : x.removedState = removalState x.state x.bound.isSome := by
  unfold Slot.removedState removalState
  cases x.state <;> rfl

/-- The removal of a card (R42, R43, R65). -/
theorem Part.removeCard_eq (p : Part) (i : Fin 4) :
    p.removeCard i = Part.feed { p with
      svc := p.svc.capture .cardOut
      csu := Cards.turnEnded { p.csu.readsEnded i p.csu.slots[i].queue .cardGone with
        slots := p.csu.slots.set i { p.csu.slots[i] with
          state := removalState p.csu.slots[i].state p.csu.slots[i].bound.isSome, settling := none, identify := none
          bus := quietBus, identity := none, resume := none, holdComplete := false, allowance := 0, queue := [] } } i } := by
  rw [← Slot.removedState_eq]
  exact Part.withPath_endAllReads (p.capture .cardOut) p.csu i { p.csu.slots[i] with
    state := p.csu.slots[i].removedState, settling := none, identify := none, bus := quietBus
    identity := none, resume := none, holdComplete := false, allowance := 0 } .cardGone fun r _ => Bool.and_false _

/-- Settles O28: the card goes, frames move, and a debounce that runs has failed. -/
theorem cardRemovalEndsTheReads : Obligations.CardRemovalEndsTheReads := by
  unfold Obligations.CardRemovalEndsTheReads
  intro s i hr hpin hcard x removed
  have svc (v : Service) : (removed v).svc = v.capture .cardOut := rfl
  have done : exec (.cardRemoval i) s
      = .next { (removed s.svc).framesMoved with
          toPart := (removed s.svc).framesMoved.toPart.failDebounce (.slot i) } := by
    have gone : ({ s with toPart := (s.toPart.setDetect i false).removeCard i } : State) = (removed s.svc).framesMoved := by
      rw [Part.removeCard_eq, ← State.framesMoved_eq]
      rfl
    rw [← gone]
    show Host.Outcome.next { s with toPart := s.toPart.detectFalls i } = _
    rw [Part.detectFalls, if_pos hpin, if_neg (by rw [Part.setDetect_inReset, hr]; nofun)]
    simp only [Part.setDetect_csu, hcard, if_true]
  refine ⟨fun h => ?_, fun hm hd => ?_⟩
  · rw [done, Part.failDebounce_slot_rests (by rw [State.framesMoved_svc_eq, svc]; exact h)]
  · rw [done, Part.failDebounce_slot_stops (by rw [State.framesMoved_svc_eq, svc]; exact hm)
      (by rw [State.framesMoved_svc_eq, svc]; exact hd), State.framesMoved_svc_eq, svc]
    exact congrArg _ (State.framesMoved_svc (removed s.svc) ((s.svc.capture .cardOut).debounceStopped i) rfl rfl).symm

/-! ### Slot arguments -/

theorem slotArg_none {n : Nat} (h : 4 ≤ n) : slotArg n = none := dif_neg (Nat.not_lt.mpr h)

theorem slotArg_some {n : Nat} {i : Fin 4} (h : n = i.val) : slotArg n = some i := by
  subst h
  exact dif_pos i.isLt

/-! ### READ_CANCEL -/

/-- READ_CANCEL by what the slot's queue holds (R64). -/
theorem Part.readCancel_noSlot {p : Part} {args : List Byte} (h : 4 ≤ u8 args 0) :
    p.readCancel args = .refuse p .badArgument := by
  rw [Part.readCancel, slotArg_none h]

theorem Part.readCancel_notFound {p : Part} {args : List Byte} {i : Fin 4} (h : u8 args 0 = i.val)
    (hf : p.csu.slots[i].queue.find? (fun r => r.tag == u16 args 2) = none) :
    p.readCancel args = .refuse p .badArgument := by
  simp only [Part.readCancel, slotArg_some h, hf]

theorem Part.readCancel_found {p : Part} {args : List Byte} {i : Fin 4} {r : ReadReq} (h : u8 args 0 = i.val)
    (hf : p.csu.slots[i].queue.find? (fun r => r.tag == u16 args 2) = some r) :
    p.readCancel args = .done (p.cancelRead i r) ((if p.inService i r then 1 else 0) :: le2 r.produced) := by
  simp only [Part.readCancel, slotArg_some h, hf]
  rfl

/-- A read that is not under way ends at once, its turn with it when it was in service (R57, R60, R64). -/
theorem Part.cancelRead_ends {p : Part} {i : Fin 4} {r : ReadReq} (h : p.inService i r = false ∨ p.attempting i = false) :
    let ended : Cards := { p.csu.readsEnded i [r] .cancelled with
      slots := p.csu.slots.set i (p.csu.slots[i].readEnded .cancelled r) }
    p.cancelRead i r = Part.feed { p with csu := if p.inService i r then ended.turnEnded i else ended } := by
  intro ended
  have endRead : p.endRead i .cancelled r = { p with csu := ended } := Part.endRead_eq ..
  rw [Part.cancelRead]
  by_cases hs : p.inService i r = true
  · rw [if_pos hs, if_pos hs, if_neg (by simp [h.resolve_left (by simp [hs])]), Part.endTurn_beginTurn, endRead]
  · rw [if_neg hs, if_neg hs, endRead]

/-- Settles O33: the refusals, the attempt under way, and the request that ends at once. -/
theorem readCancelEndsTheRequest : Obligations.ReadCancelEndsTheRequest := by
  unfold Obligations.ReadCancelEndsTheRequest
  intro s tag args rest h hl hm
  have length : exactly 4 args.length = true := by simp [exactly, hl]
  refine ⟨fun hbig => State.serve_refuses h hm (admits := admitAll) length rfl (Part.readCancel_noSlot hbig),
    fun i hi => ⟨fun hnone => State.serve_refuses h hm (admits := admitAll) length rfl (Part.readCancel_notFound hi hnone),
      fun r hr huid => ?_⟩⟩
  have done : exec .readCancel s = .next { s with toPart := Part.hold tag 0x22 (.done ((s.toPart.dequeue rest).cancelRead i r)
      ((if s.toPart.inService i r then 1 else 0) :: le2 r.produced)) } :=
    (State.serve_admitted h hm (admits := admitAll) length rfl).trans
      (by rw [Part.readCancel_found (p := s.toPart.dequeue rest) hi hr]; rfl)
  refine ⟨fun hs ha => ?_, fun hs => ?_⟩
  · have pends : (s.toPart.dequeue rest).cancelRead i r = (s.toPart.dequeue rest).modSlot i fun x =>
        { x with queue := x.queue.map fun q => if q.uid = r.uid then { q with cancelPending := true } else q } := by
      rw [Part.cancelRead, if_pos (c := (s.toPart.dequeue rest).inService i r = true) hs,
        if_pos (c := (s.toPart.dequeue rest).attempting i = true) ha]
    rw [done, pends, hs]
    rfl
  · have back (x y : Nat) : (if (r.preview && ReadOutcome.cancelled == .cancelled) = true then x else y)
        = if r.preview = true then x else y := by cases r.preview <;> rfl
    rw [done, Part.cancelRead_ends (p := s.toPart.dequeue rest) hs]
    refine (congrArg _ (State.hold_framesMoved { s with toPart := _ } tag 0x22 .ok _ .plain)).trans ?_
    simp only [Slot.readEnded, back]
    rfl

/-! ### SLOT_UNBIND -/

/-- The bound order of a slot, when it is HALTED (R47). -/
theorem Part.boundHalted_eq {p : Part} {n : Nat} {k : Fin 32} {o : Order} (hk : p.orderIdx n = some k)
    (ho : p.ord.orders[k] = some o) : p.boundHalted n = if o.state = .halted then some k else none := by
  simp only [Part.boundHalted, hk, ho, beq_iff_eq]

/-- The part once an order has lost its slot and the slot its order, but for the moving of frames (R46). -/
def Part.unbinding (p : Part) (k : Fin 32) (o : Order) (i : Fin 4) : Part :=
  { p with
    ord := { p.ord with orders := p.ord.orders.set k (some { o with slot := none, locked := none }) }
    csu := p.csu.bindingDropped i }

/-- A change of a record in use (R71). -/
theorem Part.modOrder_eq {p : Part} {k : Fin 32} {o : Order} (ho : p.ord.orders[k] = some o) (f : Order → Order) :
    p.modOrder k f = { p with ord := { p.ord with orders := p.ord.orders.set k (some (f o)) } } := by
  simp only [Part.modOrder, ho, Option.map_some]

/-- An order loses its slot and the slot its order (R46); frames move when reads have ended. -/
theorem Part.dropBinding_eq {p : Part} {k : Fin 32} {o : Order} {i : Fin 4} (ho : p.ord.orders[k] = some o)
    (hs : o.slot = some i) (h : p.csu.slots[i].readsApart) :
    p.dropBinding k
      = if p.csu.slots[i].state = .bound then (p.unbinding k o i).feed else p.unbinding k o i := by
  simp only [Part.dropBinding, ho, hs, Part.modOrder_eq ho]
  exact Part.releaseSlot_eq _ i h

/-- SLOT_UNBIND by what the slot is bound to (R47). -/
theorem Part.slotUnbind_noSlot {p : Part} {args : List Byte} (h : 4 ≤ u8 args 0) :
    p.slotUnbind args = .refuse p .badArgument := by
  rw [Part.slotUnbind, slotArg_none h]

theorem Part.slotUnbind_unbound {p : Part} {args : List Byte} {i : Fin 4} (h : u8 args 0 = i.val)
    (hb : p.csu.slots[i].bound = none) : p.slotUnbind args = .refuse p .wrongState := by
  simp only [Part.slotUnbind, slotArg_some h, hb]

theorem Part.slotUnbind_running {p : Part} {args : List Byte} {i : Fin 4} {n : Nat} (h : u8 args 0 = i.val)
    (hb : p.csu.slots[i].bound = some n) (hn : p.boundHalted n = none) : p.slotUnbind args = .refuse p .wrongState := by
  simp only [Part.slotUnbind, slotArg_some h, hb, hn]

theorem Part.slotUnbind_halted {p : Part} {args : List Byte} {i : Fin 4} {n : Nat} {k : Fin 32} (h : u8 args 0 = i.val)
    (hb : p.csu.slots[i].bound = some n) (hn : p.boundHalted n = some k) :
    p.slotUnbind args = .done (p.dropBinding k) [(p.dropBinding k).csu.slots[i].state.code] := by
  simp only [Part.slotUnbind, slotArg_some h, hb, hn]

/-- Settles O31: the refusals, and the drop of the binding of a slot in BOUND or in another state. -/
theorem slotUnbindFreesTheSlot : Obligations.SlotUnbindFreesTheSlot := by
  unfold Obligations.SlotUnbindFreesTheSlot
  intro s tag arg rest h hm
  have refuses {st : Status} (hrun : (s.toPart.dequeue rest).slotUnbind [arg] = .refuse (s.toPart.dequeue rest) st) :
      exec .slotUnbind s = .next (s.replying rest tag 0x20 st []) :=
    State.serve_refuses h hm (lengthOk := exactly 1) (admits := admitAll) rfl rfl hrun
  refine ⟨fun hbig => refuses (Part.slotUnbind_noSlot hbig), fun i hi =>
    ⟨fun hnone => refuses (Part.slotUnbind_unbound hi hnone), fun n k o hb hk ho => ?_⟩⟩
  have halted : (s.toPart.dequeue rest).boundHalted n = _ := Part.boundHalted_eq hk ho
  refine ⟨fun hst => refuses (Part.slotUnbind_running hi hb (halted.trans (if_neg hst))), ?_⟩
  intro hst hslot apart dropped t
  have drops := Part.dropBinding_eq (p := s.toPart.dequeue rest) ho hslot apart
  refine (State.serve_admitted h hm (lengthOk := exactly 1) (admits := admitAll) rfl rfl).trans (congrArg _ ?_)
  rw [Part.slotUnbind_halted (p := s.toPart.dequeue rest) (args := [arg]) hi hb (halted.trans (if_pos hst))]
  by_cases hbound : s.csu.slots[i].state = .bound
  · rw [drops.trans (if_pos hbound), Part.feed_slots, if_pos hbound]
    exact State.hold_framesMoved { s with toPart := (s.toPart.dequeue rest).unbinding k o i } tag 0x20 .ok _ .plain
  · rw [drops.trans (if_neg hbound), if_neg hbound]
    rfl

end Sys2Proof.Machine
end

section
/-! PROOFS. The end of a settlement operation: the close of its order (R102) and the next operation (R129, R134 to R136). -/

set_option Elab.async false

open Sys2Proof Sys2Proof.Machine

namespace Sys2Proof.Machine

/-! ### Orders and their records -/

/-- The record found under a number carries that number (R71). -/
theorem Part.orderIdx_number {p : Part} {n : Nat} {k : Fin 32} {o : Order} (hk : p.orderIdx n = some k)
    (ho : p.ord.orders[k] = some o) : o.number = n := by
  have found := List.find?_some hk
  simpa only [ho, beq_iff_eq] using found

theorem Part.liveOrder_eq {p : Part} {n : Nat} {k : Fin 32} {o : Order} (hk : p.orderIdx n = some k)
    (ho : p.ord.orders[k] = some o) : p.liveOrder n = some (k, o) := by
  simp only [Part.liveOrder, hk, ho]

theorem Part.loseFocus_eq (p : Part) (n : Nat) :
    p.loseFocus n = { p with pay := { p.pay with focus := if p.pay.focus = some n then none else p.pay.focus } } := by
  unfold Part.loseFocus
  by_cases h : p.pay.focus = some n
  · rw [if_pos (by rw [h, beq_self_eq_true]), if_pos h]
  · rw [if_neg (by simpa using h), if_neg h]

/-- The part once an order's binding is dropped, but for the moving of frames (R46). -/
def Part.orderUnbinding (p : Part) (k : Fin 32) (o : Order) : Part :=
  { p with ord := { p.ord with orders := p.ord.orders.set k (some o.unbound) }, csu := p.csu.orderUnbound o }

/-- The drop of an order's binding, where it has one (R46). -/
theorem Part.dropBinding_order {p : Part} {k : Fin 32} {o : Order} (ho : p.ord.orders[k] = some o)
    (h : ∀ i, o.slot = some i → p.csu.slots[i].readsApart) :
    p.dropBinding k = if o.slot.any (fun i => p.csu.slots[i].state == .bound) then (p.orderUnbinding k o).feed
      else p.orderUnbinding k o := by
  cases hs : o.slot with
  | none =>
    have same : p.orderUnbinding k o = p := by
      simp only [Part.orderUnbinding, Order.unbound, Cards.orderUnbound, hs, Option.isSome_none, Bool.false_eq_true,
        if_false, ← ho]
      rw [set_self]
    simp only [Part.dropBinding, ho, hs, same, Option.any_none, Bool.false_eq_true, if_false]
  | some i =>
    have same : p.orderUnbinding k o = p.unbinding k o i := by
      simp only [Part.orderUnbinding, Part.unbinding, Order.unbound, Cards.orderUnbound, hs, Option.isSome_some, if_true]
    rw [Part.dropBinding_eq ho hs (h i hs), same]
    simp only [Option.any_some, beq_iff_eq]

/-- The part once a SETTLING order has closed, but for the moving of frames (R102, R120). -/
def Part.closing (p : Part) (k : Fin 32) (o : Order) (captured : Option Nat) : Part :=
  { p with
    ord := { p.ord with orders := p.ord.orders.set k (some { o.unbound with state := .closed, captured := captured }) }
    svc := p.svc.capture .orderClosed
    csu := p.csu.orderUnbound o
    pay := { p.pay with
      kept := p.pay.kept + o.cashUsed, pool := p.pay.pool + o.changeDue
      focus := if p.pay.focus = some o.number then none else p.pay.focus } }

/-- The close of a SETTLING order (R102, R120). -/
theorem State.closeOrder_eq {s : State} {k : Fin 32} {o : Order} (ho : s.ord.orders[k] = some o) (hs : o.state = .settling)
    (apart : s.slotApart o) (captured : Option Nat) :
    ({ s with toPart := s.toPart.closeOrder k captured } : State)
      = State.framesUnbound { s with toPart := s.toPart.closing k o captured } s.csu o := by
  let closed : Order := { o with state := .closed, captured := captured }
  let paid : Part := { s.toPart with
    pay := { s.pay with kept := s.pay.kept + o.cashUsed, pool := s.pay.pool + o.changeDue } }
  let p : Part := ((paid.modOrder k fun o => { o with state := .closed, captured := captured }).loseFocus o.number).capture
    .orderClosed
  have close : s.toPart.closeOrder k captured = p.dropBinding k := by
    simp only [Part.closeOrder, ho, hs, beq_self_eq_true, if_true]
    rfl
  have hp : p = { paid with
      ord := { s.ord with orders := s.ord.orders.set k (some closed) }
      svc := s.svc.capture .orderClosed
      pay := { paid.pay with focus := if s.pay.focus = some o.number then none else s.pay.focus } } := by
    simp only [p, Part.modOrder_eq (p := paid) ho, Part.loseFocus_eq]
    rfl
  have hk : p.ord.orders[k] = some closed := by rw [hp]; exact Vector.getElem_set_self _
  have unbound : closed.unbound = { o.unbound with state := .closed, captured := captured } := by
    simp only [Order.unbound, closed]
    split <;> rfl
  have drops := Part.dropBinding_order (p := p) (o := closed) hk (by rw [hp]; exact apart)
  have same : p.csu = s.csu := by rw [hp]
  have gone : p.orderUnbinding k closed = s.toPart.closing k o captured := by
    rw [Part.orderUnbinding, unbound, hp]
    simp only [Vector.set_set]
    rfl
  rw [same] at drops
  by_cases hb : (o.slot.any fun i => s.csu.slots[i].state == .bound) = true
  · rw [close, drops.trans (if_pos hb), gone, State.framesUnbound, if_pos hb, ← State.framesMoved_eq]
  · rw [close, drops.trans (if_neg hb), gone, State.framesUnbound, if_neg hb]

/-! ### The operation queue -/

/-- Nothing is sent while nothing waits (R129). -/
theorem Part.endOp_idle {p : Part} (h : p.clc.queue = []) :
    p.endOp = { p with clc := { p.clc with outstanding := none } } := by
  simp only [Part.endOp, Part.pump, h]

/-- The queue's head is sent, and no operation waits for its entry (R129). -/
theorem Part.endOp_next {p : Part} {next : CashlessOp} {queue : List CashlessOp} (h : p.clc.queue = next :: queue)
    (hw : p.ord.waiting = []) (hl : p.clc.late = []) :
    p.endOp = { p with clc := { p.clc with outstanding := some { op := next, timer := none }, queue := queue } } := by
  simp only [Part.endOp, Part.pump, h, hw, hl]

/-- The queue's head is sent, and its entry goes to the late-release list (R129). -/
theorem Part.endOp_late {p : Part} {next : CashlessOp} {queue : List CashlessOp} {r : Nat} {late : List Nat}
    (h : p.clc.queue = next :: queue) (hw : p.ord.waiting = []) (hl : p.clc.late = r :: late) :
    p.endOp = { p with clc := { p.clc with
      outstanding := some { op := next, timer := none }
      queue := queue ++ [{ kind := .lateRelease, ref := r, amount := 0 }], late := late } } := by
  simp only [Part.endOp, Part.pump, h, hw, hl]

/-- The queue's head is sent, and its entry goes to ORD's oldest waiting operation (R129). -/
theorem Part.endOp_waiting {p : Part} {next w : CashlessOp} {queue waiting : List CashlessOp} {k : Fin 32} {o : Order}
    (h : p.clc.queue = next :: queue) (hw : p.ord.waiting = w :: waiting) (hk : p.orderIdx w.ref = some k)
    (ho : p.ord.orders[k] = some o) :
    p.endOp = { p with
      clc := { p.clc with outstanding := some { op := next, timer := none }, queue := queue ++ [w] }
      ord := { p.ord with
        waiting := waiting
        orders := p.ord.orders.set k (some { o with cashless := { o.cashless with
          state := if w.kind = .capture then .capturing else .releasing } }) } } := by
  let q : Part := { p with
    clc := { p.clc with outstanding := some { op := next, timer := none }, queue := queue ++ [w] }
    ord := { p.ord with waiting := waiting } }
  have sent : p.endOp = q.markHanded w := by
    simp only [Part.endOp, Part.pump, h, hw]
    rfl
  have found : q.orderIdx w.ref = some k := hk
  rw [sent, Part.markHanded]
  simp only [found]
  rw [Part.modOrder_eq (p := q) ho]
  simp only [beq_iff_eq, q]

/-! ### The ends of settlement operations -/

/-- A message about an operation is taken whole (R127, R193). -/
theorem State.Heard.isMessage {s : State} {type b : Byte} {ref : Nat} (h : s.Heard type (le2 ref) b)
    (ht : terminalBody type = some 2) : s.clc.rx.isMessage b type = true := by
  simp only [Receiver.isMessage, Receiver.ends, h.sum, h.bytes, h.check, ht, beq_self_eq_true, List.head?_cons,
    Bool.true_and]
  rfl

theorem State.Heard.ref {s : State} {type b : Byte} {ref : Nat} (h : s.Heard type (le2 ref) b) (hr : ref < 65536) :
    u16 s.clc.rx.bytes 2 = ref := by
  rw [h.bytes]
  exact le2_value hr

theorem State.exec_captured {s : State} {b : Byte} {ref : Nat} (h : s.Heard 0x83 (le2 ref) b) (hr : ref < 65536) {q : Part}
    (taken : (s.toPart.setRx Receiver.hunt).takeCaptured ref = q) : exec (.captured b) s = .next { s with toPart := q } := by
  rw [exec_running (c := .captured b) h.running nofun]
  simp only [runOf, h.isMessage rfl, h.ref hr, if_true, taken]

theorem State.exec_released {s : State} {b : Byte} {ref : Nat} (h : s.Heard 0x84 (le2 ref) b) (hr : ref < 65536) {q : Part}
    (taken : (s.toPart.setRx Receiver.hunt).takeReleased ref = q) : exec (.released b) s = .next { s with toPart := q } := by
  rw [exec_running (c := .released b) h.running nofun]
  simp only [runOf, h.isMessage rfl, h.ref hr, if_true, taken]

theorem Part.waitsFor_eq {p : Part} {x : Outstanding} (h : p.clc.outstanding = some x) (kind : OpKind) (ref : Nat) :
    p.waitsFor kind ref = (x.op.kind == kind && x.op.ref == ref) := by
  simp only [Part.waitsFor, h]

/-- A CAPTURE or RELEASE ends and its order closes (R102, R134). -/
theorem State.settlementEnds_eq {s : State} {ref : Nat} {k : Fin 32} {o : Order} (hq : s.clc.queue = [])
    (hk : s.toPart.orderIdx ref = some k) (ho : s.ord.orders[k] = some o) (hs : o.state = .settling) (apart : s.slotApart o)
    (st : CashlessState) (kind : CaptureKind) (captured : Order → Option Nat) :
    ({ s with toPart := s.toPart.settlementEnds ref st kind captured } : State)
      = State.framesUnbound { s.operationEnded.withOrder k { o.unbound with
          state := .closed, captured := captured o, cashless := { o.cashless with state := st } } with
        svc := (s.svc.capture kind).capture .orderClosed
        csu := s.csu.orderUnbound o
        pay := { s.pay with
          kept := s.pay.kept + o.cashUsed, pool := s.pay.pool + o.changeDue
          focus := if s.pay.focus = some ref then none else s.pay.focus } } s.csu o := by
  let o' : Order := { o with cashless := { o.cashless with state := st } }
  let u : State := (s.operationEnded.withOrder k o').captured kind
  have live : ({ s.toPart with clc := { s.clc with outstanding := none } } : Part).liveOrder ref = some (k, o) :=
    Part.liveOrder_eq hk ho
  have ends : ({ s with toPart := s.toPart.settlementEnds ref st kind captured } : State)
      = { u with toPart := u.toPart.closeOrder k (captured o) } := by
    simp only [Part.settlementEnds, Part.endOp_idle hq, live, Part.modCashless]
    rw [Part.modOrder_eq (p := { s.toPart with clc := { s.clc with outstanding := none } }) ho]
    rfl
  have unbound (st' : OrderState) (c : Option Nat) : ({ o'.unbound with state := st', captured := c } : Order)
      = { o.unbound with state := st', captured := c, cashless := o'.cashless } := by
    simp only [Order.unbound, o']
    split <;> rfl
  have number : o'.number = ref := Part.orderIdx_number (o := o) hk ho
  rw [ends, State.closeOrder_eq (s := u) (k := k) (o := o') (Vector.getElem_set_self _) hs apart]
  simp only [Part.closing, unbound, u, State.captured, State.withOrder, Vector.set_set,
    number]
  rfl

/-- An outstanding operation whose timer runs (R129). -/
theorem Part.timedOp_eq {p : Part} {x : Outstanding} (hx : p.clc.outstanding = some x) (ht : x.timer ≠ none) :
    p.timedOp = some x.op := by
  obtain ⟨n, hn⟩ := Option.ne_none_iff_exists'.mp ht
  obtain ⟨op, timer⟩ := x
  obtain rfl : timer = some n := hn
  simp only [Part.timedOp, hx]

theorem State.exec_settlementTimeout {s : State} {x : Outstanding} (hr : s.inReset = false)
    (hx : s.clc.outstanding = some x) (ht : x.timer ≠ none) (hk : x.op.kind = .capture ∨ x.op.kind = .release) :
    exec .settlementOpTimeout s = .next { s with
      toPart := s.toPart.settlementEnds x.op.ref .unconfirmed .cashlessUnconfirmed fun _ => none } := by
  rw [exec_running (c := .settlementOpTimeout) hr nofun]
  simp only [runOf, Part.timedOp_eq (p := s.toPart) hx ht]
  obtain ⟨⟨kind, ref, amount⟩, timer⟩ := x
  obtain rfl | rfl : kind = .capture ∨ kind = .release := hk <;> rfl

theorem State.exec_lateReleaseTimeout {s : State} {x : Outstanding} (hr : s.inReset = false)
    (hx : s.clc.outstanding = some x) (ht : x.timer ≠ none) (hk : x.op.kind = .lateRelease) :
    exec .lateReleaseTimeout s = .next { s with toPart := s.toPart.endOp.capture .cashlessUnconfirmed } := by
  rw [exec_running (c := .lateReleaseTimeout) hr nofun]
  simp only [runOf, Part.timedOp_eq (p := s.toPart) hx ht]
  obtain ⟨⟨kind, ref, amount⟩, timer⟩ := x
  obtain rfl : kind = .lateRelease := hk
  rfl

/-- No outstanding operation of a kind answers to a number. -/
theorem Part.waitsFor_false {p : Part} {kind : OpKind} {ref : Nat}
    (h : ∀ x, p.clc.outstanding = some x → x.op.ref = ref → x.op.kind ≠ kind) : p.waitsFor kind ref = false := by
  cases hx : p.clc.outstanding with
  | none => simp only [Part.waitsFor, hx]
  | some x =>
    rw [Part.waitsFor_eq hx, Bool.and_eq_false_imp, beq_iff_eq]
    exact fun hk => beq_eq_false_iff_ne.mpr fun href => h x hx href hk

/-- Settles O50: the settlement operations, the late release, the stray answers, and the operation that is sent next. -/
theorem settlementOperationsEnd : Obligations.SettlementOperationsEnd := by
  unfold Obligations.SettlementOperationsEnd
  intro s b ref hr captures releases t
  refine ⟨fun x k o hx href hq hk ho hs apart => ?_, fun x hx hkind hq => ?_, fun hother hc => ?_, fun hother hc => ?_,
    fun x next queue hrun hx hkind htimer hq => ?_⟩
  · intro used closes
    have waits (kind : OpKind) : t.toPart.waitsFor kind ref = (x.op.kind == kind) := by
      rw [Part.waitsFor_eq (p := t.toPart) hx, href, beq_self_eq_true, Bool.and_true]
    refine ⟨fun hkind hc => ?_, fun hkind hc => ?_, fun hkind hrun htimer => ?_⟩
    · have taken : t.toPart.takeCaptured ref
          = t.toPart.settlementEnds ref .captured .cashlessDone fun o => some o.cardNeed := by
        simp [Part.takeCaptured, waits, hkind]
      exact (State.exec_captured hc hr taken).trans (congrArg _ (State.settlementEnds_eq (s := t) hq hk ho hs apart ..))
    · have taken : t.toPart.takeReleased ref
          = t.toPart.settlementEnds ref .released .cashlessDone fun _ => some 0 := by
        simp [Part.takeReleased, waits, hkind]
      exact (State.exec_released hc hr taken).trans (congrArg _ (State.settlementEnds_eq (s := t) hq hk ho hs apart ..))
    · rw [State.exec_settlementTimeout hrun hx htimer hkind, href]
      exact congrArg _ (State.settlementEnds_eq hq hk ho hs apart ..)
  · have late (href : x.op.ref = ref) : t.toPart.waitsFor .lateRelease ref = true := by
      rw [Part.waitsFor_eq (p := t.toPart) hx, href, hkind]
      simp
    have ended : t.toPart.endOp = t.operationEnded.toPart := Part.endOp_idle hq
    refine ⟨fun href hc => ?_, fun href hc => ?_, fun hrun htimer => ?_⟩
    · have taken : t.toPart.takeCaptured ref = t.operationEnded.toPart := by
        rw [Part.takeCaptured, if_pos (late href), ended]
      exact State.exec_captured hc hr taken
    · have taken : t.toPart.takeReleased ref = t.operationEnded.toPart := by
        rw [Part.takeReleased, if_pos (late href), ended]
      exact State.exec_released hc hr taken
    · rw [State.exec_lateReleaseTimeout hrun hx htimer hkind, Part.endOp_idle (p := s.toPart) hq]
      rfl
  · have waits (kind : OpKind) (hk : kind ≠ .authorize ∧ kind ≠ .release) : t.toPart.waitsFor kind ref = false :=
      Part.waitsFor_false fun x hx href hkind =>
        (hother x hx href).elim (fun h => hk.1 (hkind ▸ h)) fun h => hk.2 (hkind ▸ h)
    have taken : t.toPart.takeCaptured ref = t.toPart.stray := by
      simp [Part.takeCaptured, waits]
    exact State.exec_captured hc hr taken
  · have waits (kind : OpKind) (hk : kind ≠ .authorize ∧ kind ≠ .capture) : t.toPart.waitsFor kind ref = false :=
      Part.waitsFor_false fun x hx href hkind =>
        (hother x hx href).elim (fun h => hk.1 (hkind ▸ h)) fun h => hk.2 (hkind ▸ h)
    have taken : t.toPart.takeReleased ref = t.toPart.stray := by
      simp [Part.takeReleased, waits]
    exact State.exec_released hc hr taken
  · intro sent u
    have done := State.exec_lateReleaseTimeout hrun hx htimer hkind
    refine ⟨fun hw hl => ?_, fun r late hw hl => ?_, fun w waiting k o hw hk ho => ?_⟩
    · rw [done, Part.endOp_next (p := s.toPart) hq hw hl]
      rfl
    · rw [done, Part.endOp_late (p := s.toPart) hq hw hl]
      rfl
    · rw [done, Part.endOp_waiting (p := s.toPart) hq hw hk ho]
      rfl

end Sys2Proof.Machine
end

section
/-! PROOFS. TABLE_WRITE: the rules of the entries, the entries as the part holds them, and the tables as rows of entries
(R13, R68, R69, R107, R145, R146, R180 to R182, R192). -/

set_option Elab.async false

open Sys2Proof Sys2Proof.Machine

namespace Sys2Proof.Machine

/-! ### The rules of the entries -/

theorem maskBits_iff (m : Byte) : (m.getLsbD 0 || m.getLsbD 1) = true ↔ m.toNat % 4 ≠ 0 := by
  simp only [BitVec.getLsbD, Nat.testBit_succ, Nat.testBit_zero, Bool.or_eq_true, decide_eq_true_eq]
  omega

theorem toneWord_iff {w : Nat} (h : w < 65536) :
    (decide (-512 ≤ signed16 w) && decide (signed16 w ≤ 511)) = true ↔ w ≤ 511 ∨ 65024 ≤ w := by
  unfold signed16
  simp only [Bool.and_eq_true, decide_eq_true_eq]
  split <;> omega

theorem u8_lt (bs : List Byte) (o : Nat) : u8 bs o < 256 := (bs.getD o 0).isLt

theorem u16_lt (bs : List Byte) (o : Nat) : u16 bs o < 65536 := by
  have := u8_lt bs o
  have := u8_lt bs (o + 1)
  unfold u16
  omega

theorem ProductRow.ok_iff (r : ProductRow) : r.ok = true ↔ 2 ≤ r.t2 ∧ r.t2 ≤ r.t3 ∧ r.t3 ≤ 100 ∧ r.mask.toNat % 4 ≠ 0
    ∧ r.finish ≤ 2 ∧ r.media ≤ 15 ∧ r.tone ≤ 3 := by
  have mask := maskBits_iff r.mask
  simp only [ProductRow.ok, Bool.and_eq_true, mask, decide_eq_true_eq]
  omega

theorem EngineParams.ok_iff (q : EngineParams) : q.ok = true ↔ q.tref ≤ 60 ∧ q.kT ≤ 31 ∧ 1023 ≤ q.budget ∧ q.budget ≤ 1964160
    ∧ q.hold ≤ 89 ∧ q.hold < q.stop ∧ q.stop ≤ 90 := by
  simp only [EngineParams.ok, Bool.and_eq_true, decide_eq_true_eq, and_assoc]

theorem ChannelEntry.ok_iff (c : ChannelEntry) : c.ok = true ↔ 5 ≤ c.minWidth ∧ c.minWidth ≤ 250 ∧ c.minWidth ≤ c.maxWidth
    ∧ c.maxWidth ≤ 500 ∧ 50 ≤ c.gap ∧ c.gap ≤ 1000 := by
  simp only [ChannelEntry.ok, Bool.and_eq_true, decide_eq_true_eq, and_assoc]

/-- The check of an entry is its rule (R48, R68, R69, R107, R145, R180, R181, R192). -/
theorem TableId.entryOk_iff (T : TableId) (index : Nat) (bs : List Byte) :
    T.entryOk index bs = true ↔ entryRule T index bs := by
  cases T with
  | product =>
    have row : (ProductRow.ofBytes bs).ok = true ↔ 2 ≤ u8 bs 8 ∧ u8 bs 8 ≤ u8 bs 9 ∧ u8 bs 9 ≤ 100
        ∧ u8 bs 10 % 4 ≠ 0 ∧ u8 bs 12 ≤ 2 ∧ u8 bs 11 ≤ 15 ∧ u8 bs 13 ≤ 3 := ProductRow.ok_iff _
    simp only [TableId.entryOk, entryRule, Bool.and_eq_true, Bool.or_eq_true, row, decide_eq_true_eq, beq_iff_eq]
    omega
  | priceKey => simp only [TableId.entryOk, entryRule, decide_eq_true_eq]
  | tone k =>
    simp only [TableId.entryOk, entryRule, toneWordOk]
    split
    · exact toneWord_iff (u16_lt _ _)
    · exact decide_eq_true_iff
  | energy e => exact decide_eq_true_iff
  | params e => exact EngineParams.ok_iff _
  | channels =>
    simp only [TableId.entryOk, entryRule, Bool.and_eq_true, decide_eq_true_eq, ChannelEntry.ok_iff, and_assoc]
    rfl
  | slotParams => simp only [TableId.entryOk, entryRule]

theorem entriesOk_iff (T : TableId) (first count : Nat) (bs : List Byte) :
    entriesOk T first count bs = true ↔ ∀ j, j < count → entryRule T (first + j) (entryBytes T bs j) := by
  simp only [entriesOk, List.all_eq_true, List.mem_range, TableId.entryOk_iff]

/-! ### Entries as the part holds them -/

theorem byte_u8 (bs : List Byte) (o : Nat) : byte (u8 bs o) = bs.getD o 0 := by
  simp [byte, u8]

theorem le2_u16 (bs : List Byte) (o : Nat) : le2 (u16 bs o) = [bs.getD o 0, bs.getD (o + 1) 0] := by
  have h0 := u8_lt bs o
  have h1 := u8_lt bs (o + 1)
  rw [← byte_u8, ← byte_u8, le2, u16]
  simp only [byte, List.cons.injEq, and_true]
  constructor <;> apply BitVec.eq_of_toNat_eq <;> simp only [BitVec.toNat_ofNat] <;> omega

theorem le4_u32 (bs : List Byte) (o : Nat) :
    le4 (u32 bs o) = [bs.getD o 0, bs.getD (o + 1) 0, bs.getD (o + 2) 0, bs.getD (o + 3) 0] := by
  have h0 := u8_lt bs o
  have h1 := u8_lt bs (o + 1)
  have h2 := u8_lt bs (o + 2)
  have h3 := u8_lt bs (o + 3)
  have last : u8 bs (o + 2 + 1) = u8 bs (o + 3) := rfl
  rw [← byte_u8, ← byte_u8, ← byte_u8, ← byte_u8, le4, u32, u16, u16]
  simp only [byte, List.cons.injEq, and_true]
  refine ⟨?_, ?_, ?_, ?_⟩ <;> apply BitVec.eq_of_toNat_eq <;> simp only [BitVec.toNat_ofNat] <;> omega

theorem flagByte_u8 {bs : List Byte} {o : Nat} (h : u8 bs o ≤ 1) : flagByte (u8 bs o == 1) = bs.getD o 0 := by
  rw [← byte_u8]
  obtain h | h : u8 bs o = 0 ∨ u8 bs o = 1 := by omega
  all_goals rw [h]; rfl

theorem ProductRow.ofBytes_bytes {bs : List Byte} (h : u8 bs 0 ≤ 1) :
    (ProductRow.ofBytes bs).bytes = heldEntry .product bs := by
  simp only [ProductRow.bytes, ProductRow.ofBytes, flagByte_u8 h, le2_u16, byte_u8]
  rfl

theorem EngineParams.ofBytes_bytes (e : EngineId) (bs : List Byte) :
    (EngineParams.ofBytes bs).bytes = heldEntry (.params e) bs := by
  simp only [EngineParams.bytes, EngineParams.ofBytes, le4_u32, byte_u8]
  rfl

theorem ChannelEntry.ofBytes_bytes {bs : List Byte} (h : u8 bs 0 ≤ 1) (hg : u8 bs 1 ≤ 1) :
    (ChannelEntry.ofBytes bs).bytes = heldEntry .channels bs := by
  have group : (if u8 bs 1 = 1 then Group.bill else .coin).code = bs.getD 1 0 := by
    rw [← flagByte_u8 hg]
    by_cases h1 : u8 bs 1 = 1
    · rw [if_pos h1, h1]; rfl
    · rw [if_neg h1, beq_eq_false_iff_ne.mpr h1]; rfl
  simp only [ChannelEntry.bytes, ChannelEntry.ofBytes, flagByte_u8 h, le2_u16, group]
  rfl

/-! ### Tables as rows of entries -/

/-- The entries of a table in their link layout (13.4). -/
def Part.tableRows (p : Part) : TableId → List (List Byte)
  | .product => p.ord.products.toList.map ProductRow.bytes
  | .priceKey => [[byte p.ord.priceKey, 0]]
  | .tone k => p.rin.tones[k].map le2
  | .energy e => (p.eng e).hdu.energy.map le2
  | .params e => [(p.eng e).params.bytes]
  | .channels => p.pay.table.toList.map ChannelEntry.bytes
  | .slotParams => [le2 p.csu.previewAllowance]

theorem Part.tableRows_flatten (p : Part) (T : TableId) : (p.tableRows T).flatten = p.tableBytes T := by
  cases T <;> simp [Part.tableRows, Part.tableBytes, List.flatMap_def]

theorem Part.tableRows_size (p : Part) (T : TableId) : ∀ row ∈ p.tableRows T, row.length = T.entrySize := by
  cases T <;> simp [Part.tableRows, TableId.entrySize, ProductRow.bytes, ChannelEntry.bytes, EngineParams.bytes, le2, le4]

/-- One entry of equal entries laid out one after the other. -/
theorem take_drop_flatten {n : Nat} : ∀ {rows : List (List Byte)}, (∀ row ∈ rows, row.length = n) → ∀ {j : Nat}
    (h : j < rows.length), (rows.flatten.drop (j * n)).take n = rows[j]
  | row :: rows, hn, 0, _ => by
    have := hn row (List.mem_cons_self ..)
    simp [← this]
  | row :: rows, hn, j + 1, h => by
    have hrow := hn row (List.mem_cons_self ..)
    have later := take_drop_flatten (fun r hr => hn r (List.mem_cons_of_mem _ hr)) (Nat.lt_of_succ_lt_succ h)
    rw [List.flatten_cons, List.getElem_cons_succ, ← later, Nat.add_one_mul, Nat.add_comm, ← List.drop_drop, ← hrow,
      List.drop_left]

/-- One entry of a table (13.4). -/
theorem Part.tableSlice_row (p : Part) (T : TableId) {j : Nat} (h : j < (p.tableRows T).length) :
    p.tableSlice T j 1 = (p.tableRows T)[j] := by
  rw [Part.tableSlice, ← Part.tableRows_flatten, Nat.one_mul, take_drop_flatten (p.tableRows_size T) h]

theorem Part.tableRows_length {p : Part} (tones : ∀ k : Fin 4, p.rin.tones[k].length = 777)
    (energy : ∀ e : EngineId, (p.eng e).hdu.energy.length = 1024) (T : TableId) : (p.tableRows T).length = T.entries := by
  cases T with
  | tone k => exact (List.length_map _).trans (tones k)
  | energy e => exact (List.length_map _).trans (energy e)
  | product | channels => exact (List.length_map _).trans Vector.length_toList
  | priceKey | params _ | slotParams => rfl

/-! ### The entries that a write replaces -/

theorem entryBytes_getD (T : TableId) (bs : List Byte) (j : Nat) {o : Nat} (h : o < T.entrySize) :
    (entryBytes T bs j).getD o 0 = bs.getD (j * T.entrySize + o) 0 := by
  simp only [entryBytes, List.getD_eq_getElem?_getD, List.getElem?_take, h, if_true, List.getElem?_drop]

/-- An entry of a table of words is held as it stands (R192). -/
theorem heldEntry_word {T : TableId} (hs : T.entrySize = 2) (hr : reservedOffsets T = []) (bs : List Byte) (j : Nat) :
    heldEntry T (entryBytes T bs j) = le2 (u16 bs (2 * j)) := by
  have held (e : List Byte) : heldEntry T e = [e.getD 0 0, e.getD 1 0] := by
    simp [heldEntry, hs, hr, List.range_succ]
  rw [held, entryBytes_getD T bs j (by omega), entryBytes_getD T bs j (by omega), hs, Nat.mul_comm j 2, le2_u16]
  rfl

/-- The only entry of a table of one entry is the whole request (R13). -/
theorem entryBytes_only {T : TableId} {bs : List Byte} (h : bs.length = T.entrySize) : entryBytes T bs 0 = bs := by
  rw [entryBytes, Nat.zero_mul, List.drop_zero, ← h, List.take_length]

theorem spliceWords_getElem (old : List Nat) (first count : Nat) (bs : List Byte) {j : Nat}
    (h : j < (spliceWords old first count bs).length) (h' : j < old.length) :
    (spliceWords old first count bs)[j] = if first ≤ j ∧ j < first + count then u16 bs (2 * (j - first)) else old[j] := by
  simp [spliceWords]

/-- An entry after a write: one of the request's, or the one before (R13). -/
theorem Part.storeTable_row (p : Part) {T : TableId} {first count : Nat} {bs : List Byte} (hc : 1 ≤ count)
    (hl : bs.length = count * T.entrySize) (hf : first + count ≤ T.entries)
    (rules : ∀ j, j < count → entryRule T (first + j) (entryBytes T bs j)) {j : Nat}
    (h : j < ((p.storeTable T first count bs).tableRows T).length) (h' : j < (p.tableRows T).length) :
    ((p.storeTable T first count bs).tableRows T)[j]
      = if first ≤ j ∧ j < first + count then heldEntry T (entryBytes T bs (j - first)) else (p.tableRows T)[j] := by
  have rule (hj : first ≤ j ∧ j < first + count) := rules (j - first) (by omega)
  have only (one : T.entries = 1) (hrow : j < 1) :
      first ≤ j ∧ j < first + count ∧ j - first = 0 ∧ bs.length = T.entrySize := by
    obtain rfl : count = 1 := by omega
    omega
  cases T with
  | product =>
    simp only [Part.tableRows, Part.storeTable, List.getElem_map, Vector.getElem_toList, Vector.getElem_mapFinIdx]
    by_cases hj : first ≤ j ∧ j < first + count
    · have valid : u8 (entryBytes .product bs (j - first)) 0 ≤ 1 := by
        have := rule hj
        simp only [entryRule] at this
        omega
      rw [if_pos hj, if_pos hj, ProductRow.ofBytes_bytes valid]
    · rw [if_neg hj, if_neg hj]
  | channels =>
    simp only [Part.tableRows, Part.storeTable, List.getElem_map, Vector.getElem_toList, Vector.getElem_mapFinIdx]
    by_cases hj : first ≤ j ∧ j < first + count
    · obtain ⟨enabled, group, _⟩ := rule hj
      rw [if_pos hj, if_pos hj, ChannelEntry.ofBytes_bytes enabled group]
    · rw [if_neg hj, if_neg hj]
  | tone k =>
    have rows : (p.storeTable (.tone k) first count bs).tableRows (.tone k)
        = (spliceWords p.rin.tones[k] first count bs).map le2 := congrArg (List.map le2) (Vector.getElem_set_self _)
    rw [heldEntry_word rfl rfl, List.getElem_of_eq rows, List.getElem_map,
      spliceWords_getElem _ _ _ _ _ (by simpa [Part.tableRows] using h')]
    simp only [Part.tableRows, List.getElem_map]
    split <;> rfl
  | energy e =>
    rw [heldEntry_word rfl rfl]
    simp only [Part.tableRows, Part.storeTable, List.getElem_map, Part.modEng_same]
    rw [spliceWords_getElem]
    split <;> rfl
  | priceKey =>
    obtain ⟨h1, h2, h3, h4⟩ := only rfl h'
    rw [if_pos ⟨h1, h2⟩, h3, entryBytes_only h4]
    exact (List.getElem_singleton _).trans (congrArg (fun b => [b, 0]) (byte_u8 bs 0))
  | params e =>
    obtain ⟨h1, h2, h3, h4⟩ := only rfl h'
    rw [if_pos ⟨h1, h2⟩, h3, entryBytes_only h4, ← EngineParams.ofBytes_bytes]
    refine (List.getElem_singleton _).trans ?_
    rw [Part.storeTable, Part.modEng_same]
  | slotParams =>
    obtain ⟨h1, h2, h3, h4⟩ := only rfl h'
    rw [if_pos ⟨h1, h2⟩, h3, heldEntry_word rfl rfl]
    exact List.getElem_singleton _

/-- The words of the written tone set (R13). -/
theorem Part.storeTable_tone (p : Part) (k : Fin 4) (first count : Nat) (bs : List Byte) :
    (p.storeTable (.tone k) first count bs).tableRows (.tone k) = (spliceWords p.rin.tones[k] first count bs).map le2 :=
  congrArg (List.map le2) (Vector.getElem_set_self _)

theorem Part.storeTable_rows_length (p : Part) (T : TableId) (first count : Nat) (bs : List Byte) :
    ((p.storeTable T first count bs).tableRows T).length = (p.tableRows T).length := by
  cases T with
  | tone k =>
    rw [Part.storeTable_tone]
    simp only [Part.tableRows, List.length_map, spliceWords, List.length_zipIdx]
  | energy e =>
    simp only [Part.tableRows, Part.storeTable, Part.modEng_same, List.length_map, spliceWords, List.length_zipIdx]
  | product | channels => simp only [Part.tableRows, List.length_map, Vector.length_toList]
  | priceKey | params _ | slotParams => rfl

/-- A change of one engine's field leaves what is read from other fields and from the other engine. -/
theorem Part.modEng_read {α : Type} (p : Part) (e e' : EngineId) (f : Engine → Engine) (read : Engine → α)
    (h : e' = e → ∀ en, read (f en) = read en) : read ((p.modEng e f).eng e') = read (p.eng e') := by
  by_cases he : e' = e
  · rw [he, Part.modEng_same, h he]
  · cases e <;> cases e' <;> first | rfl | exact absurd rfl he

/-- A write leaves every other table (R13). -/
theorem Part.storeTable_other (p : Part) {T U : TableId} (h : U ≠ T) (first count : Nat) (bs : List Byte) :
    (p.storeTable T first count bs).tableBytes U = p.tableBytes U := by
  cases T with
  | product =>
    cases U with
    | product => exact absurd rfl h
    | priceKey | tone _ | energy _ | params _ | channels | slotParams => rfl
  | priceKey =>
    cases U with
    | priceKey => exact absurd rfl h
    | product | tone _ | energy _ | params _ | channels | slotParams => rfl
  | tone k =>
    cases U with
    | tone k' =>
      have apart : k.val ≠ k'.val := fun hk => h (congrArg _ (Fin.ext hk.symm))
      exact congrArg (List.flatMap le2) (Vector.getElem_set_ne k.isLt k'.isLt apart)
    | product | priceKey | energy _ | params _ | channels | slotParams => rfl
  | energy e =>
    cases U with
    | energy e' => exact p.modEng_read e e' _ (fun en => en.hdu.energy.flatMap le2) fun he => absurd (congrArg _ he) h
    | params e' => exact p.modEng_read e e' _ (fun en => en.params.bytes) fun _ _ => rfl
    | product | priceKey | tone _ | channels | slotParams => cases e <;> rfl
  | params e =>
    cases U with
    | energy e' => exact p.modEng_read e e' _ (fun en => en.hdu.energy.flatMap le2) fun _ _ => rfl
    | params e' => exact p.modEng_read e e' _ (fun en => en.params.bytes) fun he => absurd (congrArg _ he) h
    | product | priceKey | tone _ | channels | slotParams => cases e <;> rfl
  | channels =>
    cases U with
    | channels => exact absurd rfl h
    | product | priceKey | tone _ | energy _ | params _ | slotParams => rfl
  | slotParams =>
    cases U with
    | slotParams => exact absurd rfl h
    | product | priceKey | tone _ | energy _ | params _ | channels => rfl

/-- A channel with no pulse under way and no open train has nothing due (R109, R112). -/
theorem Part.channelDue_quiet {p : Part} {c : Fin 6} (hp : p.pay.chans[c].pulse = none) (ht : p.pay.chans[c].train = none) :
    p.channelDue c = p := by
  simp only [Part.channelDue, hp, Part.endDueTrain]
  split <;> simp_all

theorem Part.foldl_channelDue_quiet {p : Part} (hp : ∀ c : Fin 6, p.pay.chans[c].pulse = none ∧ p.pay.chans[c].train = none)
    (cs : List (Fin 6)) : cs.foldl Part.channelDue p = p := by
  induction cs with
  | nil => rfl
  | cons c cs ih => rw [List.foldl_cons, Part.channelDue_quiet (hp c).1 (hp c).2, ih]

/-- A write with nothing due on the channels: the entries are replaced, and a write of the channel table sets the time base
(R13, log entry 5). -/
theorem Part.writeTable_eq {p : Part} {T : TableId}
    (quiet : T = .channels → ∀ c : Fin 6, p.pay.chans[c].pulse = none ∧ p.pay.chans[c].train = none) (ms first count : Nat)
    (bs : List Byte) :
    p.writeTable T ms first count bs
      = { p.storeTable T first count bs with now := if T = .channels then max p.now ms else p.now } := by
  cases T with
  | channels =>
    simp only [Part.writeTable]
    rw [Part.foldl_channelDue_quiet (p := p.advance ms) (quiet rfl),
      Part.foldl_channelDue_quiet (p := (p.advance ms).storeTable .channels first count bs) (quiet rfl)]
    rfl
  | energy e => cases e <;> rfl
  | params e => cases e <;> rfl
  | product | priceKey | tone _ | slotParams => rfl

/-! ### The checks in their order -/

/-- A tone set is in use while an item still receiving names it (R146). -/
theorem Part.toneInUse_iff (p : Part) (k : Fin 4) : p.toneInUse k = true ↔ ∃ (id : Fin 64) (it : Item),
    p.ord.items[id] = some it ∧ it.tone = k ∧ (it.state = .defined ∨ it.state = .receiving) := by
  simp only [Part.toneInUse, List.any_eq_true, List.mem_iff_getElem, Vector.length_toList, Vector.getElem_toList]
  constructor
  · rintro ⟨_, ⟨id, hid, rfl⟩, h⟩
    split at h
    next it hit => exact ⟨⟨id, hid⟩, it, hit, by simpa using h⟩
    next => exact nomatch h
  · rintro ⟨id, it, hit, h⟩
    exact ⟨some it, ⟨id, id.isLt, hit⟩, by simpa using h⟩

theorem EngineState.printing_iff (st : EngineState) :
    st.printing = true ↔ st ∈ [EngineState.loading, .panel, .heatHold, .ejecting] := by
  cases st <;> decide

/-- TABLE_WRITE up to its range check (R13 steps 1 to 3). -/
theorem Part.tableWrite_noTable {p : Part} {ms : Nat} {args : List Byte} (h : tableArg (u8 args 0) (u8 args 1) = none) :
    p.tableWrite ms args = .refuse p .badArgument := by
  simp only [Part.tableWrite, tableRange, h]

section
variable {p : Part} {ms : Nat} {args : List Byte} {T : TableId} (hT : tableArg (u8 args 0) (u8 args 1) = some T)
include hT

theorem Part.tableWrite_badLength (h : u16 args 4 = 0 ∨ (args.drop 6).length ≠ u16 args 4 * T.entrySize) :
    p.tableWrite ms args = .refuse p .badArgument := by
  have bad : (decide (u16 args 4 = 0) || !((args.drop 6).length == u16 args 4 * T.entrySize)) = true := by simpa using h
  simp only [Part.tableWrite, tableRange, hT, bad, if_true]

variable (hc : 1 ≤ u16 args 4) (hl : (args.drop 6).length = u16 args 4 * T.entrySize)
include hc hl

theorem Part.tableWrite_outOfRange (h : T.entries < u16 args 2 + u16 args 4) :
    p.tableWrite ms args = .refuse p .outOfRange := by
  have good : (decide (u16 args 4 = 0) || !((args.drop 6).length == u16 args 4 * T.entrySize)) = false := by
    simp only [hl, beq_self_eq_true, Bool.not_true, Bool.or_false, decide_eq_false_iff_not]; omega
  simp only [Part.tableWrite, tableRange, hT, good, Bool.false_eq_true, if_false, h, if_true]

variable (hr : u16 args 2 + u16 args 4 ≤ T.entries)
include hr

/-- The request names entries of the table (R13 steps 1 to 3). -/
theorem tableRange_ok : (tableRange args fun t count => (args.drop 6).length == count * t.entrySize)
    = .ok (T, u16 args 2, u16 args 4) := by
  have good : (decide (u16 args 4 = 0) || !((args.drop 6).length == u16 args 4 * T.entrySize)) = false := by
    simp only [hl, beq_self_eq_true, Bool.not_true, Bool.or_false, decide_eq_false_iff_not]; omega
  simp only [tableRange, hT, good, Bool.false_eq_true, if_false, Nat.not_lt.mpr hr]

theorem Part.tableWrite_badEntry {j : Nat} (hj : j < u16 args 4)
    (h : ¬ entryRule T (u16 args 2 + j) (entryBytes T (args.drop 6) j)) : p.tableWrite ms args = .refuse p .badArgument := by
  have bad : entriesOk T (u16 args 2) (u16 args 4) (args.drop 6) ≠ true := fun ok => h ((entriesOk_iff ..).mp ok j hj)
  simp only [Part.tableWrite, tableRange_ok hT hc hl hr, Bool.eq_false_iff.mpr bad, Bool.not_false, if_true]

variable (rules : ∀ j, j < u16 args 4 → entryRule T (u16 args 2 + j) (entryBytes T (args.drop 6) j))
include rules

theorem Part.tableWrite_held {st : Status} (h : p.tableHeld T = some st) : p.tableWrite ms args = .refuse p st := by
  simp only [Part.tableWrite, tableRange_ok hT hc hl hr, (entriesOk_iff ..).mpr rules, h, Bool.not_true, Bool.false_eq_true,
    if_false]

theorem Part.tableWrite_done (h : p.tableHeld T = none) : p.tableWrite ms args
    = .done (p.writeTable T ms (u16 args 2) (u16 args 4) (args.drop 6)) (p.tableSlice T (u16 args 2) (u16 args 4)) := by
  simp only [Part.tableWrite, tableRange_ok hT hc hl hr, (entriesOk_iff ..).mpr rules, h, Bool.not_true, Bool.false_eq_true,
    if_false]
end

theorem Part.tableHeld_none {p : Part} {T : TableId}
    (tones : ∀ k : Fin 4, T = .tone k → ∀ (id : Fin 64) (it : Item), p.ord.items[id] = some it → it.tone = k →
      it.state ≠ .defined ∧ it.state ≠ .receiving)
    (engines : ∀ e, (T = .energy e ∨ T = .params e) →
      (p.eng e).state ∉ [EngineState.loading, .panel, .heatHold, .ejecting]) : p.tableHeld T = none := by
  have rests (e : EngineId) (h : T = .energy e ∨ T = .params e) : ¬ (p.eng e).state.printing = true :=
    fun hp => engines e h ((EngineState.printing_iff _).mp hp)
  cases T with
  | tone k =>
    refine if_neg fun used => ?_
    obtain ⟨id, it, hit, hk, hstate⟩ := (p.toneInUse_iff k).mp used
    obtain ⟨hd, hr⟩ := tones k rfl id it hit hk
    exact hstate.elim hd hr
  | energy e => exact if_neg (rests e (.inl rfl))
  | params e => exact if_neg (rests e (.inr rfl))
  | product | priceKey | channels | slotParams => rfl

/-- What a write leaves of the state (R13). -/
theorem Part.storeTable_frame (p : Part) (T : TableId) (first count : Nat) (bs : List Byte) :
    let w := p.storeTable T first count bs
    w = { p with
      ord := { p.ord with products := w.ord.products, priceKey := w.ord.priceKey }
      rin := { p.rin with tones := w.rin.tones }, pay := { p.pay with table := w.pay.table }
      csu := { p.csu with previewAllowance := w.csu.previewAllowance }
      engA := { p.engA with params := w.engA.params, hdu := { p.engA.hdu with energy := w.engA.hdu.energy } }
      engB := { p.engB with params := w.engB.params, hdu := { p.engB.hdu with energy := w.engB.hdu.energy } } } := by
  cases T with
  | energy e => cases e <;> rfl
  | params e => cases e <;> rfl
  | product | priceKey | tone _ | channels | slotParams => rfl

theorem Part.tableBytes_congr {p q : Part} (h : p.fixed = q.fixed) (T : TableId) : p.tableBytes T = q.tableBytes T := by
  rw [Part.tableBytes_eq, Part.tableBytes_eq, h]

/-- Settles O14: the checks one after the other, and the rows of the table that the write has changed. -/
theorem tableWriteReplacesTheEntries : Obligations.TableWriteReplacesTheEntries := by
  unfold Obligations.TableWriteReplacesTheEntries
  refine ⟨fun s ms tag args rest h hlen hm => ?_, ?_⟩
  · intro refused first count entries
    have refuses {st : Status} (hrun : (s.toPart.dequeue rest).tableWrite ms args = .refuse (s.toPart.dequeue rest) st) :
        refused st :=
      State.serve_refuses h hm (lengthOk := fun n => decide (6 ≤ n)) (admits := admitAll) (decide_eq_true hlen) rfl hrun
    refine ⟨fun hT => refuses (Part.tableWrite_noTable hT), fun T hT => ⟨fun hl => refuses (Part.tableWrite_badLength hT hl),
      fun hc hl => ⟨fun hr => refuses (Part.tableWrite_outOfRange hT hc hl hr), fun hr =>
        ⟨fun j hj hbad => refuses (Part.tableWrite_badEntry hT hc hl hr hj hbad), fun rules =>
          ⟨fun k id it hk hit htone hstate => ?_, fun e he hprint => ?_⟩⟩⟩⟩⟩
    · refine refuses (Part.tableWrite_held hT hc hl hr rules ?_)
      subst hk
      exact if_pos ((Part.toneInUse_iff _ k).mpr ⟨id, it, hit, htone, hstate⟩)
    · refine refuses (Part.tableWrite_held hT hc hl hr rules ?_)
      have prints := (EngineState.printing_iff _).mpr hprint
      rcases he with rfl | rfl <;> exact if_pos prints
  · intro s ms tag id instance_ first count entries rest T sized hm hf hcount h hT hc hl hr rules tones engines quiet
    let args : List Byte := id :: instance_ :: (le2 first ++ le2 count ++ entries)
    let q := s.toPart.dequeue rest
    let w := q.storeTable T first count entries
    let answer (w : Part) : Served :=
      .done { w with now := if T = .channels then max s.now ms else s.now } (s.tableSlice T first count)
    let t : State := { s with toPart := Part.hold tag 0x01 (answer w) }
    have frame : t = { s with toPart := Part.hold tag 0x01 (answer _) } :=
      congrArg (fun w => ({ s with toPart := Part.hold tag 0x01 (answer w) } : State))
        (q.storeTable_frame T first count entries)
    have hfirst : u16 args 2 = first :=
      (congrArg (u16 · 2) (by simp [args])).trans (u16_first hf id instance_ (le2 count ++ entries))
    have hcnt : u16 args 4 = count := u16_count hcount id instance_ entries
    have written : q.tableWrite ms args = .done (q.writeTable T ms first count entries) (s.tableSlice T first count) := by
      have done := Part.tableWrite_done (p := q) (ms := ms) (args := args) hT (by rwa [hcnt]) (by rwa [hcnt])
        (by rwa [hfirst, hcnt]) (by rw [hfirst, hcnt]; exact rules) (Part.tableHeld_none tones engines)
      rw [hfirst, hcnt, Part.tableSlice, Part.dequeue_tableBytes] at done
      exact done
    have lengths : (q.tableRows T).length = T.entries := Part.tableRows_length sized.1 sized.2 T
    have bytes (U : TableId) : t.tableBytes U = w.tableBytes U := Part.tableBytes_congr rfl U
    have lnk : t.lnk = (s.replying rest tag 0x01 .ok (s.tableSlice T first count)).lnk := by rw [frame]; rfl
    refine ⟨t, ?_, lnk, fun j hj => ?_, fun U hU => ?_, ?_⟩
    · refine (State.serve_admitted h hm (lengthOk := fun n => decide (6 ≤ n)) (admits := admitAll) rfl rfl).trans ?_
      rw [show (s.toPart.dequeue rest).tableWrite ms _ = _ from written, Part.writeTable_eq (p := q) quiet]
      rfl
    · have hj' : j < (q.tableRows T).length := lengths ▸ hj
      have hw : j < (w.tableRows T).length := (Part.storeTable_rows_length ..).symm ▸ hj'
      have before : s.tableSlice T j 1 = (q.tableRows T)[j] := by
        rw [← Part.tableSlice_row, Part.tableSlice, Part.tableSlice, Part.dequeue_tableBytes]
      have after : t.tableSlice T j 1 = (w.tableRows T)[j] := by
        rw [← Part.tableSlice_row, Part.tableSlice, Part.tableSlice, bytes]
      rw [before, after, Part.storeTable_row q hc hl hr rules hw hj']
    · rw [bytes, Part.storeTable_other q hU, Part.dequeue_tableBytes]
    · rw [lnk]
      exact frame

end Sys2Proof.Machine
end

section
/-! PROOFS. What the walk of PATH_RESET over the orders does (R99 to R105, R129). Its frames are still: nothing moves on the
transfer path, because every queue is empty. -/

set_option Elab.async false

open Sys2Proof Sys2Proof.Machine

namespace Sys2Proof.Machine

/-! ### A transfer path without requests -/

/-- No read request, no frame and no turn is left (R67). -/
structure Cards.Still (c : Cards) : Prop where
  turn : c.turn = none
  buffer : c.buffer = none
  offered : c.offered = none
  endings : c.endings = []
  queues : ∀ i : Fin 4, c.slots[i].queue = []

theorem Cards.Still.readsApart {c : Cards} (h : c.Still) (i : Fin 4) : c.slots[i].readsApart := by
  rw [Slot.readsApart, h.queues i]
  exact ⟨nofun, nofun⟩

theorem Cards.Still.offering {c : Cards} (h : c.Still) : c.offering = c :=
  Cards.offering_empty h.offered h.endings h.buffer

theorem Cards.Still.nextTurn {c : Cards} (h : c.Still) : c.nextTurn = none := by
  rw [Cards.nextTurn, Option.map_eq_none_iff, List.find?_eq_none]
  intro j _
  simp only [show c.slots[j].queue = [] from h.queues j, bne_self_eq_false, Bool.false_eq_true, not_false_eq_true]

theorem Cards.Still.turnEnded {c : Cards} (h : c.Still) (i : Fin 4) : c.turnEnded i = c := by
  have none' : c.turnOf i = false := by simp only [Cards.turnOf, h.turn]; rfl
  have next : c.nextTurn = c.turn := h.nextTurn.trans h.turn.symm
  simp only [Cards.turnEnded, none', Bool.false_eq_true, if_false, next, ite_self]

/-- Any slot record without requests can stand in a still path. -/
theorem Cards.Still.set {c : Cards} (h : c.Still) (i : Fin 4) {x : Slot} (hx : x.queue = []) :
    Cards.Still { c with slots := c.slots.set i x } := by
  refine { h with queues := fun j => ?_ }
  by_cases hj : i.val = j.val
  · obtain rfl : i = j := Fin.ext hj
    exact (congrArg Slot.queue (Vector.getElem_set_self _)).trans hx
  · exact (congrArg Slot.queue (Vector.getElem_set_ne i.isLt j.isLt hj)).trans (h.queues j)

/-- The drop of a binding ends no read (R46). -/
theorem Cards.Still.bindingDropped {c : Cards} (h : c.Still) (i : Fin 4) :
    c.bindingDropped i = { c with slots := c.slots.set i (c.slots[i].unbound c.previewAllowance) } := by
  by_cases hb : c.slots[i].state = .bound
  · let d : Cards := { c with slots := c.slots.set i (c.slots[i].unbound c.previewAllowance) }
    have still : d.Still := h.set i (h.queues i)
    have slot : { d.slots[i] with queue := [] } = d.slots[i] := by rw [← still.queues i]
    have idle : d.turnOf i = false := by simp only [Cards.turnOf, still.turn]; rfl
    rw [Cards.bindingDropped_bound hb]
    show d.readsCancelled i = d
    simp only [Cards.readsCancelled, idle, Bool.false_and, still.queues i, Cards.readsEnded_nil, slot]
    rw [set_self]
    exact still.turnEnded i
  · exact Cards.bindingDropped_other hb

/-! ### The transmitter beside it -/

/-- Beside a still path only a REPLY can be sent (R11). -/
theorem Part.feed_rests {p : Part} (h : p.csu.Still) (hl : p.lnk.tx ≠ none ∨ p.lnk.replies = []) : p.feed = p := by
  let s : State := { p with pending := [] }
  have fed : ({ s with toPart := s.toPart.feed } : State) = s.framesMoved := State.framesMoved_eq s
  suffices s.framesMoved = s from congrArg State.toPart (fed.trans this)
  rcases Option.eq_none_or_eq_some s.lnk.tx with ht | ⟨f, hf⟩
  · have hr : s.lnk.replies = [] := hl.resolve_left fun hn => hn ht
    rw [State.framesMoved_idle ht hr (by rw [h.offering]; exact h.offered), h.offering]
  · rw [State.framesMoved_busy (by rw [hf]; nofun), h.offering]

theorem Part.feed_link {p : Part} (h : p.csu.Still) : p.feed = { p with lnk := p.feed.lnk } := by
  by_cases hl : p.lnk.tx ≠ none ∨ p.lnk.replies = []
  · rw [Part.feed_rests h hl]
  · obtain ⟨ht, hr⟩ := not_or.mp hl
    obtain ⟨r, rs, hr⟩ := List.exists_cons_of_ne_nil hr
    let s : State := { p with pending := [] }
    have fed : ({ s with toPart := s.toPart.feed } : State) = s.framesMoved := State.framesMoved_eq s
    rw [State.framesMoved_reply (s := s) (not_not.mp ht) hr, h.offering] at fed
    rw [show p.feed = _ from congrArg State.toPart fed]

/-! ### The settlement operation -/

/-- An operation joins a queue that no operation of ORD waits for (R129). -/
theorem Part.joinOp_frame {p : Part} (h : p.clc.outstanding ≠ none ∨ p.ord.waiting = []) (op : CashlessOp) :
    p.joinOp op = { p with clc := { (p.joinOp op).clc with rx := p.clc.rx } } ∧ (p.joinOp op).clc.outstanding ≠ none
      ∧ (p.clc.outstanding ≠ none → (p.joinOp op).clc = { p.clc with queue := p.clc.queue ++ [op] }) := by
  rcases Option.eq_none_or_eq_some p.clc.outstanding with ho | ⟨x, hx⟩
  · have hw : p.ord.waiting = [] := h.resolve_left fun hn => hn ho
    obtain ⟨next, rest, hq⟩ :=
      List.exists_cons_of_ne_nil (List.append_ne_nil_of_right_ne_nil p.clc.queue (List.cons_ne_nil op []))
    cases hl : p.clc.late with
    | nil => simp [Part.joinOp, Part.pump, ho, hq, hw, hl]
    | cons r rs => simp [Part.joinOp, Part.pump, ho, hq, hw, hl]
  · simp [Part.joinOp, Part.pump, hx]

/-! ### One order that settles -/

/-- What the settlement of orders may change of a part whose transfer path is still. -/
def Part.settling (p q : Part) : Part :=
  { p with
    lnk := q.lnk, svc := { p.svc with captureSet := q.svc.captureSet, again := q.svc.again }
    csu := { p.csu with slots := q.csu.slots }, ord := { p.ord with orders := q.ord.orders, waiting := q.ord.waiting }
    pay := { p.pay with kept := q.pay.kept, pool := q.pay.pool }, clc := { q.clc with rx := p.clc.rx } }

/-- A settlement has left everything else, kept every capture and the outstanding operation, and no read request is left. -/
structure Part.Settles (p q : Part) : Prop where
  rest : q = p.settling q
  captures : ∀ k : CaptureKind, p.svc.captureSet.has k = true → q.svc.captureSet.has k = true
  link : p.lnk.tx ≠ none ∨ p.lnk.replies = [] → q.lnk = p.lnk
  still : q.csu.Still
  operation : p.clc.outstanding ≠ none → q.clc = { p.clc with queue := q.clc.queue } ∧ p.clc.queue <+: q.clc.queue
  waits : q.clc.outstanding ≠ none ∨ q.ord.waiting = [] ∨ Config.cashlessRoom ≤ q.clc.queue.length

theorem Part.Settles.refl {p : Part} (still : p.csu.Still)
    (waits : p.clc.outstanding ≠ none ∨ p.ord.waiting = [] ∨ Config.cashlessRoom ≤ p.clc.queue.length) : p.Settles p :=
  ⟨rfl, fun _ h => h, fun _ => rfl, still, fun _ => ⟨rfl, List.prefix_refl _⟩, waits⟩

theorem Part.Settles.trans {p q r : Part} (h : p.Settles q) (h' : q.Settles r) : p.Settles r := by
  refine ⟨?_, fun k hk => h'.captures k (h.captures k hk), fun hl => ?_, h'.still, fun ho => ?_, h'.waits⟩
  · have rest := h'.rest
    rw [h.rest] at rest
    exact rest
  · have same := h.link hl
    exact (h'.link (same ▸ hl)).trans same
  · obtain ⟨clc, before⟩ := h.operation ho
    obtain ⟨clc', after⟩ := h'.operation (by rw [clc]; exact ho)
    exact ⟨by rw [clc', clc], before.trans after⟩

/-- An order that has settled at PATH_RESET: its settlement is computed, and it waits for its card operation, or has closed
where it has no card amount (R99 to R102). -/
def Order.Settled (o o' : Order) : Prop :=
  o' = { o with
    state := if o.cardAuth = 0 then .closed else .settling, change := some o.changeDue
    captured := if o.cardAuth = 0 then some 0 else o.captured
    slot := if o.cardAuth = 0 then none else o.slot, locked := o'.locked, cashless := o'.cashless }

/-- The order of the record at `k` has settled, and no other record and no slot of another order has changed. -/
structure Part.SettlesAt (p : Part) (k : Fin 32) (o : Order) (q : Part) : Prop extends p.Settles q where
  own : ∃ o', q.ord.orders[k] = some o' ∧ o.Settled o'
  others : ∀ j : Fin 32, j ≠ k → q.ord.orders[j] = p.ord.orders[j]
  slots : ∀ i : Fin 4, o.slot ≠ some i → q.csu.slots[i] = p.csu.slots[i]

theorem orders_set_ne {α : Type} {n : Nat} (v : Vector α n) (x : α) {j k : Fin n} (h : j ≠ k) : (v.set k x)[j] = v[j] :=
  Vector.getElem_set_ne k.isLt j.isLt fun e => h (Fin.ext e.symm)

/-- The order at entry to SETTLING (R99, R100). -/
def Order.entering (o : Order) : Order := { o with state := .settling, change := some o.changeDue }

/-- The part as an order that has not the focus enters SETTLING (R99, R100). -/
def Part.entering (p : Part) (k : Fin 32) (o : Order) : Part :=
  { p with ord := { p.ord with orders := p.ord.orders.set k (some o.entering) } }

theorem Part.enterSettling_eq {p : Part} {k : Fin 32} {o : Order} (ho : p.ord.orders[k] = some o)
    (focus : p.pay.focus ≠ some o.number) : p.enterSettling k
      = if o.cardAuth = 0 then (p.entering k o).closeOrder k (some 0)
        else if o.cardNeed = 0 then (p.entering k o).handOp { kind := .release, ref := o.number, amount := 0 }
        else (p.entering k o).handOp { kind := .capture, ref := o.number, amount := o.cardNeed } := by
  have entered : (p.modOrder k fun o => { o with state := .settling, change := some o.changeDue }).loseFocus o.number
      = p.entering k o := by
    rw [Part.modOrder_eq ho, Part.loseFocus_eq, if_neg (by exact focus)]
    rfl
  simp only [Part.enterSettling, ho]
  rw [← entered]

/-- The drop of an order's binding beside a still path (R46). -/
theorem Cards.Still.orderUnbound {c : Cards} (h : c.Still) (o : Order) :
    (c.orderUnbound o).Still ∧ c.orderUnbound o = { c with slots := (c.orderUnbound o).slots }
      ∧ ∀ i : Fin 4, o.slot ≠ some i → (c.orderUnbound o).slots[i] = c.slots[i] := by
  cases ho : o.slot with
  | none =>
    rw [show c.orderUnbound o = c by rw [Cards.orderUnbound, ho]]
    exact ⟨h, rfl, fun _ _ => rfl⟩
  | some j =>
    rw [show c.orderUnbound o = c.bindingDropped j by rw [Cards.orderUnbound, ho], h.bindingDropped]
    exact ⟨h.set j (h.queues j), rfl, fun i hi => orders_set_ne _ _ fun e => hi (e ▸ rfl)⟩

/-- A SETTLING order closes beside a still path: at most a REPLY is sent (R11, R102). -/
theorem Part.closeOrder_still {p : Part} {k : Fin 32} {o : Order} (still : p.csu.Still) (ho : p.ord.orders[k] = some o)
    (hs : o.state = .settling) (captured : Option Nat) :
    p.closeOrder k captured = { p.closing k o captured with lnk := (p.closeOrder k captured).lnk }
      ∧ (p.lnk.tx ≠ none ∨ p.lnk.replies = [] → (p.closeOrder k captured).lnk = p.lnk) := by
  let s : State := { p with pending := [] }
  let t : State := { s with toPart := p.closing k o captured }
  have closed : p.closeOrder k captured = (t.framesUnbound s.csu o).toPart :=
    congrArg State.toPart (State.closeOrder_eq (s := s) ho hs (fun i _ => still.readsApart i) captured)
  have still' : t.csu.Still := (still.orderUnbound o).1
  rw [closed, State.framesUnbound]
  split
  · rw [← State.framesMoved_eq]
    exact ⟨Part.feed_link still', fun hl => by rw [Part.feed_rests still' hl]; rfl⟩
  · exact ⟨rfl, fun _ => rfl⟩

theorem Order.unbound_eq (o : Order) :
    o.unbound = { o with slot := none, locked := if o.slot.isSome then none else o.locked } := by
  cases o with
  | mk number state funding slot => cases slot <;> rfl

/-- An order without a card amount closes at once (R99, R102). -/
theorem Part.closeOrder_settlesAt {p : Part} {k : Fin 32} {o : Order} (still : p.csu.Still) (hc : o.cardAuth = 0)
    (focus : p.pay.focus ≠ some o.number)
    (waits : p.clc.outstanding ≠ none ∨ p.ord.waiting = [] ∨ Config.cashlessRoom ≤ p.clc.queue.length) :
    p.SettlesAt k o ((p.entering k o).closeOrder k (some 0)) := by
  have he : (p.entering k o).ord.orders[k] = some o.entering := Vector.getElem_set_self _
  obtain ⟨frame, link⟩ := Part.closeOrder_still (p := p.entering k o) still he rfl (some 0)
  obtain ⟨still', csu, slots⟩ := still.orderUnbound o.entering
  have bound (j : Fin 32) (hj : j ≠ k) : ((p.entering k o).closing k o.entering (some 0)).ord.orders[j] = p.ord.orders[j] :=
    (orders_set_ne _ _ hj).trans (orders_set_ne _ _ hj)
  have unbound : o.Settled { o.entering.unbound with state := .closed, captured := some 0 } := by
    rw [Order.unbound_eq, Order.Settled, if_pos hc, if_pos hc, if_pos hc]
    rfl
  generalize ((p.entering k o).closeOrder k (some 0)).lnk = l at frame link
  rw [frame]
  refine ⟨⟨?_, fun c hc => ?_, link, still', fun _ => ⟨rfl, List.prefix_refl _⟩, waits⟩,
    ⟨_, Vector.getElem_set_self _, unbound⟩, bound, slots⟩
  · have pay : (if (p.entering k o).pay.focus = some o.entering.number then none else (p.entering k o).pay.focus)
        = p.pay.focus := if_neg focus
    have path : (p.entering k o).csu.orderUnbound o.entering = _ := csu
    rw [Part.closing, pay, path]
    rfl
  · exact (Service.capture_has ..).trans (by rw [show (p.entering k o).svc.captureSet.has c = true from hc]; rfl)

/-- The operation of an order is handed over, or waits beside a full queue (R101, R129). -/
theorem Part.handOp_settlesAt {p : Part} {k : Fin 32} {o : Order} (still : p.csu.Still) (hc : o.cardAuth ≠ 0)
    (waits : p.clc.outstanding ≠ none ∨ p.ord.waiting = [] ∨ Config.cashlessRoom ≤ p.clc.queue.length) {op : CashlessOp}
    (found : (p.entering k o).orderIdx op.ref = some k) :
    p.SettlesAt k o ((p.entering k o).handOp op) := by
  have he : (p.entering k o).ord.orders[k] = some o.entering := Vector.getElem_set_self _
  have alike (c : Cashless) : o.Settled { o.entering with cashless := c } := by
    rw [Order.Settled, if_neg hc, if_neg hc, if_neg hc]
    rfl
  rw [Part.handOp]
  by_cases hroom : p.clc.queue.length < Config.cashlessRoom
  · rw [if_pos (by exact hroom)]
    let c : Cashless := { o.cashless with state := if op.kind == .capture then .capturing else .releasing }
    let m : Part := { p.entering k o with
      ord := { p.ord with orders := (p.entering k o).ord.orders.set k (some { o.entering with cashless := c }) } }
    have marked : (p.entering k o).markHanded op = m := by
      simp only [Part.markHanded, found]
      exact Part.modOrder_eq he _
    rw [marked]
    obtain ⟨frame, out, queue⟩ :=
      Part.joinOp_frame (p := m) (waits.imp_right fun h => h.resolve_right (Nat.not_le.mpr hroom)) op
    generalize (m.joinOp op).clc = clc at frame out queue
    rw [frame]
    refine ⟨⟨rfl, fun _ h => h, fun _ => rfl, still, fun ho => ?_, .inl out⟩,
      ⟨_, Vector.getElem_set_self _, alike _⟩, fun j hj => (orders_set_ne _ _ hj).trans (orders_set_ne _ _ hj),
      fun _ _ => rfl⟩
    rw [queue ho]
    exact ⟨rfl, List.prefix_append ..⟩
  · rw [if_neg (by exact hroom)]
    refine ⟨⟨rfl, fun _ h => h, fun _ => rfl, still, fun _ => ⟨rfl, List.prefix_refl _⟩, .inr (.inr (Nat.not_lt.mp hroom))⟩,
      ⟨_, he, alike _⟩, fun j hj => orders_set_ne _ _ hj, fun _ _ => rfl⟩

/-- No two records hold one number (R71, R75). -/
def Part.numbersApart (p : Part) : Prop :=
  ∀ (j k : Fin 32) (o o' : Order), p.ord.orders[j] = some o → p.ord.orders[k] = some o' → o.number = o'.number → j = k

/-- The numbers that the records hold, and so the record of a number, are the same in both. -/
def Part.SameNumbers (p q : Part) : Prop :=
  ∀ k : Fin 32, (q.ord.orders[k]).map (·.number) = (p.ord.orders[k]).map (·.number)

theorem Part.SameNumbers.apart {p q : Part} (h : p.SameNumbers q) (apart : p.numbersApart) : q.numbersApart := by
  intro j k o o' hj hk hn
  have hj' := h j
  have hk' := h k
  rw [hj] at hj'
  rw [hk] at hk'
  obtain ⟨u, hu, hun⟩ := Option.map_eq_some_iff.mp hj'.symm
  obtain ⟨v, hv, hvn⟩ := Option.map_eq_some_iff.mp hk'.symm
  exact apart j k u v hu hv (hun.trans (hn.trans hvn.symm))

theorem Part.orderIdx_own {p : Part} (apart : p.numbersApart) {k : Fin 32} {o : Order} (ho : p.ord.orders[k] = some o) :
    p.orderIdx o.number = some k := by
  cases hf : p.orderIdx o.number with
  | none =>
    have lost := List.find?_eq_none.mp hf k (List.mem_finRange k)
    simp only [ho, beq_self_eq_true, not_true_eq_false] at lost
  | some j =>
    have found := List.find?_some hf
    cases hj : p.ord.orders[j] with
    | none => simp only [hj, Bool.false_eq_true] at found
    | some o' => rw [apart j k o' o hj ho (Part.orderIdx_number hf hj)]

/-- An order that has not the focus settles (R99 to R102). -/
theorem Part.enterSettling_settlesAt {p : Part} {k : Fin 32} {o : Order} (still : p.csu.Still)
    (apart : p.numbersApart) (ho : p.ord.orders[k] = some o) (focus : p.pay.focus ≠ some o.number)
    (waits : p.clc.outstanding ≠ none ∨ p.ord.waiting = [] ∨ Config.cashlessRoom ≤ p.clc.queue.length) :
    p.SettlesAt k o (p.enterSettling k) := by
  rw [Part.enterSettling_eq ho focus]
  by_cases hc : o.cardAuth = 0
  · rw [if_pos hc]
    exact Part.closeOrder_settlesAt still hc focus waits
  · have same : p.SameNumbers (p.entering k o) := fun j => by
      by_cases hj : j = k
      · subst hj
        have own : (p.entering j o).ord.orders[j] = some o.entering := Vector.getElem_set_self _
        rw [ho, own]
        rfl
      · exact congrArg (Option.map _) (orders_set_ne _ _ hj)
    have found : (p.entering k o).orderIdx o.number = some k :=
      Part.orderIdx_own (same.apart apart) (o := o.entering) (Vector.getElem_set_self _)
    rw [if_neg hc]
    split <;> exact Part.handOp_settlesAt still hc waits found

/-! ### The walk over the orders -/

/-- The records of `l` have been checked for entry to SETTLING, and those that may settle have (R99). -/
structure Part.OrdersSettle (p : Part) (l : List (Fin 32)) (q : Part) : Prop extends p.Settles q where
  settled : ∀ k ∈ l, ∀ o, p.ord.orders[k] = some o → p.maySettle o = true → ∃ o', q.ord.orders[k] = some o' ∧ o.Settled o'
  kept : ∀ k : Fin 32, (∀ o, k ∈ l → p.ord.orders[k] = some o → p.maySettle o = false) → q.ord.orders[k] = p.ord.orders[k]
  slots : ∀ i : Fin 4, (∀ k ∈ l, ∀ o, p.ord.orders[k] = some o → p.maySettle o = true → o.slot ≠ some i) →
    q.csu.slots[i] = p.csu.slots[i]

theorem Part.OrdersSettle.sameNumbers {p q : Part} {l : List (Fin 32)} (h : p.OrdersSettle l q) : p.SameNumbers q := by
  intro k
  by_cases hk : ∀ o, k ∈ l → p.ord.orders[k] = some o → p.maySettle o = false
  · rw [h.kept k hk]
  · push Not at hk
    obtain ⟨o, hl, ho, hm⟩ := hk
    obtain ⟨o', ho', alike⟩ := h.settled k hl o ho (Bool.eq_true_of_not_eq_false hm)
    rw [ho, ho', Option.map_some, Option.map_some, alike]

/-- A check of an order that may not settle changes nothing (R99). -/
theorem Part.checkSettling_rests {p : Part} {k : Fin 32} (h : ∀ o, p.ord.orders[k] = some o → p.maySettle o = false) :
    p.checkSettling k = p := by
  unfold Part.checkSettling
  split
  next o ho => rw [h o ho, if_neg nofun]
  next => rfl

theorem Part.checkSettling_enters {p : Part} {k : Fin 32} {o : Order} (ho : p.ord.orders[k] = some o)
    (hm : p.maySettle o = true) : p.checkSettling k = p.enterSettling k := by
  simp only [Part.checkSettling, ho, hm, if_true]

/-- The walk over the orders, none of which has the focus. -/
theorem Part.foldl_checkSettling {p : Part} (still : p.csu.Still) (apart : p.numbersApart)
    (waits : p.clc.outstanding ≠ none ∨ p.ord.waiting = [] ∨ Config.cashlessRoom ≤ p.clc.queue.length) (l : List (Fin 32))
    (nodup : l.Nodup) (focus : ∀ k ∈ l, ∀ o, p.ord.orders[k] = some o → p.pay.focus ≠ some o.number) :
    p.OrdersSettle l (l.foldl Part.checkSettling p) := by
  induction l using List.reverseRecOn with
  | nil => exact ⟨.refl still waits, nofun, fun _ _ => rfl, fun _ _ => rfl⟩
  | append_singleton l h ih =>
    rw [List.nodup_append] at nodup
    have fresh : h ∉ l := fun hm => nodup.2.2 h hm h (List.mem_singleton_self h) rfl
    have before := ih nodup.1 fun k hk => focus k (List.mem_append_left _ hk)
    rw [List.foldl_append, List.foldl_cons, List.foldl_nil]
    generalize l.foldl Part.checkSettling p = q at before ⊢
    have same : q.ord.orders[h] = p.ord.orders[h] := before.kept h fun _ hm => absurd hm fresh
    have may (o : Order) : q.maySettle o = p.maySettle o := by
      rw [before.rest]
      rfl
    have member (k : Fin 32) : k ∈ l ++ [h] ↔ k ∈ l ∨ k = h := by rw [List.mem_append, List.mem_singleton]
    by_cases rests : ∀ o, p.ord.orders[h] = some o → p.maySettle o = false
    · rw [Part.checkSettling_rests fun o ho => (may o).trans (rests o (same ▸ ho))]
      refine ⟨before.toSettles, fun k hk o ho hm => ?_,
        fun k hk => before.kept k fun o hl => hk o (List.mem_append_left _ hl),
        fun i hi => before.slots i fun k hk => hi k (List.mem_append_left _ hk)⟩
      rcases (member k).mp hk with hk | rfl
      · exact before.settled k hk o ho hm
      · exact absurd hm (by rw [rests o ho]; nofun)
    · push Not at rests
      obtain ⟨o, ho, hm⟩ := rests
      have hm := Bool.eq_true_of_not_eq_false hm
      have own := focus h ((member h).mpr (.inr rfl)) o ho
      rw [Part.checkSettling_enters (same.trans ho) ((may o).trans hm)]
      have step := Part.enterSettling_settlesAt (k := h) before.still (before.sameNumbers.apart apart) (same.trans ho)
        (by rw [before.rest]; exact own) before.waits
      refine ⟨before.toSettles.trans step.toSettles, fun k hk o' ho' hm' => ?_, fun k hk => ?_, fun i hi => ?_⟩
      · by_cases e : k = h
        · subst e
          obtain rfl : o = o' := Option.some.inj (ho.symm.trans ho')
          exact step.own
        · rw [step.others k e]
          exact before.settled k (((member k).mp hk).resolve_right e) o' ho' hm'
      · have e : k ≠ h := by
          rintro rfl
          exact absurd (hk o ((member k).mpr (.inr rfl)) ho) (by rw [hm]; nofun)
        rw [step.others k e]
        exact before.kept k fun o' hl => hk o' ((member k).mpr (.inl hl))
      · rw [step.slots i (hi h ((member h).mpr (.inr rfl)) o ho hm)]
        exact before.slots i fun k hk => hi k ((member k).mpr (.inl hk))

/-- Where no order may settle, the walk changes nothing (R99). -/
theorem Part.foldl_checkSettling_rests {p : Part} {l : List (Fin 32)}
    (h : ∀ k ∈ l, ∀ o, p.ord.orders[k] = some o → p.maySettle o = false) : l.foldl Part.checkSettling p = p := by
  induction l with
  | nil => rfl
  | cons k l ih =>
    rw [List.foldl_cons, Part.checkSettling_rests (h k (List.mem_cons_self ..)),
      ih fun j hj => h j (List.mem_cons_of_mem _ hj)]

end Sys2Proof.Machine
end

section
/-! PROOFS. The effects of PATH_RESET block by block (R12, R32, R51, R67, R104, R105, R125, R137, R152, R160, R178, R190). -/

set_option Elab.async false

open Sys2Proof Sys2Proof.Machine

namespace Sys2Proof.Machine

/-! ### Orders that halt -/

theorem Part.insertByNumber_perm (p : Part) (k : Fin 32) (l : List (Fin 32)) : (p.insertByNumber k l).Perm (k :: l) := by
  induction l with
  | nil => exact .refl _
  | cons j js ih =>
    rw [Part.insertByNumber]
    split
    · exact .refl _
    · exact (ih.cons j).trans (.swap ..)

/-- The walk over the orders visits every OPEN or COMMITTED one once (R101, R105). -/
theorem Part.takingOrders_perm (p : Part) : p.takingOrders.Perm ((List.finRange 32).filter p.isTaking) := by
  rw [Part.takingOrders]
  induction (List.finRange 32).filter p.isTaking with
  | nil => exact .refl _
  | cons k l ih => exact (p.insertByNumber_perm k _).trans (ih.cons k)

theorem Part.takingOrders_nodup (p : Part) : p.takingOrders.Nodup :=
  p.takingOrders_perm.nodup_iff.mpr ((List.nodup_finRange 32).filter _)

theorem Part.mem_takingOrders {p : Part} {k : Fin 32} :
    k ∈ p.takingOrders ↔ ∃ o, p.ord.orders[k] = some o ∧ o.taking = true := by
  rw [p.takingOrders_perm.mem_iff, List.mem_filter, Part.isTaking]
  cases p.ord.orders[k] <;> simp

/-- An order as PATH_RESET halts it (R105). -/
def Order.resetHalted (o : Order) : Order := if o.taking then { o with state := .halted } else o

/-- Whether a record holds an OPEN or COMMITTED order of a number. -/
def Part.takes (p : Part) (k : Fin 32) (n : Nat) : Bool := (p.ord.orders[k]).any fun o => o.taking && o.number == n

/-- The records of `l` have been halted, and their orders have lost the focus (R105). -/
structure Part.OrdersHalt (p : Part) (l : List (Fin 32)) (q : Part) : Prop where
  rest : q = { p with ord := { p.ord with orders := q.ord.orders }, pay := { p.pay with focus := q.pay.focus } }
  orders : ∀ k : Fin 32, q.ord.orders[k] = if k ∈ l then (p.ord.orders[k]).map Order.resetHalted else p.ord.orders[k]
  focus : q.pay.focus = p.pay.focus.filter fun n => l.all fun k => !p.takes k n

/-- The focus stays where no order is to lose it. -/
theorem focus_kept (f : Option Nat) : f.filter (fun _ => true) = f := by
  cases f <;> rfl

theorem Part.haltOrder_eq (p : Part) (k : Fin 32) : p.haltOrder k = { p with
    ord := { p.ord with orders := p.ord.orders.set k ((p.ord.orders[k]).map Order.resetHalted) }
    pay := { p.pay with focus := p.pay.focus.filter fun n => !p.takes k n } } := by
  have focused (f : Option Nat) (n : Nat) : (f.filter fun m => !(n == m)) = if f = some n then none else f := by
    cases f with
    | none => rfl
    | some m =>
      by_cases h : m = n
      · simp [h]
      · simp [h, Ne.symm h]
  unfold Part.haltOrder Part.takes
  cases ho : p.ord.orders[k] with
  | none =>
    simp only [Option.map_none, Option.any_none, Bool.not_false, focus_kept]
    rw [← ho, set_self]
  | some o =>
    by_cases ht : o.taking = true
    · simp only [ht, if_true, Option.map_some, Order.resetHalted, Option.any_some, Bool.true_and, focused]
      rw [Part.modOrder_eq ho, Part.loseFocus_eq]
    · simp only [ht, Bool.false_eq_true, if_false, Option.map_some, Order.resetHalted, Option.any_some, Bool.false_and,
        Bool.not_false, focus_kept]
      rw [← ho, set_self]

theorem Part.foldl_haltOrder (p : Part) (l : List (Fin 32)) (nodup : l.Nodup) :
    p.OrdersHalt l (l.foldl Part.haltOrder p) := by
  induction l using List.reverseRecOn with
  | nil => exact ⟨rfl, fun _ => (if_neg (List.not_mem_nil)).symm, (focus_kept _).symm⟩
  | append_singleton l h ih =>
    rw [List.nodup_append] at nodup
    have fresh : h ∉ l := fun hm => nodup.2.2 h hm h (List.mem_singleton_self h) rfl
    obtain ⟨rest, orders, focus⟩ := ih nodup.1
    rw [List.foldl_append, List.foldl_cons, List.foldl_nil, Part.haltOrder_eq]
    generalize l.foldl Part.haltOrder p = q at rest orders focus ⊢
    have same : q.ord.orders[h] = p.ord.orders[h] := by rw [orders, if_neg fresh]
    have takes (n : Nat) : q.takes h n = p.takes h n := by rw [Part.takes, same, Part.takes]
    refine ⟨by rw [rest], fun k => ?_, ?_⟩
    · by_cases hk : k = h
      · subst hk
        rw [if_pos (List.mem_append_right _ (List.mem_singleton_self _)), ← same]
        exact Vector.getElem_set_self _
      · have member : k ∈ l ++ [h] ↔ k ∈ l := by simp [hk]
        simp only [member, ← orders]
        exact orders_set_ne _ _ hk
    · simp only [focus, takes, Option.filter_filter, List.all_append, List.all_cons, List.all_nil, Bool.and_true]

/-! ### Engines -/

/-- An engine out of NEEDS_MEDIA at PATH_RESET (R178). -/
def Engine.mediaLeft (en : Engine) (condition : Option FaultKind) : Engine :=
  if en.state = .needsMedia then
    match condition with
    | some k => en.faulted k
    | none => { en with state := .idle, panel := none, line := none, motion := none }
  else en

/-- An engine has left NEEDS_MEDIA with no item in its queue (R165, R171, R178). -/
structure Part.LeavesMedia (p : Part) (e : EngineId) (q : Part) : Prop where
  rest : q = { p with
    svc := { p.svc with captureSet := q.svc.captureSet, again := q.svc.again }
    spl := { p.spl with port := q.spl.port }, engA := q.engA, engB := q.engB }
  own : q.eng e = (p.eng e).mediaLeft (p.sensors e).condition
  other : ∀ e', e' ≠ e → q.eng e' = p.eng e'
  captures : ∀ k : CaptureKind, p.svc.captureSet.has k = true → q.svc.captureSet.has k = true
  port : (∀ a ∈ p.spl.port, a.live = false) → q.spl.port = p.spl.port
  quiet : ((p.eng e).state = .needsMedia → (p.sensors e).condition = none) → q.svc = p.svc

theorem Part.modEng_self {p : Part} {e : EngineId} {f : Engine → Engine} (h : f (p.eng e) = p.eng e) : p.modEng e f = p := by
  cases e with
  | A => exact congrArg (fun en => { p with engA := en }) h
  | B => exact congrArg (fun en => { p with engB := en }) h

theorem Part.modEng_other (p : Part) {e e' : EngineId} (h : e' ≠ e) (f : Engine → Engine) :
    (p.modEng e f).eng e' = p.eng e' :=
  p.modEng_read e e' f id fun he => absurd he h

/-- No copy begins while no item waits (R166). -/
theorem Part.beginCopy_empty {p : Part} {e : EngineId} (hq : (p.eng e).queue = []) : p.beginCopy e = (p, false) := by
  unfold Part.beginCopy
  split
  next h => exact nomatch hq.symm.trans h
  next => rfl

/-- A fault with an empty queue hands no item back (R173). -/
theorem Part.faultCore_empty {p : Part} {e : EngineId} (hq : (p.eng e).queue = []) (k : FaultKind) :
    p.faultCore e k false = (p.enterFault e k, false) := by
  have queue : ((p.enterFault e k).eng e).queue = [] := by
    cases e <;> exact hq
  have none' : (p.enterFault e k).returnItems e [] = p.enterFault e k :=
    Part.modEng_self (p := p.enterFault e k) (e := e)
      (f := fun en => { en with queue := en.queue.filter fun id => !List.contains [] id })
      (by simp only [queue, List.filter_nil]; rw [← queue])
  simp only [Part.faultCore, hq, List.filter_nil, none']
  rfl

/-- An engine as it enters IDLE with an empty queue, no condition being reported (R178). -/
def Engine.idled (en : Engine) : Engine := { en with state := .idle, panel := none, line := none, motion := none }

theorem Engine.mediaLeft_none {en : Engine} (h : en.state = .needsMedia) : en.mediaLeft none = en.idled := if_pos h

theorem Engine.mediaLeft_some {en : Engine} (h : en.state = .needsMedia) (k : FaultKind) :
    en.mediaLeft (some k) = en.faulted k :=
  if_pos h

theorem Engine.mediaLeft_other {en : Engine} (h : en.state ≠ .needsMedia) (c : Option FaultKind) : en.mediaLeft c = en :=
  if_neg h

/-- An access that nobody wants can be disowned again (R159). -/
theorem port_kept {port : Option Access} (dead : ∀ a ∈ port, a.live = false) (f : Access → Bool) :
    (port.map fun a => if f a then { a with live := false } else a) = port := by
  cases port with
  | none => rfl
  | some a =>
    have same : ({ a with live := false } : Access) = a := by rw [← dead a rfl]
    simp only [Option.map_some, same, ite_self]

theorem Part.leaveNeedsMedia_leaves {p : Part} {e : EngineId} (hq : (p.eng e).queue = []) :
    p.LeavesMedia e (p.leaveNeedsMedia e) := by
  unfold Part.leaveNeedsMedia
  by_cases hm : (p.eng e).state = .needsMedia
  · rw [if_pos (by rw [hm]; rfl)]
    let i := p.modEng e Engine.idled
    have queue : (i.eng e).queue = [] := by rw [Part.modEng_same]; exact hq
    have sensors : i.sensors e = p.sensors e := by cases e <;> rfl
    have enters : p.enterIdle e = match (p.sensors e).condition with
        | some k => i.faultCore e k false
        | none => i.beginCopy e := by
      rw [← sensors]; rfl
    cases hc : (p.sensors e).condition with
    | none =>
      have idle : p.enterIdle e = (i, false) := by rw [enters, hc]; exact Part.beginCopy_empty queue
      rw [idle]
      refine ⟨by cases e <;> rfl, ?_, fun e' he => p.modEng_other he _, fun k hk => ?_, fun _ => ?_, fun _ => ?_⟩
      · rw [Part.modEng_same, hc, Engine.mediaLeft_none hm]
      · cases e <;> exact hk
      · cases e <;> rfl
      · cases e <;> rfl
    | some k =>
      have fault : p.enterIdle e = (i.enterFault e k, false) := by rw [enters, hc]; exact Part.faultCore_empty queue k
      rw [fault]
      refine ⟨by cases e <;> rfl, ?_, fun e' he => ?_, fun c hk => ?_, fun dead => ?_, fun h => ?_⟩
      · rw [hc, Engine.mediaLeft_some hm]
        cases e <;> rfl
      · cases e <;> cases e' <;> first | rfl | exact absurd rfl he
      · have svc : (i.enterFault e k).svc = p.svc.capture .engineFault := by cases e <;> rfl
        rw [svc, Service.capture_has, hk, Bool.true_or]
      · have port : (i.enterFault e k).spl.port
            = p.spl.port.map fun a => if a.who == .engine e then { a with live := false } else a := by
          cases e <;> rfl
        rw [port]
        exact port_kept dead _
      · exact absurd (h hm) (by rw [hc]; nofun)
  · rw [if_neg (by simpa using hm)]
    exact ⟨rfl, (Engine.mediaLeft_other hm _).symm, fun _ _ => rfl, fun _ h => h, fun _ => rfl, fun _ => rfl⟩

end Sys2Proof.Machine
end

section
/-! PROOFS. PATH_RESET stage by stage, and its effects as the parts of the statement (R12, R32, R51, R67, R104, R105, R125,
R137, R152, R160, R178, R190). -/

set_option Elab.async false

open Sys2Proof Sys2Proof.Machine

namespace Sys2Proof.Machine

/-! ### The stages -/

/-- No requester wants its access any longer (R159). -/
def Spool.disowned (m : Spool) : Spool := { m with port := m.port.map fun a => { a with live := false } }

/-- The part once PATH_RESET has emptied its queues and abandoned what converts (R12, R51, R152, R178, R190). -/
def Part.resetCleared (p : Part) : Part :=
  { p with
    svc := { p.svc with mode := .setup }, lnk := { p.lnk with ctrl := [], handler := .idle }, csu := p.csu.pathReset
    rin := { p.rin with queue := [], conv := none }, spl := p.spl.disowned
    engA := p.engA.pathReset, engB := p.engB.pathReset }

/-- Disowned by every requester, an access is wanted by none (R159). -/
theorem disown_everyone (port : Option Access) :
    ((port.map fun a => if a.who == .intake then { a with live := false } else a).map
      fun a => if a.who == .engine .A then { a with live := false } else a).map
      (fun a => if a.who == .engine .B then { a with live := false } else a)
      = port.map fun a => { a with live := false } := by
  cases port with
  | none => rfl
  | some a =>
    obtain ⟨who⟩ := a
    cases who with
    | intake => rfl
    | engine e => cases e <;> rfl

/-- The regions are invalid (R160). -/
def Part.resetRegions (p : Part) : Part := { p with spl := { p.spl with regions := p.spl.regions.map Region.pathReset } }

/-- The walks over the items and the orders (R104, R105). -/
def Part.resetOrders (p : Part) : Part := p.takingOrders.foldl Part.checkSettling (p.takingOrders.foldl Part.haltOrder p)

/-- PATH_RESET's effects on the blocks, stage by stage. -/
theorem Part.pathResetBlocks_eq (p : Part) : p.pathResetBlocks
    = (((List.finRange 64).foldl Part.resetItem p.resetCleared).resetOrders.resetRegions.leaveNeedsMedia .A
      ).leaveNeedsMedia .B := by
  have cleared : p.resetCleared = Part.disownAccess (Part.disownAccess (Part.abandonBand { p with
      svc := { p.svc with mode := .setup }, lnk := { p.lnk with ctrl := [], handler := .idle }, csu := p.csu.pathReset
      rin := { p.rin with queue := [] }, engA := p.engA.pathReset, engB := p.engB.pathReset })
      (.engine .A)) (.engine .B) := by
    simp only [Part.resetCleared, Spool.disowned, ← disown_everyone]
    rfl
  rw [cleared]
  simp only [Part.pathResetBlocks, Part.resetOrders, Part.resetRegions]

/-- The parts that PATH_RESET's stages leave: items withdrawn, orders halted, orders settled, engines out of NEEDS_MEDIA. -/
structure Part.ResetStages (p items halted settled mediaA q : Part) : Prop where
  withdraws : p.resetCleared.ItemsReset (List.finRange 64) items
  halts : items.OrdersHalt items.takingOrders halted
  settles : halted.OrdersSettle items.takingOrders settled
  rests : (∀ k ∈ items.takingOrders, ∀ o, halted.ord.orders[k] = some o → halted.maySettle o = false) → settled = halted
  leavesA : settled.resetRegions.LeavesMedia .A mediaA
  leavesB : mediaA.LeavesMedia .B q

theorem Cards.pathReset_still (c : Cards) : c.pathReset.Still :=
  ⟨rfl, rfl, rfl, rfl, fun i => by simp [Cards.pathReset, Slot.pathReset]⟩

theorem Engine.pathReset_queue (en : Engine) : en.pathReset.queue = [] := by
  unfold Engine.pathReset
  simp only
  split <;> rfl

theorem Order.resetHalted_number (o : Order) : o.resetHalted.number = o.number := by
  unfold Order.resetHalted
  split <;> rfl

theorem Order.resetHalted_slot (o : Order) : o.resetHalted.slot = o.slot := by
  unfold Order.resetHalted
  split <;> rfl

/-- The stages before the orders settle keep the numbers of the records. -/
theorem Part.OrdersHalt.sameNumbers {p items q : Part} {l : List (Fin 32)} {ids : List (Fin 64)}
    (withdraws : p.resetCleared.ItemsReset ids items) (halts : items.OrdersHalt l q) : p.SameNumbers q := by
  intro k
  have charged : (items.ord.orders[k]).map (·.number) = (p.ord.orders[k]).map (·.number) := by
    rw [withdraws.orders, Option.map_map]; rfl
  rw [halts.orders, ← charged]
  split
  · rw [Option.map_map]
    exact congrArg (Option.map · _) (funext Order.resetHalted_number)
  · rfl

/-- An order that is halted has not the focus (R105). -/
theorem Part.OrdersHalt.unfocused {p q : Part} (h : p.OrdersHalt p.takingOrders q) {k : Fin 32} (hk : k ∈ p.takingOrders)
    {o : Order} (ho : q.ord.orders[k] = some o) : q.pay.focus ≠ some o.number := by
  intro focused
  rw [h.orders, if_pos hk] at ho
  obtain ⟨before, hb, rfl⟩ := Option.map_eq_some_iff.mp ho
  obtain ⟨o', ho', taking⟩ := Part.mem_takingOrders.mp hk
  obtain rfl : o' = before := Option.some.inj (ho'.symm.trans hb)
  rw [h.focus, Option.filter_eq_some_iff, List.all_eq_true] at focused
  have lost := focused.2 k hk
  simp only [Part.takes, hb, Option.any_some, taking, Order.resetHalted_number, beq_self_eq_true, Bool.and_self,
    Bool.not_true, Bool.false_eq_true] at lost

/-- PATH_RESET's stages. -/
theorem Part.pathResetBlocks_stages {p : Part} (waits : p.clc.outstanding ≠ none ∨ p.ord.waiting = [])
    (apart : p.numbersApart) :
    ∃ items halted settled mediaA, p.ResetStages items halted settled mediaA p.pathResetBlocks := by
  rw [Part.pathResetBlocks_eq]
  have withdraws := Part.foldl_resetItem p.resetCleared (List.finRange 64) (List.nodup_finRange 64) rfl rfl
    p.engA.pathReset_queue p.engB.pathReset_queue
  generalize (List.finRange 64).foldl Part.resetItem p.resetCleared = items at withdraws ⊢
  rw [Part.resetOrders]
  have halts := Part.foldl_haltOrder items items.takingOrders items.takingOrders_nodup
  generalize items.takingOrders.foldl Part.haltOrder items = halted at halts ⊢
  have still : halted.csu.Still := by
    rw [halts.rest, withdraws.rest]
    exact p.csu.pathReset_still
  have waits' : halted.clc.outstanding ≠ none ∨ halted.ord.waiting = [] := by
    rw [halts.rest, withdraws.rest]
    exact waits
  have settles := Part.foldl_checkSettling still ((Part.OrdersHalt.sameNumbers withdraws halts).apart apart)
    (waits'.imp_right .inl) items.takingOrders items.takingOrders_nodup fun k hk o ho => halts.unfocused hk ho
  have rests := Part.foldl_checkSettling_rests (p := halted) (l := items.takingOrders)
  generalize items.takingOrders.foldl Part.checkSettling halted = settled at settles rests ⊢
  have queue (e : EngineId) : (settled.resetRegions.eng e).queue = [] := by
    have same : settled.resetRegions.eng e = p.resetCleared.eng e := by
      rw [Part.resetRegions, settles.rest, halts.rest, withdraws.rest]
      cases e <;> rfl
    rw [same]
    cases e
    · exact p.engA.pathReset_queue
    · exact p.engB.pathReset_queue
  have leavesA := Part.leaveNeedsMedia_leaves (queue .A)
  have leavesB := Part.leaveNeedsMedia_leaves (p := settled.resetRegions.leaveNeedsMedia .A) (e := .B)
    (by rw [leavesA.other .B nofun]; exact queue .B)
  exact ⟨items, halted, settled, _, withdraws, halts, settles, rests, leavesA, leavesB⟩

/-- An order whose unended items PATH_RESET withdraws (R97, R104). -/
def Part.resetCharged (p : Part) (k : Fin 32) (o : Order) : Order := p.resetCleared.resetOrder (List.finRange 64) k o

/-- The withdrawal of items leaves of an order everything but its sums (R104). -/
theorem Part.resetOrder_keeps (p : Part) (l : List (Fin 64)) (k : Fin 32) (o : Order) :
    (p.resetOrder l k o).taking = o.taking ∧ (p.resetOrder l k o).number = o.number ∧ (p.resetOrder l k o).slot = o.slot
      ∧ (p.resetOrder l k o).cancel = o.cancel ∧ (p.resetOrder l k o).cashless = o.cashless := ⟨rfl, rfl, rfl, rfl, rfl⟩

theorem Part.resetCharged_taking (p : Part) (k : Fin 32) (o : Order) : (p.resetCharged k o).taking = o.taking :=
  (Part.resetOrder_keeps ..).1

theorem Part.resetCharged_number (p : Part) (k : Fin 32) (o : Order) : (p.resetCharged k o).number = o.number :=
  (Part.resetOrder_keeps ..).2.1

theorem Part.resetCharged_slot (p : Part) (k : Fin 32) (o : Order) : (p.resetCharged k o).slot = o.slot :=
  (Part.resetOrder_keeps ..).2.2.1

theorem Part.resetCharged_cancel (p : Part) (k : Fin 32) (o : Order) : (p.resetCharged k o).cancel = o.cancel :=
  (Part.resetOrder_keeps ..).2.2.2.1

theorem Part.resetCharged_cashless (p : Part) (k : Fin 32) (o : Order) : (p.resetCharged k o).cashless = o.cashless :=
  (Part.resetOrder_keeps ..).2.2.2.2

/-- An OPEN or COMMITTED order that PATH_RESET takes to SETTLING (R81, R99, R105). -/
def Order.resetSettles (o : Order) : Bool := o.taking && o.cancel && o.cashless.state != .pending

/-- With every item ended, a HALTED order may settle when it is cancelled and no authorization is PENDING (R81, R99). -/
theorem Part.maySettle_halted {p : Part} {o : Order} (hs : o.state = .halted)
    (ended : ∀ (id : Fin 64) (it : Item), p.ord.items[id] = some it → it.state.terminal = true) :
    p.maySettle o = (o.cancel && o.cashless.state != .pending) := by
  rw [Bool.eq_iff_iff]
  simp only [Part.maySettle, Bool.and_eq_true, List.all_eq_true, hs]
  constructor
  · rintro ⟨⟨cancelled, -⟩, free⟩
    exact ⟨by simpa using cancelled, free⟩
  · rintro ⟨cancelled, free⟩
    refine ⟨⟨by simpa using cancelled, fun id _ => ?_⟩, free⟩
    split
    next it hi => exact ended id it hi
    next => rfl

/-! ### What the stages leave -/

section
variable {p items halted settled mediaA q : Part} (h : p.ResetStages items halted settled mediaA q)
include h

/-- The part after the stages, each field as its last stage leaves it. -/
theorem Part.ResetStages.frame : q = { p with
    lnk := settled.lnk
    svc := { p.svc with mode := .setup, captureSet := q.svc.captureSet, again := q.svc.again }
    csu := { p.csu.pathReset with slots := settled.csu.slots }
    ord := { p.ord with
      items := items.ord.items, orders := settled.ord.orders, waiting := settled.ord.waiting
      release := p.ord.release.filter fun e => decide ¬ (e.item ∈ List.finRange 64 ∧ p.resetCleared.isWork e.item = true) }
    pay := { p.pay with focus := halted.pay.focus, kept := settled.pay.kept, pool := settled.pay.pool }
    clc := { settled.clc with rx := p.clc.rx }
    rin := { p.rin with queue := [], conv := none, intake := items.rin.intake }
    spl := { p.spl.disowned with regions := items.spl.regions.map Region.pathReset }
    engA := q.engA, engB := q.engB } := by
  have walks : settled.resetRegions = _ := congrArg Part.resetRegions h.settles.rest
  rw [h.halts.rest, h.withdraws.rest] at walks
  have dead : ∀ a ∈ settled.resetRegions.spl.port, a.live = false := by
    rw [walks]
    intro a ha
    obtain ⟨b, -, rfl⟩ := Option.map_eq_some_iff.mp ha
    rfl
  have first := h.leavesA.rest
  rw [h.leavesA.port dead] at first
  have last := h.leavesB.rest
  rw [h.leavesB.port (by rw [h.leavesA.port dead]; exact dead), first, walks] at last
  exact last

/-- Captures are kept (R15). -/
theorem Part.ResetStages.captures (k : CaptureKind) (hk : p.svc.captureSet.has k = true) :
    q.svc.captureSet.has k = true := by
  refine h.leavesB.captures k (h.leavesA.captures k (h.settles.captures k ?_))
  rw [h.halts.rest, h.withdraws.rest]
  exact hk

/-- Beside a frame in transmission, or with no REPLY waiting, the link loses only its requests (R12). -/
theorem Part.ResetStages.link (hl : p.lnk.tx ≠ none ∨ p.lnk.replies = []) :
    settled.lnk = { p.lnk with ctrl := [], handler := .idle } := by
  have before : halted.lnk = { p.lnk with ctrl := [], handler := .idle } := by rw [h.halts.rest, h.withdraws.rest]; rfl
  rw [h.settles.link (by rw [before]; exact hl), before]

theorem Part.ResetStages.still : q.csu.Still := by
  have path : q.csu = settled.csu := by rw [h.leavesB.rest, h.leavesA.rest]; rfl
  rw [path]
  exact h.settles.still

theorem Part.ResetStages.engine_before (e : EngineId) : settled.resetRegions.eng e = (p.eng e).pathReset := by
  rw [Part.resetRegions, h.settles.rest, h.halts.rest, h.withdraws.rest]
  cases e <;> rfl

theorem Part.ResetStages.sensors_before (e : EngineId) :
    settled.resetRegions.sensors e = p.sensors e ∧ mediaA.sensors e = p.sensors e := by
  have pins : settled.resetRegions.pins = p.pins := by
    rw [Part.resetRegions, h.settles.rest, h.halts.rest, h.withdraws.rest]
    rfl
  have pinsA : mediaA.pins = p.pins := by rw [h.leavesA.rest]; exact pins
  cases e <;> simp only [Part.sensors, pins, pinsA, and_self]

/-- An engine empties, ejects what it prints, and leaves NEEDS_MEDIA (R178, R190). -/
theorem Part.ResetStages.engine (e : EngineId) :
    q.eng e = (p.eng e).pathReset.mediaLeft (p.sensors e).condition := by
  cases e with
  | A => rw [h.leavesB.other .A nofun, h.leavesA.own, h.engine_before, (h.sensors_before .A).1]
  | B => rw [h.leavesB.own, h.leavesA.other .B nofun, h.engine_before, (h.sensors_before .B).2]

/-- With no fault reported where media are needed, the engines capture nothing (R165). -/
theorem Part.ResetStages.svc_quiet (quiet : ∀ e, (p.eng e).state = .needsMedia → (p.sensors e).condition = none) :
    q.svc = settled.svc := by
  have state (en : Engine) (hm : en.pathReset.state = .needsMedia) : en.state = .needsMedia := by
    unfold Engine.pathReset at hm
    simp only at hm
    split at hm
    · exact nomatch hm
    · exact hm
  have first := h.leavesA.quiet fun hm => by
    rw [(h.sensors_before .A).1]
    rw [h.engine_before] at hm
    exact quiet .A (state _ hm)
  have last := h.leavesB.quiet fun hm => by
    rw [(h.sensors_before .B).2]
    rw [h.leavesA.other .B nofun, h.engine_before] at hm
    exact quiet .B (state _ hm)
  exact last.trans first

/-! ### Items -/

theorem Part.ResetStages.item (id : Fin 64) : items.ord.items[id]
    = (p.ord.items[id]).map fun it => if it.state.terminal then it else it.resetDone := by
  rw [h.withdraws.items, show p.resetCleared.ord.items[id] = p.ord.items[id] from rfl, Part.isWork,
    show p.resetCleared.ord.items[id] = p.ord.items[id] from rfl]
  cases p.ord.items[id] with
  | none => simp
  | some it => cases ht : it.state.terminal <;> simp [ht]

theorem Part.ResetStages.items_terminal {id : Fin 64} {it : Item} (hi : items.ord.items[id] = some it) :
    it.state.terminal = true := by
  rw [h.item] at hi
  obtain ⟨before, -, rfl⟩ := Option.map_eq_some_iff.mp hi
  split
  · assumption
  · rfl

theorem Part.ResetStages.intake (id : Fin 64) : items.rin.intake[id]
    = if (p.ord.items[id]).all fun it => it.state.terminal then p.rin.intake[id]
      else (p.rin.intake[id]).map fun x => { x with receiving := false } := by
  have works : p.resetCleared.isWork id = !((p.ord.items[id]).all fun it => it.state.terminal) := by
    rw [Part.isWork, show p.resetCleared.ord.items[id] = p.ord.items[id] from rfl]
    cases p.ord.items[id] <;> rfl
  rw [h.withdraws.intake, works]
  cases (p.ord.items[id]).all fun it => it.state.terminal with
  | true => simp [Part.resetCleared]
  | false => simp [Part.resetCleared]; rfl

/-! ### Orders -/

/-- An order as the withdrawal of its items leaves it (R97, R104). -/
theorem Part.ResetStages.charged_order {k : Fin 32} : items.ord.orders[k] = (p.ord.orders[k]).map (p.resetCharged k) :=
  h.withdraws.orders k

theorem Part.ResetStages.halted_order {k : Fin 32} {o : Order} (ho : p.ord.orders[k] = some o) :
    halted.ord.orders[k] = some (p.resetCharged k o).resetHalted := by
  have charged : items.ord.orders[k] = some (p.resetCharged k o) := by rw [h.charged_order, ho, Option.map_some]
  rw [h.halts.orders]
  split
  · rw [charged, Option.map_some]
  · rename_i rests
    have idle : (p.resetCharged k o).taking = false := Bool.eq_false_iff.mpr fun ht =>
      rests (Part.mem_takingOrders.mpr ⟨_, charged, ht⟩)
    rw [charged, Order.resetHalted, if_neg (by rw [idle]; nofun)]

theorem Part.ResetStages.mem_taking {k : Fin 32} :
    k ∈ items.takingOrders ↔ ∃ o, p.ord.orders[k] = some o ∧ o.taking = true := by
  rw [Part.mem_takingOrders, h.charged_order]
  constructor
  · rintro ⟨o', ho', ht⟩
    obtain ⟨o, ho, rfl⟩ := Option.map_eq_some_iff.mp ho'
    exact ⟨o, ho, (Part.resetCharged_taking ..).symm.trans ht⟩
  · rintro ⟨o, ho, ht⟩
    exact ⟨_, Option.map_eq_some_iff.mpr ⟨o, ho, rfl⟩, (Part.resetCharged_taking ..).trans ht⟩

/-- With its items ended, a cancelled order that no authorization holds back may settle (R81, R99). -/
theorem Part.ResetStages.maySettle {k : Fin 32} {o : Order} (ht : o.taking = true) :
    halted.maySettle (p.resetCharged k o).resetHalted = o.resetSettles := by
  have taking : (p.resetCharged k o).taking = true := (Part.resetCharged_taking ..).trans ht
  have ended (id : Fin 64) (it : Item) (hi : halted.ord.items[id] = some it) : it.state.terminal = true := by
    rw [h.halts.rest] at hi
    exact h.items_terminal hi
  rw [Order.resetHalted, if_pos taking, Part.maySettle_halted rfl ended, Order.resetSettles, ht, Bool.true_and,
    Part.resetCharged_cancel, Part.resetCharged_cashless]

/-- An order that settles (R81, R99 to R105). -/
theorem Part.ResetStages.settled_order {k : Fin 32} {o : Order} (ho : p.ord.orders[k] = some o)
    (hs : o.resetSettles = true) :
    ∃ o', settled.ord.orders[k] = some o' ∧ Order.Settled { p.resetCharged k o with state := .halted } o' := by
  have ht : o.taking = true := by
    simp only [Order.resetSettles, Bool.and_eq_true] at hs
    exact hs.1.1
  have halt : (p.resetCharged k o).resetHalted = { p.resetCharged k o with state := .halted } :=
    if_pos ((Part.resetCharged_taking ..).trans ht)
  rw [← halt]
  exact h.settles.settled k (h.mem_taking.mpr ⟨o, ho, ht⟩) _ (h.halted_order ho) ((h.maySettle ht).trans hs)

/-- Which orders settle, of those that the walk visits. -/
theorem Part.ResetStages.settles_of_walk {k : Fin 32} (hk : k ∈ items.takingOrders) {o' : Order}
    (ho' : halted.ord.orders[k] = some o') : ∃ o, p.ord.orders[k] = some o ∧ o'.slot = o.slot
      ∧ halted.maySettle o' = o.resetSettles := by
  obtain ⟨o, ho, ht⟩ := h.mem_taking.mp hk
  rw [h.halted_order ho] at ho'
  have same := Option.some.inj ho'
  refine ⟨o, ho, ?_, ?_⟩
  · rw [← same, Order.resetHalted_slot, Part.resetCharged_slot]
  · rw [← same, h.maySettle ht]

/-- An order that does not settle (R104, R105). -/
theorem Part.ResetStages.kept_order {k : Fin 32} {o : Order} (ho : p.ord.orders[k] = some o)
    (hs : o.resetSettles = false) : settled.ord.orders[k] = some (p.resetCharged k o).resetHalted := by
  rw [h.settles.kept k fun o' hk ho' => ?_, h.halted_order ho]
  obtain ⟨o'', ho'', -, same⟩ := h.settles_of_walk hk ho'
  rw [same, ← hs, Option.some.inj (ho''.symm.trans ho)]

theorem Part.ResetStages.free_order {k : Fin 32} (ho : p.ord.orders[k] = none) : settled.ord.orders[k] = none := by
  have rests : k ∉ items.takingOrders := fun hk => by
    obtain ⟨o, ho', -⟩ := h.mem_taking.mp hk
    exact nomatch ho.symm.trans ho'
  rw [h.settles.kept k fun _ hk _ => absurd hk rests, h.halts.orders, if_neg rests, h.charged_order, ho, Option.map_none]

/-- A slot that is bound to no order that settles loses its requests, and a read on its bus becomes an orphan (R51). -/
theorem Part.ResetStages.slot {i : Fin 4}
    (hi : ∀ (k : Fin 32) (o : Order), p.ord.orders[k] = some o → o.resetSettles = true → o.slot ≠ some i) :
    settled.csu.slots[i] = p.csu.slots[i].pathReset := by
  have before : halted.csu.slots[i] = p.csu.slots[i].pathReset := by
    rw [h.halts.rest, h.withdraws.rest]
    exact Vector.getElem_map ..
  rw [h.settles.slots i fun k hk o' ho' hm => ?_, before]
  obtain ⟨o, ho, slot, same⟩ := h.settles_of_walk hk ho'
  rw [slot]
  exact hi k o ho (same ▸ hm)

/-- Where no order settles, the walk changes nothing (R99). -/
theorem Part.ResetStages.none_settles (hn : ∀ (k : Fin 32) (o : Order), p.ord.orders[k] = some o → o.resetSettles = false) :
    settled = halted :=
  h.rests fun k hk o' ho' => by
    obtain ⟨o, ho, -, same⟩ := h.settles_of_walk hk ho'
    rw [same, hn k o ho]

/-- The focus leaves an OPEN or COMMITTED order, and no other (R105). -/
theorem Part.ResetStages.focus : halted.pay.focus
    = p.pay.focus.filter fun n => items.takingOrders.all fun k => !items.takes k n := by
  rw [h.halts.focus, h.withdraws.rest]
  rfl

theorem Part.ResetStages.takes_iff {k : Fin 32} {n : Nat} :
    items.takes k n = true ↔ ∃ o, p.ord.orders[k] = some o ∧ o.taking = true ∧ o.number = n := by
  rw [Part.takes, h.charged_order]
  cases ho : p.ord.orders[k] with
  | none => simp
  | some o =>
    simp only [Option.map_some, Option.any_some, Part.resetCharged_taking, Part.resetCharged_number, Bool.and_eq_true,
      beq_iff_eq, Option.some.injEq, exists_eq_left']

end

end Sys2Proof.Machine
end

section
/-! PROOFS. PATH_RESET_EFFECTS: the frame that ends and the next one (R11, R12, R32), and the obligation. -/

set_option Elab.async false

open Sys2Proof Sys2Proof.Machine

namespace Sys2Proof.Machine

/-! ### The link -/

/-- The REPLY to PATH_RESET is in transmission (R12, log entry 21). -/
def Link.resetLeaving (l : Link) : Bool := l.handler == .resetSending && l.tx.any TxFrame.isResetReply

/-- Without a REPLY that has left or leaves, the command leaves the part (log entry 21). -/
theorem Part.pathResetEffects_rests {p : Part} (hd : p.lnk.handler ≠ .resetDue) (hl : p.lnk.resetLeaving = false) :
    p.pathResetEffects = p := by
  unfold Part.pathResetEffects
  split
  next h => exact absurd h hd
  next f hh hf =>
    rw [if_neg]
    simpa [Link.resetLeaving, hh, hf] using hl
  next => rfl

/-- FRAME_TRANSMIT_DONE has ended the REPLY (log entry 21). -/
theorem Part.pathResetEffects_due {p : Part} (h : p.lnk.handler = .resetDue) :
    p.pathResetEffects = p.pathResetBlocks.feed := by
  simp only [Part.pathResetEffects, h]

/-- The REPLY ends here (log entry 21). -/
theorem Part.pathResetEffects_leaving {p : Part} (h : p.lnk.resetLeaving = true) : p.pathResetEffects
    = Part.feed { p.pathResetBlocks with lnk := { p.pathResetBlocks.lnk with tx := none } } := by
  simp only [Link.resetLeaving, Bool.and_eq_true, beq_iff_eq, Option.any_eq_true] at h
  obtain ⟨hh, f, hf, reply⟩ := h
  simp only [Part.pathResetEffects, hh, hf, reply, if_true]

/-- The link once the effects of PATH_RESET have begun: the REPLY in transmission has ended, and a REPLY that waits is sent
next (R11, R12, log entry 45). -/
theorem State.pathReset_link {s : State} {items halted settled mediaA : Part}
    (h : s.toPart.ResetStages items halted settled mediaA s.toPart.pathResetBlocks)
    (hgo : s.lnk.handler = .resetDue ∨ s.lnk.resetLeaving = true) :
    let sending := if s.lnk.resetLeaving then none else s.lnk.tx
    ∃ l : Link, s.toPart.pathResetEffects = { s.toPart.pathResetBlocks with lnk := l }
      ∧ (l.handler = .idle ∧ l.ctrl = [] ∧ l.asm = s.lnk.asm ∧ l.errorCount = s.lnk.errorCount)
      ∧ (sending ≠ none ∨ s.lnk.replies = [] → l = { s.lnk with ctrl := [], handler := .idle, tx := sending })
      ∧ (∀ r rs, s.lnk.handler = .resetSending → s.lnk.replies = r :: rs →
        l = { s.lnk with
          ctrl := [], handler := .idle, replies := rs
          tx := some (State.frameBegun { s with toPart := s.toPart.pathResetBlocks } 0x81 r.tag
            (r.code :: r.status.code :: r.result)) }) := by
  intro sending
  have blocks : s.toPart.pathResetBlocks.lnk = settled.lnk := by rw [h.frame]
  have fixed := s.toPart.pathResetBlocks_fixed
  have still := h.still
  have link := h.link
  generalize hb : s.toPart.pathResetBlocks = b at blocks fixed still ⊢
  have outer (l : Link) (hl : ({ b with lnk := l } : Part).fixed = b.fixed) :
      l.handler = .idle ∧ l.ctrl = [] ∧ l.asm = s.lnk.asm ∧ l.errorCount = s.lnk.errorCount := by
    rw [fixed] at hl
    exact ⟨congrArg Fixed.handler hl, congrArg Fixed.ctrl hl, congrArg Fixed.asm hl, congrArg Fixed.errorCount hl⟩
  by_cases hl : s.lnk.resetLeaving = true
  · have sent : sending = none := if_pos hl
    have busy : s.lnk.tx ≠ none := by
      simp only [Link.resetLeaving, Bool.and_eq_true, Option.any_eq_true] at hl
      obtain ⟨-, f, hf, -⟩ := hl
      rw [hf]; nofun
    let w : Part := { b with lnk := { b.lnk with tx := none } }
    have hw : w.lnk = { s.lnk with ctrl := [], handler := .idle, tx := none } := by
      simp only [w, blocks, link (.inl busy)]
    have fed : s.toPart.pathResetEffects = w.feed := by rw [Part.pathResetEffects_leaving hl, hb]
    have fed' : w.feed = { w with lnk := w.feed.lnk } := Part.feed_link still
    refine ⟨w.feed.lnk, fed.trans fed', outer _ ?_, fun hn => ?_, fun r rs hh hrep => ?_⟩
    · exact (congrArg Part.fixed fed').symm.trans w.feed_fixed
    · have idle : s.lnk.replies = [] := hn.resolve_left (by rw [sent]; exact fun h => h rfl)
      rw [sent, Part.feed_rests (p := w) still (.inr (by rw [hw]; exact idle)), hw]
    · let t : State := { s with toPart := w }
      have moved : ({ t with toPart := w.feed } : State) = t.framesMoved := State.framesMoved_eq t
      rw [State.framesMoved_reply (s := t) rfl (by rw [hw]; exact hrep)] at moved
      have sends := congrArg (fun s : State => s.lnk) moved
      simp only [t, hw] at sends
      exact sends
  · have sent : sending = s.lnk.tx := if_neg hl
    have due : s.lnk.handler = .resetDue := hgo.resolve_right hl
    have fed : s.toPart.pathResetEffects = b.feed := by rw [Part.pathResetEffects_due due, hb]
    refine ⟨b.feed.lnk, ?_, outer _ ?_, fun hn => ?_, fun r rs hh hrep => ?_⟩
    · rw [fed, ← Part.feed_link (p := b) still]
    · rw [← Part.feed_link (p := b) still, Part.feed_fixed]
    · rw [sent] at hn ⊢
      rw [Part.feed_rests (p := b) still (by rw [blocks, link hn]; exact hn), blocks, link hn]
    · exact nomatch due.symm.trans hh

/-! ### The parts of the statement -/

theorem Order.taking_iff (o : Order) : o.taking = true ↔ o.state = .opened ∨ o.state = .committed := by
  simp only [Order.taking, Bool.or_eq_true, beq_iff_eq]

theorem Order.resetSettles_iff (o : Order) : o.resetSettles = true
    ↔ (o.state = .opened ∨ o.state = .committed) ∧ o.cancel = true ∧ o.cashless.state ≠ .pending := by
  simp only [Order.resetSettles, Bool.and_eq_true, Order.taking_iff, bne_iff_ne, and_assoc]

theorem ItemState.terminal_eq (st : ItemState) : decide (st ∈ [ItemState.done, .failed, .withdrawn]) = st.terminal := by
  cases st <;> rfl

/-- What the withdrawals sum to, by any test that says which items have ended. -/
theorem Part.resetFall_eq (p : Part) (l : List (Fin 64)) (k : Fin 32) (f : Item → Nat) (lasts : Item → Bool)
    (hl : ∀ it, lasts it = it.state.terminal) :
    (l.map fun id => ((p.ord.items[id]).map fun it => if it.order = k ∧ lasts it = false then f it else 0).getD 0).sum
      = p.resetCleared.resetFall l k f := by
  obtain rfl : lasts = fun it => it.state.terminal := funext hl
  rfl

theorem Engine.pathReset_printing {en : Engine} (h : en.state.printing = true) : en.pathReset = { en with
    queue := [], readWaiting := false, hdu := { en.hdu with prev := none, drive := none }
    state := .ejecting, panel := none, line := none, motion := some .abortEject } := by
  simp only [Engine.pathReset, h, if_true]

theorem Engine.pathReset_other {en : Engine} (h : en.state.printing = false) : en.pathReset = { en with
    queue := [], readWaiting := false, hdu := { en.hdu with prev := none, drive := none } } := by
  simp only [Engine.pathReset, h, Bool.false_eq_true, if_false]

/-- The regions after the walk and after PATH_RESET are the regions before it, all invalid (R160). -/
theorem Part.ItemsReset.regions_pathReset {p items : Part} {l : List (Fin 64)} (h : p.resetCleared.ItemsReset l items) :
    items.spl.regions.map Region.pathReset = p.spl.regions.map Region.pathReset := by
  refine Vector.ext fun r hr => ?_
  rw [Vector.getElem_map, Vector.getElem_map]
  exact h.regions ⟨r, hr⟩

theorem Part.pathResetBlocks_tableBytes (p : Part) (T : TableId) : p.pathResetBlocks.tableBytes T = p.tableBytes T := by
  rw [Part.tableBytes_eq, Part.tableBytes_eq, Part.pathResetBlocks_fixed]
  cases T with
  | energy e => cases e <;> rfl
  | params e => cases e <;> rfl
  | product | priceKey | tone _ | channels | slotParams => rfl

/-- Settles O25: what each stage leaves, field by field, and the link beside them. -/
theorem pathResetEmptiesTheQueues : Obligations.PathResetEmptiesTheQueues := by
  unfold Obligations.PathResetEmptiesTheQueues
  intro s hr waits apart leaving sending lasts taking settles back fall charged halted ownBus emptied rested
  have run : exec .pathResetEffects s = .next { s with toPart := s.toPart.pathResetEffects } :=
    exec_running (c := .pathResetEffects) hr nofun
  refine ⟨fun hd hl => ?_, fun hgo => ?_⟩
  · rw [run, Part.pathResetEffects_rests hd hl]
  obtain ⟨items, halts, settled, mediaA, h⟩ := Part.pathResetBlocks_stages (p := s.toPart) waits apart
  obtain ⟨l, effects, outer, link, reply⟩ := State.pathReset_link h hgo
  have tables := s.toPart.pathResetBlocks_tableBytes
  generalize s.toPart.pathResetBlocks = b at h effects tables reply
  let t : State := { s with toPart := { b with lnk := l } }
  have lasting (it : Item) : lasts it = it.state.terminal := it.state.terminal_eq
  have settling (o : Order) : settles o ↔ o.resetSettles = true := (Order.resetSettles_iff o).symm
  have charging (k : Fin 32) (o : Order) : s.toPart.resetCharged k o = charged k o := by
    have falls (f : Item → Nat) : fall k f = s.toPart.resetCleared.resetFall (List.finRange 64) k f :=
      Part.resetFall_eq s.toPart _ k f lasts lasting
    simp only [charged, falls]
    rfl
  have path : b.csu.slots = settled.csu.slots := by rw [h.frame]
  have records : b.ord.orders = settled.ord.orders := by rw [h.frame]
  have focused : b.pay.focus = s.pay.focus.filter fun n => items.takingOrders.all fun k => !items.takes k n := by
    rw [h.frame]
    exact h.focus
  have operations : b.clc = { settled.clc with rx := s.clc.rx } := by rw [h.frame]
  have before : halts.clc = s.clc := by
    rw [h.halts.rest, h.withdraws.rest]
    rfl
  have halting (o : Order) : o.resetHalted = halted o := by
    by_cases ht : o.taking = true
    · simp only [Order.resetHalted, halted, if_pos ht, if_pos (show taking o from o.taking_iff.mp ht)]
    · simp only [Order.resetHalted, halted, if_neg ht, if_neg (show ¬ taking o from fun h => ht (o.taking_iff.mpr h))]
  refine ⟨t, by rw [run, effects], ?outer, ?svc, h.captures, outer, link, reply, ?csu,
    fun i => ⟨h.still.queues i, fun hi => ?slot⟩, ?rin, fun id => ?intake, ?spl, fun e => ?engine, ?ord, fun id => ?item,
    fun k ho => ?free, fun k o ho => ?order, ?pay,
    fun n hn => ?focus, fun hn => ?unfocused, ?rx, fun hout => ?operation, fun hnone => ?quiet, fun T => ?table⟩
  case outer =>
    show b.now = s.now ∧ b.inReset = false ∧ b.pins = s.pins ∧ s.pending = s.pending
    rw [h.frame]
    exact ⟨rfl, hr, rfl, rfl⟩
  case svc =>
    show b.svc = { s.svc with mode := .setup, captureSet := b.svc.captureSet, again := b.svc.again }
    rw [h.frame]
  case csu =>
    show b.csu = { s.csu with
      slots := b.csu.slots, turn := none, lastServed := 3, buffer := none, offered := none, endings := [] }
    rw [h.frame]
    rfl
  case slot =>
    show b.csu.slots[i] = _
    rw [path, h.slot fun k o ho hs => hi k o ho ((settling o).mpr hs), Slot.pathReset]
    congr 1
    generalize s.csu.slots[i].bus = bus
    cases bus with
    | mk phase run orphan =>
      cases phase with
      | idle => exact congrArg _ (Bool.or_false _)
      | data => exact congrArg _ (Bool.or_true _)
      | awaiting cmd arg => cases cmd <;> simp [ownBus, BusPhase.reading]
      | retryWait cmd arg => cases cmd <;> simp [ownBus, BusPhase.reading]
  case rin =>
    show b.rin = { s.rin with queue := [], conv := none, intake := b.rin.intake }
    rw [h.frame]
  case intake =>
    show b.rin.intake[id] = _
    have received : b.rin.intake = items.rin.intake := by rw [h.frame]
    rw [received, h.intake id, show lasts = _ from funext lasting]
  case spl =>
    show b.spl = _
    rw [h.frame, h.withdraws.regions_pathReset]
    rfl
  case engine =>
    show b.eng e = _
    rw [h.engine e]
    have emptying {en : Engine} (hp : en.state.printing = false) : en.pathReset = emptied en := Engine.pathReset_other hp
    cases hst : (s.eng e).state with
    | loading | panel | heatHold | ejecting =>
      rw [Engine.pathReset_printing (by rw [hst]; rfl)]
      rfl
    | needsMedia =>
      rw [emptying (by rw [hst]; rfl)]
      cases s.toPart.sensors e |>.condition with
      | none => exact Engine.mediaLeft_none (en := emptied (s.eng e)) hst
      | some k => exact Engine.mediaLeft_some (en := emptied (s.eng e)) hst k
    | absent | offline | idle | fault =>
      rw [emptying (by rw [hst]; rfl)]
      exact Engine.mediaLeft_other (by rw [show (emptied (s.eng e)).state = _ from hst]; nofun) _
  case ord =>
    have works (x : ReleaseEntry) : decide (¬ (x.item ∈ List.finRange 64 ∧ s.toPart.resetCleared.isWork x.item = true))
        = (s.ord.items[x.item]).all lasts := by
      rw [show lasts = _ from funext lasting]
      simp only [List.mem_finRange, true_and]
      rw [Part.isWork, show s.toPart.resetCleared.ord.items[x.item] = s.ord.items[x.item] from rfl]
      cases s.ord.items[x.item] <;> simp
    show b.ord = { s.ord with
      orders := b.ord.orders, items := b.ord.items, waiting := b.ord.waiting
      release := s.ord.release.filter fun x => (s.ord.items[x.item]).all lasts }
    rw [h.frame]
    simp only [works]
  case item =>
    show b.ord.items[id] = _
    have withdrawn : b.ord.items = items.ord.items := by rw [h.frame]
    rw [withdrawn, h.item id]
    simp only [lasting]
    rfl
  case free =>
    show b.ord.orders[k] = none
    rw [records, h.free_order ho]
  case order =>
    rw [show t.ord.orders = _ from records]
    refine (Bool.eq_false_or_eq_true o.resetSettles).elim (fun hs => ?_) fun hs => ?_
    · obtain ⟨o', ho', alike⟩ := h.settled_order ho hs
      rw [charging] at alike
      exact ⟨o', ho', fun hn => absurd ((settling o).mpr hs) hn, fun _ => alike⟩
    · have kept := h.kept_order ho hs
      rw [charging, halting] at kept
      exact ⟨_, kept, fun _ => rfl, fun hn => absurd ((settling o).mp hn) (by rw [hs]; nofun)⟩
  case pay =>
    show b.pay = { s.pay with focus := b.pay.focus, kept := b.pay.kept, pool := b.pay.pool }
    rw [h.frame]
  case focus =>
    rw [show t.pay.focus = _ from focused, hn, Option.filter_eq_none_iff, Option.filter_eq_some_iff]
    refine ⟨?_, fun hother => ⟨rfl, ?_⟩⟩
    · rintro ⟨k, o, ho, ht, number⟩ m hm
      obtain rfl := Option.some.inj hm
      have ht := o.taking_iff.mpr ht
      rw [List.all_eq_true]
      intro hall
      have lost := hall k (h.mem_taking.mpr ⟨o, ho, ht⟩)
      rw [h.takes_iff.mpr ⟨o, ho, ht, number⟩] at lost
      exact nomatch lost
    · rw [List.all_eq_true]
      intro k _
      rw [Bool.not_eq_true', ← Bool.not_eq_true, h.takes_iff]
      rintro ⟨o, ho, ht, number⟩
      exact hother k o ho (o.taking_iff.mp ht) number
  case unfocused =>
    show b.pay.focus = none
    rw [focused, hn]
    rfl
  case rx =>
    show b.clc.rx = s.clc.rx
    rw [operations]
  case operation =>
    show b.clc = { s.clc with queue := b.clc.queue } ∧ s.clc.queue <+: b.clc.queue
    obtain ⟨same, after⟩ := h.settles.operation (by rw [before]; exact hout)
    rw [before] at same after
    rw [operations]
    exact ⟨by rw [same], after⟩
  case quiet =>
    have rests (k : Fin 32) (o : Order) (ho : s.ord.orders[k] = some o) : o.resetSettles = false :=
      Bool.eq_false_iff.mpr fun hs => hnone k o ho ((settling o).mpr hs)
    have same := h.none_settles rests
    have money : halts.ord.waiting = s.ord.waiting ∧ halts.pay.kept = s.pay.kept ∧ halts.pay.pool = s.pay.pool
        ∧ halts.svc = { s.svc with mode := .setup } := by
      rw [h.halts.rest, h.withdraws.rest]
      exact ⟨rfl, rfl, rfl, rfl⟩
    obtain ⟨waiting, kept, pool, svc⟩ := money
    refine ⟨?_, ?_, ?_, ?_, fun k o ho => ?_, fun sensors => ?_⟩
    · show b.clc = s.clc
      rw [operations, same, before]
    · show b.ord.waiting = s.ord.waiting
      rw [h.frame, same]
      exact waiting
    · show b.pay.kept = s.pay.kept
      rw [h.frame, same]
      exact kept
    · show b.pay.pool = s.pay.pool
      rw [h.frame, same]
      exact pool
    · rw [show t.ord.orders = _ from records, h.kept_order ho (rests k o ho), charging, halting]
    · show b.svc = _
      rw [h.svc_quiet sensors, same, svc]
  case table =>
    exact (Part.tableBytes_congr rfl T).trans (tables T)

end Sys2Proof.Machine
end

section
/-! PROOFS. The device mode (R18): the requests and the events that keep it, and the transition table. -/

set_option Elab.async false

open Sys2Proof Sys2Proof.Machine

namespace Sys2Proof.Machine

/-! ### Requests -/

/-- A request moves the mode at most by the end of the grace, as the handler takes it (R18, R24). -/
def Part.TakesInDrain (p q : Part) : Prop :=
  q.svc.mode = p.svc.mode ∨ (p.svc.mode = .parkPending ∧ q.svc.mode = .drain)

/-- The rows of the requests, TABLE_WRITE with its own length check included (13.1). -/
def allRequestRows (ms : Nat) : List (Instr × Byte × Nat) := (.tableWrite ms, 0x01, 6) :: requestRows ms

theorem requests_takeInDrain (ms : Nat) : ∀ row ∈ allRequestRows ms, ∀ p : Part, p.TakesInDrain (runOf row.1 p) := by
  simp only [allRequestRows, requestRows, List.forall_mem_cons, List.not_mem_nil, false_imp_iff, implies_true, and_true]
  exact ⟨fun p => p.serve_mode _ _ _ _ fun p _ args => p.tableWrite_mode ms args,
    fun p => p.serve_mode _ _ _ _ fun p _ args => p.tableRead_mode args,
    fun p => p.serve_mode _ _ _ _ fun p _ args => p.statusRead_mode args,
    fun p => p.serve_mode _ _ _ _ fun p _ args => p.setMask_mode args,
    fun p => p.serve_mode _ _ _ _ fun p _ args => p.checkLive_mode args,
    fun p => p.serve_mode _ _ _ _ fun _ _ _ => rfl,
    fun p => p.serve_mode _ _ _ _ fun _ _ _ => rfl,
    fun p => p.serve_mode _ _ _ _ fun p _ _ => p.askPark_mode,
    fun p => p.serve_mode _ _ _ _ fun p _ args => p.wakeSet_mode args,
    fun p => p.serve_mode _ _ _ _ fun _ _ _ => rfl,
    fun p => p.serve_mode _ _ _ _ fun p _ args => p.slotUnbind_mode args,
    fun p => p.serve_mode _ _ _ _ fun p tag args => p.sectorRead_mode tag args,
    fun p => p.serve_mode _ _ _ _ fun p _ args => p.readCancel_mode args,
    fun p => p.serve_mode _ _ _ _ fun p _ args => p.orderOpen_mode args,
    fun p => p.serve_mode _ _ _ _ fun p _ args => p.orderCommit_mode args,
    fun p => p.serve_mode _ _ _ _ fun p _ args => p.orderCancel_mode args,
    fun p => p.serve_mode _ _ _ _ fun p _ args => p.orderResume_mode args,
    fun p => p.serve_mode _ _ _ _ fun p _ args => p.orderRead_mode args,
    fun p => p.serve_mode _ _ _ _ fun p _ args => p.orderRelease_mode args,
    fun p => p.serve_mode _ _ _ _ fun p _ args => p.itemAdd_mode args,
    fun p => p.serve_mode _ _ _ _ fun p _ args => p.itemWithdraw_mode args,
    fun p => p.serve_mode _ _ _ _ fun p _ args => p.focusSet_mode args,
    fun p => p.serve_mode _ _ _ _ fun _ _ _ => rfl,
    fun p => p.serve_mode _ _ _ _ fun p _ args => p.channelReset_mode ms args,
    fun p => p.serve_mode _ _ _ _ fun p _ args => p.poolApply_mode args,
    fun p => p.serve_mode _ _ _ _ fun p _ args => p.poolPayout_mode args,
    fun p => p.serve_mode _ _ _ _ fun _ _ _ => rfl,
    fun p => p.serve_mode _ _ _ _ fun _ _ _ => rfl,
    fun p => p.serve_mode _ _ _ _ fun p _ args => p.cardAuthorize_mode args,
    fun p => p.serve_mode _ _ _ _ fun p _ args => p.regionOpen_mode args,
    fun p => p.serve_mode _ _ _ _ fun p _ args => p.regionClose_mode args,
    fun p => p.serve_mode _ _ _ _ fun p _ args => p.engineOnline_mode args,
    fun p => p.serve_mode _ _ _ _ fun p _ args => p.engineOffline_mode args,
    fun p => p.serve_mode _ _ _ _ fun p _ args => p.engineClear_mode args,
    fun p => p.serve_mode _ _ _ _ fun p _ args => p.mediaSet_mode args⟩

/-! ### Events that keep the mode -/

theorem Part.headerTaken_mode (p : Part) (b : Byte) : (p.headerTaken b).svc.mode = p.svc.mode := by
  simp only [Part.headerTaken]
  split
  · split
    · rfl
    · split <;> rfl
  · rfl

theorem Part.linkGapExpires_mode (p : Part) : p.linkGapExpires.svc.mode = p.svc.mode := by
  unfold Part.linkGapExpires
  split <;> rfl

/-- A pulse that begins posts at most the train that is due (R108, R112). -/
theorem Part.pulseRises_mode (p : Part) (c : Fin 6) (ms : Nat) : (p.pulseRises c ms).svc.mode = p.svc.mode := by
  unfold Part.pulseRises
  split
  · rfl
  · dsimp only
    split
    · rfl
    · exact Part.endDueTrain_mode _ c

theorem Part.pulseJams_mode (p : Part) (c : Fin 6) : (p.pulseJams c).svc.mode = p.svc.mode := by
  unfold Part.pulseJams
  dsimp only
  split
  · exact Part.jamByPulse_mode _ c
  · rfl

theorem Part.gapExpires_mode (p : Part) (c : Fin 6) : (p.gapExpires c).svc.mode = p.svc.mode := by
  unfold Part.gapExpires
  split
  · exact Part.endTrain_mode _ c
  · rfl

/-- The events that no row of the transition table names (R18). -/
def keepsMode : Instr → Bool
  | .frameHeaderTaken _ | .linkGapExpiry | .frameTransmitDone | .settlingExpiry _ | .identifyResponse ..
  | .identifyLimitExpiry _ | .cardResponseTimeout _ | .busyRetryExpiry _ | .readBlockResponse .. | .dataPhaseComplete ..
  | .dataPhaseTimeout _ | .readBusyLimit _ | .stopResponse .. | .stopBusyLimit _ | .sectorAttemptStart | .pulseAssert ..
  | .pulseJam _ | .trainGapExpiry _ | .cashlessMessageSent | .approved _ | .declined _ | .captured _ | .released _
  | .unknownTerminalMessage _ | .cashlessCheckDiscard _ | .cashlessGapExpiry | .cashlessStopBitError | .authorizeTimeout
  | .settlementOpTimeout | .lateReleaseTimeout | .bandTake | .spoolGrant _ | .spoolAccessDone | .drawComplete _
  | .panelMotionComplete .. | .motionTimeout _ | .sensorFaultCondition .. | .thermistorSample .. | .strobePassDone ..
  | .ejectComplete _ | .linkByteReceived _ | .cashlessByteReceived _ | .abortEjectComplete _ => true
  | _ => false

theorem runOf_keepsMode {c : Instr} (hc : keepsMode c = true) (p : Part) : (runOf c p).svc.mode = p.svc.mode := by
  cases c with
  | frameHeaderTaken b => exact p.headerTaken_mode b
  | linkGapExpiry => exact p.linkGapExpires_mode
  | frameTransmitDone => exact p.transmitDone_mode
  | settlingExpiry i => exact p.settled_mode i
  | identifyResponse i status data check => exact Part.mode_of_fixed (p.identifyResponse_fixed i status data check)
  | identifyLimitExpiry i => exact Part.mode_of_fixed (p.identifyExpired_fixed i)
  | cardResponseTimeout i => exact Part.mode_of_fixed (p.responseTimeout_fixed i)
  | busyRetryExpiry i => exact Part.mode_of_fixed (p.busyRetry_fixed i)
  | readBlockResponse i status check => exact Part.mode_of_fixed (p.readBlockResponse_fixed i status check)
  | dataPhaseComplete i data check => exact Part.mode_of_fixed (p.dataComplete_fixed i data check)
  | dataPhaseTimeout i => exact Part.mode_of_fixed (p.dataTimeout_fixed i)
  | readBusyLimit i => exact Part.mode_of_fixed (p.readBusyExpired_fixed i)
  | stopResponse i status check => exact Part.mode_of_fixed (p.stopResponse_fixed i status check)
  | stopBusyLimit i => exact Part.mode_of_fixed (p.stopBusyExpired_fixed i)
  | sectorAttemptStart => exact Part.mode_of_fixed p.beginSector_fixed
  | pulseAssert c ms => exact p.pulseRises_mode c ms
  | pulseJam c => exact p.pulseJams_mode c
  | trainGapExpiry c => exact p.gapExpires_mode c
  | cashlessMessageSent => rfl
  | approved b =>
    simp only [runOf]
    split
    · exact Part.mode_of_fixed (Part.takeApproved_fixed (p.setRx Receiver.hunt) _ _)
    · rfl
  | declined b =>
    simp only [runOf]
    split
    · exact Part.mode_of_fixed (Part.takeDeclined_fixed (p.setRx Receiver.hunt) _ _)
    · rfl
  | captured b =>
    simp only [runOf]
    split
    · exact Part.mode_of_fixed (Part.takeCaptured_fixed (p.setRx Receiver.hunt) _)
    · rfl
  | released b =>
    simp only [runOf]
    split
    · exact Part.mode_of_fixed (Part.takeReleased_fixed (p.setRx Receiver.hunt) _)
    · rfl
  | unknownTerminalMessage b =>
    simp only [runOf]
    split <;> rfl
  | cashlessCheckDiscard b =>
    simp only [runOf]
    split <;> rfl
  | cashlessGapExpiry =>
    simp only [runOf]
    split <;> rfl
  | cashlessStopBitError => rfl
  | authorizeTimeout =>
    simp only [runOf]
    split
    · exact Part.mode_of_fixed (p.authTimesOut_fixed _)
    · rfl
  | settlementOpTimeout =>
    simp only [runOf]
    split
    · exact Part.mode_of_fixed (p.settlementEnds_fixed _ _ _ _)
    · exact Part.mode_of_fixed (p.settlementEnds_fixed _ _ _ _)
    · rfl
  | lateReleaseTimeout =>
    simp only [runOf]
    split
    · exact Part.mode_of_fixed p.endOp_fixed
    · rfl
  | bandTake => exact Part.mode_of_fixed p.takeBand_fixed
  | spoolGrant pick => exact Part.mode_of_fixed (p.grant_fixed pick)
  | spoolAccessDone =>
    simp only [runOf]
    split
    · exact p.accessDone_mode _
    · rfl
  | drawComplete e =>
    simp only [runOf]
    split
    · exact Part.mode_of_fixed (p.panelStart_fixed e .Y)
    · rfl
  | panelMotionComplete e panelTemp lineTemp =>
    simp only [runOf]
    split
    · exact Part.mode_of_fixed (p.panelReady_fixed e _ panelTemp lineTemp)
    · rfl
  | motionTimeout e =>
    simp only [runOf]
    split
    · exact Part.mode_of_fixed (p.faultPrinting_fixed e .paperJam)
    · rfl
  | sensorFaultCondition e report => exact p.sensorChange_mode e report
  | thermistorSample e temp => exact Part.mode_of_fixed (p.sample_fixed e temp)
  | strobePassDone e lineTemp => exact Part.mode_of_fixed (p.passDone_fixed e lineTemp)
  | ejectComplete e =>
    simp only [runOf]
    split
    · exact Part.mode_of_fixed (p.copyEjected_fixed e _)
    · rfl
  | linkByteReceived b => rfl
  | cashlessByteReceived b => rfl
  | abortEjectComplete e =>
    simp only [runOf]
    split
    · exact Part.mode_of_fixed ((Part.walkIf_fixed _).trans (p.afterEject_fixed e))
    · rfl
  | _ => exact nomatch hc

/-! ### Events of the transition table -/

theorem Part.keyRises_mode (p : Part) :
    p.keyRises.svc.mode = p.svc.mode ∨ wakesMode p.svc.mode p.keyRises.svc.mode := by
  unfold Part.keyRises
  split
  · exact .inl rfl
  · dsimp only
    split
    · exact .inl rfl
    · rcases (p.setKey true).raiseWake_mode .key with kept | drains | ⟨parked, -, waking⟩ | ⟨-, no_timer, -⟩
      · exact .inl kept
      · exact .inr (.inl drains)
      · exact .inr (.inr ⟨parked, waking⟩)
      · exact nomatch no_timer

theorem Part.keyFalls_mode (p : Part) :
    p.keyFalls.svc.mode = p.svc.mode ∨ (p.svc.mode = .waking ∧ p.keyFalls.svc.mode = .parked) := by
  unfold Part.keyFalls
  split
  · dsimp only
    split
    · exact .inl rfl
    · exact (p.setKey false).failDebounce_mode .key
  · exact .inl rfl

theorem Part.detectRises_mode (p : Part) (i : Fin 4) :
    (p.detectRises i).svc.mode = p.svc.mode ∨ wakesMode p.svc.mode (p.detectRises i).svc.mode := by
  unfold Part.detectRises
  split
  · exact .inl rfl
  · dsimp only
    split
    · exact .inl rfl
    · exact (p.setDetect i true).detectAssert_mode i

/-- At the reset release only the asserted detect lines may ask to wake (R33, R108). -/
theorem Part.resetRelease_mode (p : Part) (ms : Nat) (strap : Strap) (tempA tempB : Int) :
    (p.resetRelease ms strap tempA tempB).svc.mode = p.svc.mode
      ∨ wakesMode p.svc.mode (p.resetRelease ms strap tempA tempB).svc.mode := by
  unfold Part.resetRelease
  split
  · have pulses (q : Part) (c : Fin 6) : (q.releasePulseLine c).svc.mode = q.svc.mode := by
      unfold Part.releasePulseLine
      split <;> rfl
    dsimp only
    rw [foldl_mode _ pulses]
    exact releaseLines_mode _ ((p.advance ms).latch strap tempA tempB)
  · exact .inl rfl

/-- Settles O26: command by command, what the function of each does to the mode. -/
theorem modeChangesOnlyAsListed : Obligations.ModeChangesOnlyAsListed := by
  unfold Obligations.ModeChangesOnlyAsListed
  intro c s t ht moved
  obtain ⟨rfl, -, -⟩ | ⟨rfl, -, -⟩ := exec_next ht
  case inr => exact absurd rfl moved
  have moved : (runOf c s.toPart).svc.mode ≠ s.svc.mode := moved
  have event (hc : keepsMode c = true) : False := moved (runOf_keepsMode hc s.toPart)
  have request (ms : Nat) (hc : c ∈ (allRequestRows ms).map Prod.fst) :
      s.svc.mode = .parkPending ∧ (runOf c s.toPart).svc.mode = .drain
        ∧ ∃ ms code n, (c, code, n) ∈ (.tableWrite ms, 0x01, 6) :: requestRows ms := by
    obtain ⟨⟨_, code, n⟩, hrow, rfl⟩ := List.mem_map.mp hc
    obtain ⟨pending, drains⟩ := (requests_takeInDrain ms _ hrow s.toPart).resolve_left moved
    exact ⟨pending, drains, ms, code, n, hrow⟩
  cases c with
  | powerOnReset => rfl
  | pathResetEffects => exact s.toPart.pathResetEffects_mode.resolve_left moved
  | replyHandover => exact s.toPart.handOver_mode.resolve_left moved
  | frameTaken b => exact (s.toPart.frameTaken_mode b).resolve_left moved
  | graceExpiry => exact s.toPart.graceExpires_mode.resolve_left moved
  | serviceKeyAssert => exact s.toPart.keyRises_mode.resolve_left moved
  | cardDetectAssert i => exact (s.toPart.detectRises_mode i).resolve_left moved
  | resetRelease ms strap tempA tempB => exact (s.toPart.resetRelease_mode ms strap tempA tempB).resolve_left moved
  | pulseEnd c ms => exact (s.toPart.pulseFalls_mode c ms).resolve_left moved
  | serviceKeyDeassert => exact s.toPart.keyFalls_mode.resolve_left moved
  | cardRemoval i => exact (s.toPart.detectFalls_mode i).resolve_left moved
  | debounceExpiry src => exact (s.toPart.debounceExpires_mode src).resolve_left moved
  | unknownRequest => exact s.toPart.refuseUnknown_mode.resolve_left moved
  | tableWrite ms | channelReset ms => exact request ms (by simp [allRequestRows, requestRows])
  | tableRead | statusRead | eventMask | goLive | drain | resume | park | wakeSet | pathReset | slotUnbind | sectorRead
  | readCancel | orderOpen | itemAdd | itemWithdraw | orderCommit | orderCancel | orderResume | orderRead | orderRelease
  | focusSet | focusClear | poolApply | poolPayout | tallyRead | tallyClear | cardAuthorize | regionOpen | regionClose
  | engineOnline | engineOffline | engineClear | mediaSet =>
    exact request 0 (by decide)
  | _ => exact (event rfl).elim

end Sys2Proof.Machine
end

section
/-! PROOFS. The requests of the service controller (R18, R22 to R24, R27): a request that waits, PARK and WAKE_SET. -/

set_option Elab.async false

open Sys2Proof Sys2Proof.Machine

namespace Sys2Proof.Machine

/-! ### Requests that wait -/

/-- A command whose function leaves the part leaves the state, in reset or out of it. -/
theorem State.answer_self {s : State} {f : Part → Part} (h : f s.toPart = s.toPart) : s.answer f = .next s := by
  rw [State.answer, h, ite_self]

/-- The handler leaves a request that is not its next (R8, log entries 1 and 30). -/
theorem Part.serve_rests {p : Part} {code : Byte}
    (h : p.lnk.handler ≠ .idle ∨ p.svc.mode.dark = true ∨ ∀ e ∈ p.lnk.ctrl.head?, e.payload.head? ≠ some code)
    (lengthOk : Nat → Bool) (admits : Mode → Option Status) (run : Part → Nat → List Byte → Served) :
    p.serve code lengthOk admits run = p := by
  unfold Part.serve
  split
  next e rest hfree hctrl =>
    obtain ⟨hidle, hmode⟩ : p.lnk.handler = .idle ∧ p.svc.mode.dark = false := by simpa [Part.handlerFree] using hfree
    have head : e.payload.head? ≠ some code := by
      rcases h with h | h | h
      · exact absurd hidle h
      · exact absurd h (by rw [hmode]; nofun)
      · exact h e (by rw [hctrl]; rfl)
    exact if_neg head
  next => rfl

/-- The handler takes a request in PARK_PENDING as it would in DRAIN with the grace stopped (R18, R24). -/
theorem Part.serve_parkPending {p : Part} {code : Byte} {e : CtrlEntry} {rest : List CtrlEntry} (hi : p.lnk.handler = .idle)
    (hm : p.svc.mode = .parkPending) (hc : p.lnk.ctrl = e :: rest) (he : e.payload.head? = some code)
    (lengthOk : Nat → Bool) (admits : Mode → Option Status) (run : Part → Nat → List Byte → Served) :
    p.serve code lengthOk admits run = p.endGrace.serve code lengthOk admits run := by
  have free : p.handlerFree = true := by rw [Part.handlerFree, hi, hm]; rfl
  have free' : p.endGrace.handlerFree = true := by rw [Part.handlerFree, show p.endGrace.lnk.handler = _ from hi]; rfl
  have taken : p.takeRequest rest = p.endGrace.takeRequest rest := by rw [Part.takeRequest, hm]; rfl
  simp only [Part.serve, free, free', hc, show p.endGrace.lnk.ctrl = _ from hc, he, taken, if_true]

/-- Every request is served with some check of its length and some admission by mode (R8, R19). -/
theorem serves_of_mem_allRequestRows {ms : Nat} {c : Instr} {code : Byte} {n : Nat}
    (h : (c, code, n) ∈ (.tableWrite ms, 0x01, 6) :: requestRows ms) :
    ∃ lengthOk admits, Serves c code lengthOk admits := by
  rcases List.mem_cons.mp h with h | h
  · obtain ⟨rfl, rfl, rfl⟩ : c = .tableWrite ms ∧ code = 0x01 ∧ n = 6 := by simpa using h
    exact ⟨_, _, serves_tableWrite ms⟩
  · exact ⟨_, _, serves_of_mem_requestRows h⟩

/-- Settles O18: the two ways in which the handler looks at a head outside SETUP, LIVE and DRAIN. -/
theorem requestsWaitForTheHandler : Obligations.RequestsWaitForTheHandler := by
  unfold Obligations.RequestsWaitForTheHandler
  intro s ms c code n hrow
  obtain ⟨lengthOk, admits, run, served⟩ := serves_of_mem_allRequestRows hrow
  refine ⟨fun tag args rest h hm => ?_, fun h => ?_⟩
  · obtain ⟨reserved, hc⟩ := h.head
    let t : State := { s with svc := { s.svc with mode := .drain, grace := none } }
    rw [served, served, State.answer_running s _ h.running, State.answer_running t _ h.running,
      Part.serve_parkPending h.idle hm hc rfl]
    rfl
  · rw [served, State.answer_self (Part.serve_rests h ..)]

/-! ### PARK -/

/-- A check of every entry of a vector. -/
theorem toList_all_iff {α : Type} {n : Nat} (v : Vector α n) (f : α → Bool) :
    v.toList.all f = true ↔ ∀ i : Fin n, f v[i] = true := by
  simp only [List.all_eq_true, List.mem_iff_getElem, Vector.length_toList, Vector.getElem_toList]
  constructor
  · exact fun h i => h _ ⟨i, i.isLt, rfl⟩
  · rintro h _ ⟨i, hi, rfl⟩
    exact h ⟨i, hi⟩

/-- Condition 1 of R23. -/
theorem Part.noOrderWorks_iff (p : Part) : p.noOrderWorks = true ↔ ¬ ∃ k : Fin 32, ∃ o, p.ord.orders[k] = some o
    ∧ (o.state = .opened ∨ o.state = .committed ∨ o.state = .settling) := by
  have rests (o : Order) : (o.state == .closed || o.state == .halted) = true
      ↔ ¬ (o.state = .opened ∨ o.state = .committed ∨ o.state = .settling) := by
    cases o.state <;> decide
  rw [Part.noOrderWorks, toList_all_iff]
  push Not
  refine forall_congr' fun k => ?_
  cases p.ord.orders[k] with
  | none => simp
  | some o => simpa using rests o

/-- Condition 2 of R23. -/
theorem Part.noItemPrints_iff (p : Part) : p.noItemPrints = true ↔ ¬ ∃ i : Fin 64, ∃ it, p.ord.items[i] = some it
    ∧ (it.state = .queued ∨ it.state = .printing) := by
  rw [Part.noItemPrints, toList_all_iff]
  push Not
  refine forall_congr' fun i => ?_
  cases p.ord.items[i] <;> simp

/-- Condition 3 of R23. -/
theorem Part.noCashless_iff (p : Part) : p.noCashless = true ↔ ¬ (p.clc.queue ≠ [] ∨ p.clc.outstanding ≠ none) := by
  simp [Part.noCashless]

/-- Condition 4 of R23. -/
theorem Part.noReads_iff (p : Part) : p.noReads = true ↔ ¬ ∃ i : Fin 4, p.csu.slots[i].queue ≠ [] := by
  rw [Part.noReads, toList_all_iff]
  simp

/-- What keeps the part from parking (R23). -/
def Part.works (p : Part) : Prop :=
  (∃ k : Fin 32, ∃ o, p.ord.orders[k] = some o ∧ (o.state = .opened ∨ o.state = .committed ∨ o.state = .settling))
    ∨ (∃ i : Fin 64, ∃ it, p.ord.items[i] = some it ∧ (it.state = .queued ∨ it.state = .printing))
    ∨ p.clc.queue ≠ [] ∨ p.clc.outstanding ≠ none
    ∨ ∃ i : Fin 4, p.csu.slots[i].queue ≠ []

theorem Part.mayPark_iff (p : Part) : p.mayPark = true ↔ ¬ p.works := by
  simp only [Part.mayPark, Bool.and_eq_true, p.noOrderWorks_iff, p.noItemPrints_iff, p.noCashless_iff, p.noReads_iff,
    Part.works, not_or, and_assoc]

/-- A wake set is not 0 when it holds some source. -/
theorem wakeSet_ne_zero_iff (w : WakeSet) : w ≠ 0 ↔ ∃ j, w.getLsbD j = true := by
  constructor
  · intro hw
    by_contra hnone
    push Not at hnone
    exact hw (BitVec.eq_of_getLsbD_eq fun j _ => by simpa using hnone j)
  · rintro ⟨j, hj⟩ rfl
    simp at hj

/-- A wake condition holds while some source has both its flags set (R23, R26). -/
theorem Service.anyWake_iff (v : Service) :
    v.anyWake = true ↔ ∃ j, v.request.getLsbD j = true ∧ v.enable.getLsbD j = true := by
  rw [Service.anyWake, bne_iff_ne]
  refine (wakeSet_ne_zero_iff _).trans (exists_congr fun j => ?_)
  rw [BitVec.getLsbD_and, Bool.and_eq_true]

/-- Settles O20: the checks of PARK in their order. -/
theorem parkChecksTheWork : Obligations.ParkChecksTheWork := by
  unfold Obligations.ParkChecksTheWork
  intro s tag rest h hm works wakes
  have served (answer : Served) (hask : (s.toPart.dequeue rest).askPark = answer) :
      exec .park s = .next { s with toPart := Part.hold tag 0x13 answer } :=
    hask ▸ State.serve_admitted h (hm ▸ rfl) (lengthOk := exactly 0) (admits := admitPark) rfl (hm ▸ rfl)
  have parks : (s.toPart.dequeue rest).mayPark = true ↔ ¬ works := s.toPart.mayPark_iff
  have waking : (s.toPart.dequeue rest).svc.anyWake = true ↔ wakes := s.svc.anyWake_iff
  refine ⟨fun hw => ?_, fun hw hk => ?_, fun hw hk => ?_⟩
  · refine served (.refuse _ .busy) (if_pos ?_)
    simpa using fun may => parks.mp may hw
  · refine served (.refuse (s.toPart.dequeue rest) .wakePending) ?_
    rw [Part.askPark, parks.mpr hw, waking.mpr hk]
    rfl
  · refine served (.later (s.toPart.dequeue rest) .park) ?_
    rw [Part.askPark, parks.mpr hw, Bool.eq_false_iff.mpr fun wake => hk (waking.mp wake)]
    rfl

/-! ### WAKE_SET -/

/-- A wake set in one byte (R191). -/
theorem byte_wakeSet (w : WakeSet) : byte w.toNat = w.setWidth 8 :=
  BitVec.eq_of_toNat_eq (by rw [byte, BitVec.toNat_ofNat, BitVec.toNat_setWidth])

/-- The sources of a byte within the six (R27, R191). -/
theorem wakeSet_ofByte (b : Byte) {j : Nat} (h : j < 6) : (BitVec.ofNat 6 b.toNat).getLsbD j = b.getLsbD j := by
  rw [BitVec.getLsbD_ofNat, decide_eq_true h, Bool.true_and]
  rfl

/-- Settles O21: the two branches of the check of the sets. -/
theorem wakeSetReplacesTheFlags : Obligations.WakeSetReplacesTheFlags := by
  unfold Obligations.WakeSetReplacesTheFlags
  intro s tag enable clear rest h hm
  let v : Service := { s.svc with
    enable := BitVec.ofNat 6 enable.toNat, request := s.svc.request &&& ~~~(BitVec.ofNat 6 clear.toNat) }
  refine ⟨fun hbig => ?_, fun he hc =>
    ⟨{ s.replying rest tag 0x14 .ok [s.svc.enable.setWidth 8, s.svc.request.setWidth 8] with svc := v }, ?_, rfl, fun j hj =>
      ⟨wakeSet_ofByte enable hj, ?_⟩⟩⟩
  · exact State.serve_refuses h hm (lengthOk := exactly 2) (admits := admitAll) rfl rfl (if_pos hbig)
  · refine (State.serve_admitted h hm (lengthOk := exactly 2) (admits := admitAll) rfl rfl).trans ?_
    have within : ¬ (64 ≤ u8 [enable, clear] 0 ∨ 64 ≤ u8 [enable, clear] 1) :=
      not_or.mpr ⟨Nat.not_le.mpr he, Nat.not_le.mpr hc⟩
    rw [Part.wakeSet, if_neg within, byte_wakeSet, byte_wakeSet]
    rfl
  · simp only [v, BitVec.getLsbD_and, BitVec.getLsbD_not, hj, decide_true, Bool.true_and, wakeSet_ofByte clear hj]

end Sys2Proof.Machine
end

section
/-! PROOFS. The wake sources (R24, R26, R29, R30): the service key, the detect lines, and the reset release (R31, R33). -/

set_option Elab.async false

open Sys2Proof Sys2Proof.Machine

namespace Sys2Proof.Machine

/-! ### A source asks to wake -/

theorem WakeSource.index_lt (w : WakeSource) : w.index < 6 := by
  cases w with
  | slot i => exact Nat.lt_trans i.isLt (by decide)
  | pulse | key => decide

theorem WakeSource.bit_getLsbD (w : WakeSource) (j : Nat) : w.bit.getLsbD j = decide (w.index = j) := by
  have hw := w.index_lt
  rw [WakeSource.bit, BitVec.natCast_eq_ofNat, BitVec.getLsbD_ofNat, Nat.one_shiftLeft, Nat.testBit_two_pow,
    Bool.and_eq_right_iff_imp, decide_eq_true_eq, decide_eq_true_eq]
  omega

/-- A wake condition arises by a source's activity: it is enabled and had not asked before (R26, R29). -/
def Service.arises (v : Service) (w : WakeSource) : Prop :=
  v.enable.getLsbD w.index = true ∧ v.request.getLsbD w.index = false

/-- The flags once a source has asked to wake (R26). -/
def Service.asked (v : Service) (w : WakeSource) : Service := { v with request := v.request ||| w.bit }

/-- A source's activity where no wake condition arises by it (R26, R29). -/
theorem Part.raiseWake_asks {p : Part} {w : WakeSource} (h : ¬ p.svc.arises w) :
    p.raiseWake w = { p with svc := p.svc.asked w } := by
  refine if_neg fun acts => h ?_
  obtain ⟨enabled, fresh⟩ : p.svc.enable.getLsbD w.index = true ∧ (p.svc.request.getLsbD w.index = false
      ∨ p.svc.enable.getLsbD w.index = false) := by
    simpa [Service.wakeHolds, BitVec.getLsbD_or, WakeSource.bit_getLsbD] using acts
  exact ⟨enabled, fresh.resolve_right (by rw [enabled]; nofun)⟩

/-- A source's activity by which a wake condition arises (R26, R29). -/
theorem Part.raiseWake_arises {p : Part} {w : WakeSource} (h : p.svc.arises w) :
    p.raiseWake w = Part.wakeCondition { p with svc := p.svc.asked w } w := by
  obtain ⟨enabled, fresh⟩ := h
  refine if_pos ?_
  simp [Service.wakeHolds, BitVec.getLsbD_or, WakeSource.bit_getLsbD, enabled, fresh]

/-- Outside PARK_PENDING, PARKED and WAKING a wake condition does nothing (R29). -/
theorem Part.wakeCondition_serving {p : Part} (hm : p.svc.mode.serving = true) (w : WakeSource) : p.wakeCondition w = p := by
  cases h : p.svc.mode <;> simp_all [Part.wakeCondition, Mode.serving]

/-- In PARK_PENDING it ends the grace (R24). -/
theorem Part.wakeCondition_parkPending {p : Part} (hm : p.svc.mode = .parkPending) (w : WakeSource) :
    p.wakeCondition w = p.endGrace := by
  simp only [Part.wakeCondition, hm]

/-- In PARKED and WAKING it starts the source's debounce (R29, R30). -/
theorem Part.wakeCondition_debounces {p : Part} {w : WakeSource} {t : Fin 5} (hm : p.svc.mode.dark = true)
    (ht : w.timer = some t) : p.wakeCondition w
      = { p with svc := { p.svc with mode := .waking, debounce := p.svc.debounce.set t (some 250) } } := by
  cases h : p.svc.mode with
  | parked => simp only [Part.wakeCondition, h, ht]; rfl
  | waking => simp only [Part.wakeCondition, h, ht, Part.startDebounce]; rfl
  | setup | live | drain | parkPending => rw [h] at hm; exact nomatch hm

/-- In PARKED and WAKING a source without a debounce, the pulse source, wakes the part (R29). -/
theorem Part.wakeCondition_wakes {p : Part} {w : WakeSource} (hm : p.svc.mode.dark = true) (ht : w.timer = none) :
    p.wakeCondition w = p.wakeToLive := by
  cases h : p.svc.mode with
  | parked | waking => simp only [Part.wakeCondition, h, ht]
  | setup | live | drain | parkPending => rw [h] at hm; exact nomatch hm

/-- A source's activity in a mode that serves requests sets its flag and does nothing else (R26, R29). -/
theorem Part.raiseWake_quiet {p : Part} (w : WakeSource) (h : ¬ p.svc.arises w ∨ p.svc.mode.serving = true) :
    p.raiseWake w = { p with svc := p.svc.asked w } := by
  by_cases arises : p.svc.arises w
  · rw [Part.raiseWake_arises arises]
    exact Part.wakeCondition_serving (p := { p with svc := p.svc.asked w }) (h.resolve_left (not_not_intro arises)) w
  · exact Part.raiseWake_asks arises

/-- What a wake condition that arises does by mode (R24, R29, R30). -/
theorem Part.raiseWake_endsGrace {p : Part} (w : WakeSource) (h : p.svc.arises w) (hm : p.svc.mode = .parkPending) :
    p.raiseWake w = { p with svc := { p.svc.asked w with mode := .drain, grace := none } } :=
  (Part.raiseWake_arises h).trans (Part.wakeCondition_parkPending (p := { p with svc := p.svc.asked w }) hm w)

theorem Part.raiseWake_debounces {p : Part} (w : WakeSource) (h : p.svc.arises w) {t : Fin 5}
    (hm : p.svc.mode.dark = true) (ht : w.timer = some t) : p.raiseWake w
      = { p with svc := { p.svc.asked w with mode := .waking, debounce := p.svc.debounce.set t (some 250) } } :=
  (Part.raiseWake_arises h).trans (Part.wakeCondition_debounces (p := { p with svc := p.svc.asked w }) hm ht)

theorem Part.raiseWake_wakes {p : Part} (w : WakeSource) (h : p.svc.arises w) (hm : p.svc.mode.dark = true)
    (ht : w.timer = none) : p.raiseWake w = Part.wakeToLive { p with svc := p.svc.asked w } :=
  (Part.raiseWake_arises h).trans (Part.wakeCondition_wakes (p := { p with svc := p.svc.asked w }) hm ht)

/-! ### The service key -/

/-- Some debounce of a slot runs beside a stopped one of the key (R30). -/
theorem debouncing_set_key (v : Service) (r : WakeSet) :
    ({ v with debounce := v.debounce.set 4 none, request := r } : Service).debouncing = true
      ↔ ∃ i : Fin 4, v.debounce[i.val] ≠ none := by
  have each (j : Nat) (hj : j < 5) : (v.debounce.set 4 none)[j] = if 4 = j then none else v.debounce[j] :=
    Vector.getElem_set ..
  simp only [Service.debouncing, List.any_eq_true, List.mem_iff_getElem, Vector.length_toList, Vector.getElem_toList]
  constructor
  · rintro ⟨x, ⟨j, hj, rfl⟩, hx⟩
    rw [each] at hx
    by_cases h : 4 = j
    · rw [if_pos h] at hx; exact nomatch hx
    · rw [if_neg h] at hx
      exact ⟨⟨j, by omega⟩, Option.isSome_iff_ne_none.mp hx⟩
  · rintro ⟨i, hx⟩
    exact ⟨_, ⟨i, by omega, rfl⟩, by rw [each, if_neg (by omega)]; exact Option.isSome_iff_ne_none.mpr hx⟩

/-- The key's debounce that runs fails with its line (R30). -/
theorem Part.failDebounce_key_stops {p : Part} (hm : p.svc.mode = .waking) (hd : p.svc.debounce[4] ≠ none) :
    p.failDebounce .key = { p with svc := { p.svc with
      debounce := p.svc.debounce.set 4 none, request := p.svc.request &&& ~~~(32 : WakeSet)
      mode := if ∃ i : Fin 4, p.svc.debounce[i.val] ≠ none then .waking else .parked } } := by
  have runs : p.svc.debounce[keyTimer].isSome = true := Option.isSome_iff_ne_none.mpr hd
  simp only [Part.failDebounce, hm, WakeSource.timer, runs, if_true,
    ← debouncing_set_key _ (p.svc.request &&& ~~~(32 : WakeSet))]
  rfl

/-- Outside WAKING, or with its debounce stopped, the key's line does nothing more (R30). -/
theorem Part.failDebounce_key_rests {p : Part} (h : p.svc.mode ≠ .waking ∨ p.svc.debounce[4] = none) :
    p.failDebounce .key = p := by
  unfold Part.failDebounce
  split
  next t hm ht =>
    cases ht
    rw [if_neg]
    have rests : p.svc.debounce[keyTimer] = none := h.resolve_left (· hm)
    rw [rests]
    exact nofun
  next => rfl

theorem exec_serviceKeyAssert {s : State} (hr : s.inReset = false) (hk : s.pins.key = false) :
    exec .serviceKeyAssert s = .next { s with toPart := (s.toPart.setKey true).raiseWake .key } := by
  rw [exec_running (c := .serviceKeyAssert) hr nofun]
  simp only [runOf, Part.keyRises, hk, Bool.false_eq_true, if_false, Part.setKey_inReset, hr]

theorem exec_serviceKeyDeassert {s : State} (hr : s.inReset = false) (hk : s.pins.key = true) :
    exec .serviceKeyDeassert s = .next { s with toPart := (s.toPart.setKey false).failDebounce .key } := by
  rw [exec_running (c := .serviceKeyDeassert) hr nofun]
  simp only [runOf, Part.keyFalls, hk, if_true, Part.setKey_inReset, hr, Bool.false_eq_true, if_false]

/-- Settles O22: the key's activity by mode, and its release. -/
theorem serviceKeyAsksToWake : Obligations.ServiceKeyAsksToWake := by
  unfold Obligations.ServiceKeyAsksToWake
  intro s hr t asked arises
  let q : Part := s.toPart.setKey true
  refine ⟨fun hk h => ?_, fun hk ha hm => ?_, fun hk ha hm => ?_, fun hk h => ?_, fun hk hm hd => ?_⟩
  · rw [exec_serviceKeyAssert hr hk, Part.raiseWake_quiet (p := q) .key h]
    rfl
  · rw [exec_serviceKeyAssert hr hk, Part.raiseWake_endsGrace (p := q) .key ha hm]
    rfl
  · rw [exec_serviceKeyAssert hr hk, Part.raiseWake_debounces (p := q) .key ha hm rfl]
    rfl
  · rw [exec_serviceKeyDeassert hr hk, Part.failDebounce_key_rests (p := s.toPart.setKey false) h]
    rfl
  · rw [exec_serviceKeyDeassert hr hk, Part.failDebounce_key_stops (p := s.toPart.setKey false) hm hd]
    rfl

/-! ### A detect line -/

/-- A slot as its card begins to settle (R35). -/
def Slot.settlingAnew (x : Slot) : Slot :=
  { x with state := .settling, delivered := 0, holdComplete := false, settling := some 250 }

theorem Part.detectAssert_empty {p : Part} {i : Fin 4} (h : p.csu.slots[i].state = .empty) :
    p.detectAssert i = (p.modSlot i Slot.settlingAnew).raiseWake (.slot i) := by
  simp only [Part.detectAssert, h]
  rfl

theorem Part.detectAssert_absentBound {p : Part} {i : Fin 4} (h : p.csu.slots[i].state = .absentBound) :
    p.detectAssert i = p.modSlot i Slot.settlingAnew := by
  simp only [Part.detectAssert, h]
  rfl

theorem exec_cardDetectAssert {s : State} {i : Fin 4} (hr : s.inReset = false) (hp : s.pins.detect[i] = false) :
    exec (.cardDetectAssert i) s = .next { s with toPart := (s.toPart.setDetect i true).detectAssert i } := by
  rw [exec_running (c := .cardDetectAssert i) hr nofun]
  simp only [runOf, Part.detectRises, hp, Bool.false_eq_true, if_false, Part.setDetect_inReset, hr]

/-- The flags once a slot has asked to wake (R26). -/
theorem Service.asked_slot (v : Service) (i : Fin 4) :
    v.asked (.slot i) = { v with request := v.request ||| BitVec.ofNat 6 (2 ^ i.val) } := by
  rw [Service.asked, WakeSource.bit_slot]

/-- Settles O27: the slot settles, and its activity acts by mode. -/
theorem cardInsertionSettles : Obligations.CardInsertionSettles := by
  unfold Obligations.CardInsertionSettles
  intro s i hr hp x t asked arises
  let q : Part := (s.toPart.setDetect i true).modSlot i Slot.settlingAnew
  have settles (he : x.state = .empty) : exec (.cardDetectAssert i) s = .next { s with toPart := q.raiseWake (.slot i) } := by
    rw [exec_cardDetectAssert hr hp, Part.detectAssert_empty (p := s.toPart.setDetect i true) he]
  have flags : q.svc.asked (.slot i) = asked := s.svc.asked_slot i
  refine ⟨fun he h => ?_, fun he ha hm => ?_, fun he ha hm => ?_, fun ha => ?_⟩
  · rw [settles he, Part.raiseWake_quiet (p := q) (.slot i) h, flags]
    rfl
  · rw [settles he, Part.raiseWake_endsGrace (p := q) (.slot i) ha hm, flags]
    rfl
  · rw [settles he, Part.raiseWake_debounces (p := q) (.slot i) ha hm rfl, flags]
    rfl
  · rw [exec_cardDetectAssert hr hp, Part.detectAssert_absentBound (p := s.toPart.setDetect i true) ha]
    rfl

/-! ### Reset release -/

/-- The entries of a vector at the given indexes replaced one after the other. -/
def replaced {α : Type} {n : Nat} (f : Fin n → α → α) (l : List (Fin n)) (v : Vector α n) : Vector α n :=
  l.foldl (fun v (k : Fin n) => v.set k (f k v[k])) v

theorem replaced_getElem {α : Type} {n : Nat} (f : Fin n → α → α) {l : List (Fin n)} (nodup : l.Nodup) (v : Vector α n)
    (i : Fin n) : (replaced f l v)[i] = if i ∈ l then f i v[i] else v[i] := by
  unfold replaced
  induction l generalizing v with
  | nil => simp
  | cons k l ih =>
    obtain ⟨fresh, nodup⟩ := List.nodup_cons.mp nodup
    rw [List.foldl_cons, ih nodup]
    by_cases hi : i = k
    · subst hi
      rw [if_neg fresh, if_pos (List.mem_cons_self ..)]
      exact Vector.getElem_set_self _
    · simp only [List.mem_cons, hi, false_or, orders_set_ne v _ hi]

theorem replaced_finRange {α : Type} {n : Nat} (f : Fin n → α → α) (v : Vector α n) (i : Fin n) :
    (replaced f (List.finRange n) v)[i] = f i v[i] := by
  rw [replaced_getElem f (List.nodup_finRange n), if_pos (List.mem_finRange i)]

/-- In SETUP a detect line that asserts beside an EMPTY slot wakes nothing (R26, R35). -/
theorem Part.detectAssert_setup {p : Part} {i : Fin 4} (hm : p.svc.mode = .setup) (h : p.csu.slots[i].state = .empty) :
    p.detectAssert i = { p with
      svc := p.svc.asked (.slot i), csu := { p.csu with slots := p.csu.slots.set i p.csu.slots[i].settlingAnew } } := by
  rw [Part.detectAssert_empty h, Part.raiseWake_quiet (p := p.modSlot i Slot.settlingAnew) (.slot i) (.inr (hm ▸ rfl))]
  rfl

/-- A slot at reset release, its detect line as given (R33, R35). -/
def Slot.released (on : Bool) (x : Slot) : Slot := if on then x.settlingAnew else x

/-- The request flags at reset release once the line of a slot has been looked at (R26). -/
def released (p : Part) (r : WakeSet) (i : Fin 4) : WakeSet := if p.pins.detect[i] then r ||| (WakeSource.slot i).bit else r

/-- The detect lines at reset release, taken one after the other (R33, R35). -/
theorem Part.foldl_releaseSlotLine {p : Part} (hm : p.svc.mode = .setup) {l : List (Fin 4)} (nodup : l.Nodup)
    (he : ∀ i ∈ l, p.csu.slots[i].state = .empty) :
    l.foldl Part.releaseSlotLine p = { p with
      svc := { p.svc with request := l.foldl (released p) p.svc.request }
      csu := { p.csu with slots := replaced (fun i => Slot.released p.pins.detect[i]) l p.csu.slots } } := by
  induction l generalizing p with
  | nil => rfl
  | cons i l ih =>
    obtain ⟨fresh, nodup⟩ := List.nodup_cons.mp nodup
    have line : p.releaseSlotLine i = { p with
        svc := { p.svc with request := released p p.svc.request i }
        csu := { p.csu with slots := p.csu.slots.set i (Slot.released p.pins.detect[i] p.csu.slots[i]) } } := by
      unfold Part.releaseSlotLine released Slot.released
      cases p.pins.detect[i] with
      | false => simp only [Bool.false_eq_true, if_false]; rw [set_self]
      | true => exact Part.detectAssert_setup hm (he i (List.mem_cons_self ..))
    have others (j : Fin 4) (hj : j ∈ l) : (p.releaseSlotLine i).csu.slots[j].state = .empty := by
      rw [line, ← he j (List.mem_cons_of_mem _ hj)]
      exact congrArg Slot.state (orders_set_ne _ _ fun h => fresh (h ▸ hj))
    rw [List.foldl_cons, ih (by rw [line]; exact hm) nodup others, line]
    rfl

/-- The request flags at reset release (R26). -/
theorem foldl_released_getLsbD (p : Part) (l : List (Fin 4)) (r : WakeSet) (j : Nat) :
    (l.foldl (released p) r).getLsbD j = (r.getLsbD j || l.any fun i => p.pins.detect[i] && decide (i.val = j)) := by
  induction l generalizing r with
  | nil => simp
  | cons i l ih =>
    have first : (released p r i).getLsbD j = (r.getLsbD j || (p.pins.detect[i] && decide (i.val = j))) := by
      unfold released
      cases p.pins.detect[i] with
      | false => simp
      | true => rw [if_pos rfl, BitVec.getLsbD_or, WakeSource.bit_getLsbD]; rfl
    rw [List.foldl_cons, ih, first, List.any_cons, Bool.or_assoc]

/-- A channel at reset release, its line as given: a pulse begins where it is asserted (R108). -/
def Channel.released (now : Nat) (on : Bool) (ch : Channel) : Channel :=
  if on then
    { ch with
      pulse := some { since := now, jammer := false }, train := ch.train.map fun t => { t with gapSince := none } }
  else ch

/-- The pulse lines at reset release, taken one after the other (R108). -/
theorem Part.foldl_releasePulseLine (p : Part) (l : List (Fin 6)) :
    l.foldl Part.releasePulseLine p = { p with pay := { p.pay with
      chans := replaced (fun c => Channel.released p.now p.pins.pulse[c]) l p.pay.chans } } := by
  induction l generalizing p with
  | nil => rfl
  | cons c l ih =>
    have line : p.releasePulseLine c = { p with pay := { p.pay with
        chans := p.pay.chans.set c (Channel.released p.now p.pins.pulse[c] p.pay.chans[c]) } } := by
      unfold Part.releasePulseLine Channel.released
      cases p.pins.pulse[c] with
      | false => simp only [Bool.false_eq_true, if_false]; rw [set_self]
      | true => rfl
    rw [List.foldl_cons, ih, line]
    rfl

/-- The part after reset release (R31, R33, R108). -/
theorem Part.resetRelease_eq {p : Part} (hr : p.inReset = true) (hm : p.svc.mode = .setup)
    (he : ∀ i : Fin 4, p.csu.slots[i].state = .empty) (ms : Nat) (strap : Strap) (tempA tempB : Int) :
    p.resetRelease ms strap tempA tempB = { p with
      now := max p.now ms, inReset := false
      svc := { p.svc with strap := strap, request := (List.finRange 4).foldl (released p) p.svc.request }
      csu := { p.csu with slots := replaced (fun i => Slot.released p.pins.detect[i]) (List.finRange 4) p.csu.slots }
      pay := { p.pay with
          chans := replaced (fun c => Channel.released (max p.now ms) p.pins.pulse[c]) (List.finRange 6) p.pay.chans }
      engA := { p.engA with temperature := tempA }
      engB := if strap = .one then { p.engB with state := .absent } else { p.engB with temperature := tempB } } := by
  have lines := Part.foldl_releaseSlotLine (p := (p.advance ms).latch strap tempA tempB) hm (List.nodup_finRange 4)
    fun i _ => he i
  refine (if_pos hr).trans ?_
  dsimp only
  rw [lines, Part.foldl_releasePulseLine]
  cases strap <;> rfl

/-- Settles O6: the part after the release, and its slots, flags and channels one by one. -/
theorem resetReleaseLatchesTheStrap : Obligations.ResetReleaseLatchesTheStrap := by
  unfold Obligations.ResetReleaseLatchesTheStrap
  intro s ms strap tempA tempB hr hm he
  have next : exec (.resetRelease ms strap tempA tempB) s
      = .next { s with toPart := s.toPart.resetRelease ms strap tempA tempB } := rfl
  rw [Part.resetRelease_eq hr hm he] at next
  have flag (j : Nat) := foldl_released_getLsbD s.toPart (List.finRange 4) s.svc.request j
  refine ⟨_, next, rfl, fun i => ⟨?_, (flag i).trans ?_⟩, fun j hj => (flag j).trans ?_, fun c => ?_⟩
  · exact replaced_finRange (fun i => Slot.released s.pins.detect[i]) s.csu.slots i
  · have own : ((List.finRange 4).any fun k => s.pins.detect[k] && decide (k.val = i.val)) = s.pins.detect[i] := by
      rw [Bool.eq_iff_iff]
      simp [Fin.val_inj]
    rw [own]
  · have none' : ((List.finRange 4).any fun k => s.pins.detect[k] && decide (k.val = j)) = false := by
      simp; omega
    rw [none', Bool.or_false]
  · exact replaced_finRange (fun c => Channel.released (max s.now ms) s.pins.pulse[c]) s.pay.chans c

end Sys2Proof.Machine
end

section
/-! PROOFS. The end of the grace (R24, R25, R49) and the outputs that follow the mode (R34, R161, R162, R171, R178, R179). -/

set_option Elab.async false

open Sys2Proof Sys2Proof.Machine

namespace Sys2Proof.Machine

/-! ### Parking -/

theorem Slot.park_eq (x : Slot) : x.park = x.parked := by
  unfold Slot.park Slot.parked
  cases x.state with
  | identifying =>
    cases x.resume with
    | none => rfl
    | some r => cases r <;> rfl
  | empty | settling | ready | bound | absentBound | foreign | fault => rfl

/-- No source holds a wake condition while no flag is set on both sides (R26). -/
theorem Service.wakeHolds_none {v : Service} (h : v.request &&& v.enable = 0) (w : WakeSource) : v.wakeHolds w = false := by
  rw [Service.wakeHolds, ← BitVec.getLsbD_and, h]
  exact BitVec.getLsbD_zero

/-- The entry to PARKED while no wake condition holds (R25, R49). -/
theorem Part.enterParked_quiet {p : Part} (h : p.svc.request &&& p.svc.enable = 0) :
    p.enterParked = { p with
      svc := { p.svc with mode := .parked, grace := none }
      csu := { p.csu with slots := p.csu.slots.map Slot.parked } } := by
  let q : Part := Part.parkSlots { p with svc := { p.svc with mode := .parked, grace := none } }
  have none' (w : WakeSource) : q.svc.wakeHolds w = false := Service.wakeHolds_none (v := q.svc) h w
  have stays : p.enterParked = q := by
    show (if q.svc.wakeHolds .pulse = true then q.wakeCondition .pulse
      else (debouncedSources.filter fun w => q.svc.wakeHolds w).foldl Part.wakeCondition q) = q
    simp only [none', Bool.false_eq_true, if_false, List.filter_false, List.foldl_nil]
  have slots : Slot.park = Slot.parked := funext Slot.park_eq
  rw [stays, ← slots]
  rfl

theorem exec_graceExpiry {s : State} (hr : s.inReset = false) (hm : s.svc.mode = .parkPending) (hg : s.svc.grace ≠ none) :
    exec .graceExpiry s
      = .next { s with toPart := if s.mayPark then s.toPart.enterParked else s.toPart.endGrace } := by
  obtain ⟨g, hg⟩ := Option.ne_none_iff_exists'.mp hg
  rw [exec_running (c := .graceExpiry) hr nofun]
  simp only [runOf, Part.graceExpires, hm, hg]

/-! ### Outputs -/

theorem Mode.dark_iff (m : Mode) : m.dark = true ↔ m = .parked ∨ m = .waking := by
  cases m <;> decide

/-- Card power outside reset (R25, R34, R49). -/
theorem Part.cardPower_iff {p : Part} (hr : p.inReset = false) (i : Fin 4) : p.cardPower i = true
    ↔ ¬ (p.svc.mode = .parked ∨ p.svc.mode = .waking)
      ∧ p.csu.slots[i].state ∈ [SlotState.identifying, .ready, .bound, .foreign] := by
  rw [← Mode.dark_iff, Part.cardPower, hr]
  cases p.csu.slots[i].state <;> simp

/-- Head power outside reset (R25, R162, R171, R178, R179). -/
theorem Part.headPower_iff {p : Part} (hr : p.inReset = false) (e : EngineId) : p.headPower e = true
    ↔ ¬ (p.svc.mode = .parked ∨ p.svc.mode = .waking) ∧ (p.eng e).state ≠ .absent ∧ (p.eng e).state ≠ .fault
      ∧ (p.eng e).motion ≠ some .abortEject := by
  rw [← Mode.dark_iff, Part.headPower, hr]
  cases (p.eng e).state <;> simp

/-- Self-refresh of the spool memory (R161). -/
theorem Part.selfRefresh_iff (p : Part) : p.selfRefresh = true
    ↔ (p.svc.mode = .parked ∨ p.svc.mode = .waking) ∧ p.spl.port = none
      ∧ ∀ b, p.rin.conv = some b → b.writes = [] := by
  rw [← Mode.dark_iff, Part.selfRefresh]
  cases p.rin.conv <;> simp [and_assoc]

/-- Settles O24: the two ends of the grace, and the three outputs. -/
theorem graceEndsInParkedOrDrain : Obligations.GraceEndsInParkedOrDrain := by
  unfold Obligations.GraceEndsInParkedOrDrain
  refine ⟨fun s hr hm hg => ⟨fun hw => ?_, fun hw hq => ?_⟩, fun s hr =>
    ⟨Part.cardPower_iff hr, Part.headPower_iff hr, s.toPart.selfRefresh_iff⟩⟩
  · rw [exec_graceExpiry hr hm hg, hw]
    rfl
  · rw [exec_graceExpiry hr hm hg, hw, if_pos rfl, Part.enterParked_quiet hq]

end Sys2Proof.Machine
end

section
/-! PROOFS. What a wake leaves of the capture set: no shared operation of the slots, the orders and the engines takes a kind
out of it (R15). -/

set_option Elab.async false

open Sys2Proof Sys2Proof.Machine

namespace Sys2Proof.Machine

/-- Every kind in the capture set is still in it (R15). -/
def Part.KeepsCaptures (p q : Part) : Prop :=
  ∀ k : CaptureKind, p.svc.captureSet.has k = true → q.svc.captureSet.has k = true

theorem Part.KeepsCaptures.of_svc {p q : Part} (h : q.svc = p.svc) : p.KeepsCaptures q := by
  intro k hk
  rwa [h]

theorem Part.KeepsCaptures.trans {p q r : Part} (h : p.KeepsCaptures q) (h' : q.KeepsCaptures r) : p.KeepsCaptures r :=
  fun k hk => h' k (h k hk)

theorem Part.capture_keepsCaptures (p : Part) (k : CaptureKind) : p.KeepsCaptures (p.capture k) := by
  intro j hj
  rw [Part.capture_svc, Service.capture_has, hj, Bool.true_or]

theorem foldl_svc {α : Type} {f : Part → α → Part} (h : ∀ p x, (f p x).svc = p.svc) (l : List α) (p : Part) :
    (l.foldl f p).svc = p.svc := by
  induction l generalizing p with
  | nil => rfl
  | cons x l ih => rw [List.foldl_cons, ih, h]

theorem foldl_keepsCaptures {α : Type} {f : Part → α → Part} (h : ∀ (p : Part) x, p.KeepsCaptures (f p x)) (l : List α)
    (p : Part) :
    p.KeepsCaptures (l.foldl f p) := by
  induction l generalizing p with
  | nil => exact .of_svc rfl
  | cons x l ih => exact (h p x).trans (ih _)

/-! ### Operations that leave SVC -/

theorem Part.kick_svc (p : Part) : p.kick.svc = p.svc := by
  unfold Part.kick
  split
  · rfl
  · split
    · rfl
    · split <;> rfl

theorem Part.feed_svc (p : Part) : p.feed.svc = p.svc := by
  rw [Part.feed, Part.refill_eq]
  show p.refill.kick.svc = p.svc
  rw [Part.kick_svc, Part.refill_eq]

theorem Part.endRead_svc (p : Part) (i : Fin 4) (o : ReadOutcome) (r : ReadReq) : (p.endRead i o r).svc = p.svc := by
  rw [Part.endRead_eq]
  rfl

theorem Part.endAllReads_svc (p : Part) (i : Fin 4) (o : ReadOutcome) : (p.endAllReads i o).svc = p.svc := by
  rw [Part.endAllReads, Part.feed_svc, Part.endTurn_beginTurn]
  exact foldl_svc (fun p r => p.endRead_svc i o r) _ p

theorem Part.cancelReads_svc (p : Part) (i : Fin 4) : (p.cancelReads i).svc = p.svc := by
  unfold Part.cancelReads
  split
  · dsimp only
    rw [Part.feed_svc, foldl_svc fun p r => p.endRead_svc i .cancelled r, Part.modSlot_svc]
  · exact p.endAllReads_svc i .cancelled

theorem Part.releaseSlot_svc (p : Part) (i : Fin 4) : (p.releaseSlot i).svc = p.svc := by
  simp only [Part.releaseSlot]
  split
  · rw [Part.cancelReads_svc, Part.modSlot_svc]
  · rfl

theorem Part.dropBinding_svc (p : Part) (k : Fin 32) : (p.dropBinding k).svc = p.svc := by
  unfold Part.dropBinding
  split
  · split
    · rw [Part.releaseSlot_svc, Part.modOrder_svc]
    · rfl
  · rfl

theorem Part.markHanded_svc (p : Part) (op : CashlessOp) : (p.markHanded op).svc = p.svc := by
  unfold Part.markHanded
  split <;> rfl

theorem Part.pump_svc (p : Part) : p.pump.svc = p.svc := by
  unfold Part.pump
  split
  · dsimp only
    split
    · rw [Part.markHanded_svc]
    · rfl
    · rfl
  · rfl

theorem Part.handOp_svc (p : Part) (op : CashlessOp) : (p.handOp op).svc = p.svc := by
  unfold Part.handOp
  split
  · rw [Part.joinOp, Part.pump_svc]
    exact p.markHanded_svc op
  · rfl

theorem Part.loseFocus_svc (p : Part) (n : Nat) : (p.loseFocus n).svc = p.svc := by
  rw [Part.loseFocus_eq]

theorem Part.reverse_svc (p : Part) (id : Fin 64) : (p.reverse id).svc = p.svc := by
  unfold Part.reverse
  split
  · split <;> rfl
  · rfl

theorem Part.clearHolder_svc (p : Part) (id : Fin 64) : (p.clearHolder id).svc = p.svc := by
  unfold Part.clearHolder
  split <;> rfl

theorem Part.wakeSlot_svc (p : Part) (i : Fin 4) : (p.wakeSlot i).svc = p.svc := by
  unfold Part.wakeSlot
  split
  · split <;> rfl
  all_goals rfl

/-! ### Operations that capture -/

theorem Part.closeOrder_keepsCaptures (p : Part) (k : Fin 32) (captured : Option Nat) :
    p.KeepsCaptures (p.closeOrder k captured) := by
  unfold Part.closeOrder
  split
  next o _ =>
    split
    · dsimp only
      refine .trans ?_ (.of_svc (Part.dropBinding_svc _ k))
      refine .trans (.of_svc ?_) (Part.capture_keepsCaptures _ .orderClosed)
      rw [Part.loseFocus_svc]
      rfl
    · exact .of_svc rfl
  next => exact .of_svc rfl

theorem Part.enterSettling_keepsCaptures (p : Part) (k : Fin 32) : p.KeepsCaptures (p.enterSettling k) := by
  unfold Part.enterSettling
  split
  next o _ =>
    dsimp only
    generalize hq : Part.loseFocus _ _ = q
    have start : q.svc = p.svc := by rw [← hq, Part.loseFocus_svc, Part.modOrder_svc]
    refine .trans (.of_svc start) ?_
    split
    · exact q.closeOrder_keepsCaptures k (some 0)
    · split <;> exact .of_svc (q.handOp_svc _)
  next => exact .of_svc rfl

theorem Part.checkSettling_keepsCaptures (p : Part) (k : Fin 32) : p.KeepsCaptures (p.checkSettling k) := by
  unfold Part.checkSettling
  split
  · split
    · exact p.enterSettling_keepsCaptures k
    · exact .of_svc rfl
  · exact .of_svc rfl

theorem Part.dropBands_keepsCaptures (p : Part) (id : Fin 64) : p.KeepsCaptures (p.dropBands id) := by
  unfold Part.dropBands
  split
  · exact p.capture_keepsCaptures .bandDiscard
  · exact .of_svc rfl

theorem Part.stopReceiving_keepsCaptures (p : Part) (id : Fin 64) : p.KeepsCaptures (p.stopReceiving id) := by
  unfold Part.stopReceiving
  split
  · split
    · dsimp only
      refine .trans (.of_svc ?_) (Part.dropBands_keepsCaptures _ id)
      split
      · split <;> rfl
      · rfl
    · exact .of_svc rfl
  · exact .of_svc rfl

theorem Part.withdrawItem_keepsCaptures (p : Part) (id : Fin 64) (reason : Option FailReason) :
    p.KeepsCaptures (p.withdrawItem id reason) := by
  unfold Part.withdrawItem
  split
  · dsimp only
    refine .trans (.of_svc ?_) (Part.stopReceiving_keepsCaptures _ id)
    rw [Part.clearHolder_svc]
    exact p.reverse_svc id
  · exact .of_svc rfl

theorem Part.withdrawReturned_keepsCaptures (p : Part) (id : Fin 64) : p.KeepsCaptures (p.withdrawReturned id) := by
  unfold Part.withdrawReturned Part.checkItemOrder
  refine (p.withdrawItem_keepsCaptures id none).trans ?_
  split
  · exact Part.checkSettling_keepsCaptures _ _
  · exact .of_svc rfl

theorem Part.returnItems_keepsCaptures (p : Part) (e : EngineId) (ids : List (Fin 64)) :
    p.KeepsCaptures (p.returnItems e ids) := by
  refine .trans (.of_svc ?_) (foldl_keepsCaptures Part.withdrawReturned_keepsCaptures _ _)
  exact (foldl_svc (f := Part.respool) (fun _ _ => rfl) _ _).trans (Part.modEng_svc _ _ _)

/-- A fault outside a copy (R171, R173). -/
theorem Part.faultCore_keepsCaptures (p : Part) (e : EngineId) (k : FaultKind) :
    p.KeepsCaptures (p.faultCore e k false).1 := by
  refine .trans ?_ (Part.returnItems_keepsCaptures (p.enterFault e k) e _)
  exact .trans (.of_svc (Part.modEng_svc _ _ _)) (Part.capture_keepsCaptures _ .engineFault)

theorem Part.loadStart_keepsCaptures (p : Part) (e : EngineId) : p.KeepsCaptures (p.loadStart e).1 := by
  simp only [Part.loadStart]
  split
  · exact .trans (.of_svc (Part.modEng_svc _ _ _)) (Part.faultCore_keepsCaptures _ e .mediaMismatch)
  · split
    · exact .trans (.of_svc (by rw [Part.modEng_svc, Part.modEng_svc])) (Part.capture_keepsCaptures _ .mediaLow)
    · exact .of_svc (by rw [Part.modEng_svc, Part.modEng_svc])

theorem Part.beginCopy_keepsCaptures (p : Part) (e : EngineId) : p.KeepsCaptures (p.beginCopy e).1 := by
  unfold Part.beginCopy
  split
  · split
    · exact .trans (.of_svc (Part.modEng_svc _ _ _)) (Part.capture_keepsCaptures _ .mediaOut)
    · refine .trans (.of_svc ?_) (Part.loadStart_keepsCaptures _ e)
      split <;> rfl
  · exact .of_svc rfl

theorem Part.sensors_modEng (p : Part) (e e' : EngineId) (f : Engine → Engine) :
    (p.modEng e' f).sensors e = p.sensors e := by
  cases e <;> cases e' <;> rfl

/-- An engine enters IDLE with a condition reported (R165). -/
theorem Part.enterIdle_reported {p : Part} {e : EngineId} {k : FaultKind} (h : (p.sensors e).condition = some k) :
    p.enterIdle e = (p.modEng e Engine.idled).faultCore e k false := by
  simp only [Part.enterIdle, Part.sensors_modEng, h]
  rfl

/-- An engine enters IDLE with no condition reported (R166). -/
theorem Part.enterIdle_clear {p : Part} {e : EngineId} (h : (p.sensors e).condition = none) :
    p.enterIdle e = (p.modEng e Engine.idled).beginCopy e := by
  simp only [Part.enterIdle, Part.sensors_modEng, h]
  rfl

theorem Part.enterIdle_keepsCaptures (p : Part) (e : EngineId) : p.KeepsCaptures (p.enterIdle e).1 := by
  refine .trans (.of_svc (p.modEng_svc e Engine.idled)) ?_
  cases h : (p.sensors e).condition with
  | some k => rw [Part.enterIdle_reported h]; exact Part.faultCore_keepsCaptures _ e k
  | none => rw [Part.enterIdle_clear h]; exact Part.beginCopy_keepsCaptures _ e

theorem Part.resumeIdle_keepsCaptures (p : Part) (e : EngineId) : p.KeepsCaptures (p.resumeIdle e) := by
  unfold Part.resumeIdle
  split
  · exact p.enterIdle_keepsCaptures e
  · exact .of_svc rfl

theorem Part.releaseTo_keepsCaptures (p : Part) (id : Fin 64) (it : Item) (e : EngineId) :
    p.KeepsCaptures (p.releaseTo id it e) := by
  refine .trans (.of_svc ?_) (Part.beginCopy_keepsCaptures _ e)
  rw [Part.modEng_svc, Part.modItem_svc]
  split <;> rfl

theorem Part.tryEntry_keepsCaptures (p : Part) (x : ReleaseEntry) : p.KeepsCaptures (p.tryEntry x) := by
  unfold Part.tryEntry
  split
  · split
    · split
      · split
        · exact p.releaseTo_keepsCaptures _ _ _
        · exact .of_svc rfl
      · exact .of_svc rfl
    · exact .of_svc rfl
  · exact .of_svc rfl

theorem Part.walk_keepsCaptures (p : Part) : p.KeepsCaptures p.walk := by
  unfold Part.walk
  split
  · exact .of_svc rfl
  · exact foldl_keepsCaptures Part.tryEntry_keepsCaptures _ p

end Sys2Proof.Machine
end

section
/-! PROOFS. The wake to LIVE (R25, R28, R30, R50, R179): the slots, the engines, the walk, and what a wake leaves. -/

set_option Elab.async false

open Sys2Proof Sys2Proof.Machine

namespace Sys2Proof.Machine

/-! ### The slots -/

/-- A slot at the return to LIVE, as one change of its record (R50). -/
theorem Part.wakeSlot_eq (p : Part) (i : Fin 4) :
    p.wakeSlot i = { p with csu := { p.csu with slots := p.csu.slots.set i p.csu.slots[i].woken } } := by
  have stays (h : p.csu.slots[i].woken = p.csu.slots[i]) :
      p = { p with csu := { p.csu with slots := p.csu.slots.set i p.csu.slots[i].woken } } := by
    rw [h, set_self]
  have identifies (r : Option ResumeState) : (p.modSlot i fun s => { s with resume := r }).identifyStart i
      = { p with csu := { p.csu with slots := p.csu.slots.set i (p.csu.slots[i].identifying r) } } := by
    simp only [Part.identifyStart, Part.modSlot, Vector.set_set]
    rw [show (p.csu.slots.set i _)[i] = _ from Vector.getElem_set_self _]
    rfl
  unfold Part.wakeSlot
  cases hs : p.csu.slots[i].state with
  | settling =>
    by_cases hold : p.csu.slots[i].holdComplete = true
    · simp only [Slot.woken, hs, hold, if_true]
      rfl
    · rw [Bool.not_eq_true] at hold
      simp only [hold, Bool.false_eq_true, if_false]
      exact stays (by simp only [Slot.woken, hs, hold, Bool.false_eq_true, if_false])
  | ready | bound | foreign => simp only [Slot.woken, hs]; exact identifies _
  | empty | identifying | absentBound | fault => exact stays (by simp only [Slot.woken, hs])

/-- The slots at the return to LIVE, taken one after the other (R50). -/
theorem Part.wakeSlots_eq (p : Part) : p.wakeSlots
    = { p with csu := { p.csu with slots := replaced (fun _ => Slot.woken) (List.finRange 4) p.csu.slots } } := by
  have each (l : List (Fin 4)) (q : Part) : l.foldl (fun q i => q.wakeSlot i) q
      = { q with csu := { q.csu with slots := replaced (fun _ => Slot.woken) l q.csu.slots } } := by
    induction l generalizing q with
    | nil => rfl
    | cons i l ih => rw [List.foldl_cons, ih, Part.wakeSlot_eq]; rfl
  exact each _ p

/-! ### The engines -/

/-- A fault with no item QUEUED behind it hands no item back (R173). -/
theorem Part.faultCore_noneQueued {p : Part} {e : EngineId} (hq : (p.eng e).queue.filter p.isQueued = []) (k : FaultKind) :
    p.faultCore e k false = (p.enterFault e k, false) := by
  have queued : (p.enterFault e k).isQueued = p.isQueued := by cases e <;> rfl
  have back : (p.enterFault e k).returnItems e [] = p.enterFault e k :=
    Part.modEng_self (p := p.enterFault e k) (e := e)
      (f := fun en => { en with queue := en.queue.filter fun id => !List.contains [] id })
      (by simp)
  simp only [Part.faultCore, queued, hq, back]
  rfl

/-- What the return to LIVE makes of an engine with an empty queue (R179). -/
structure Part.Resumes (p : Part) (e : EngineId) (q : Part) : Prop where
  rest : q = { p with
    svc := { p.svc with captureSet := q.svc.captureSet, again := q.svc.again }
    spl := { p.spl with port := q.spl.port }, engA := q.engA, engB := q.engB }
  own : q.eng e = (p.eng e).restored (p.sensors e).condition
  other : ∀ e', e' ≠ e → q.eng e' = p.eng e'

theorem Part.resumeIdle_resumes {p : Part} {e : EngineId} (hq : (p.eng e).queue = []) : p.Resumes e (p.resumeIdle e) := by
  have queue : ((p.modEng e Engine.idled).eng e).queue = [] := by rw [Part.modEng_same]; exact hq
  unfold Part.resumeIdle
  by_cases hi : (p.eng e).state = .idle
  · rw [if_pos (by rw [hi]; rfl)]
    cases hc : (p.sensors e).condition with
    | none =>
      rw [Part.enterIdle_clear hc, Part.beginCopy_empty queue]
      refine ⟨by cases e <;> rfl, ?_, fun e' he => p.modEng_other he _⟩
      rw [Part.modEng_same, hc, Engine.restored, if_pos hi, Engine.idled, ← hi]
    | some k =>
      rw [Part.enterIdle_reported hc, Part.faultCore_empty queue]
      refine ⟨by cases e <;> rfl, ?_, fun e' he => ?_⟩
      · rw [hc, Engine.restored, if_pos hi]
        cases e <;> rfl
      · exact ((p.modEng e Engine.idled).modEng_other he _).trans (p.modEng_other he _)
  · rw [if_neg (by simpa using hi)]
    exact ⟨rfl, (if_neg hi).symm, fun _ _ => rfl⟩

/-- Both engines at the return to LIVE with empty queues (R179). -/
theorem Part.resumeIdle_both {p : Part} (hq : ∀ e, (p.eng e).queue = []) :
    let q := (p.resumeIdle .A).resumeIdle .B
    q.csu = p.csu ∧ q.pay = p.pay ∧ q.ord = p.ord ∧ q.svc.mode = p.svc.mode
      ∧ ∀ e, q.eng e = (p.eng e).restored (p.sensors e).condition := by
  dsimp only
  have first := Part.resumeIdle_resumes (hq .A)
  have queue : ((p.resumeIdle .A).eng .B).queue = [] := by rw [first.other .B nofun]; exact hq .B
  have second := Part.resumeIdle_resumes queue
  have sensors : (p.resumeIdle .A).sensors .B = p.sensors .B := by rw [first.rest]; rfl
  refine ⟨?_, ?_, ?_, ?_, fun e => ?_⟩
  · rw [second.rest, first.rest]
  · rw [second.rest, first.rest]
  · rw [second.rest, first.rest]
  · rw [second.rest, first.rest]
  · cases e with
    | A => rw [second.other .A nofun, first.own]
    | B => rw [second.own, first.other .B nofun, sensors]

theorem Engine.restored_queue (en : Engine) (c : Option FaultKind) : (en.restored c).queue = en.queue := by
  unfold Engine.restored
  split
  · cases c <;> rfl
  · rfl

/-! ### The walk -/

/-- Outside PARKED and WAKING, an IDLE engine has no item in its queue (R166). -/
structure Part.IdleRests (p : Part) : Prop where
  awake : p.svc.mode.dark = false
  empty : ∀ e, (p.eng e).state = .idle → (p.eng e).queue = []

theorem Part.enterFault_eng_same (p : Part) (e : EngineId) (k : FaultKind) :
    (p.enterFault e k).eng e = (p.eng e).faulted k := by cases e <;> rfl

theorem Part.enterFault_eng_other (p : Part) {e e' : EngineId} (h : e' ≠ e) (k : FaultKind) :
    (p.enterFault e k).eng e' = p.eng e' := p.modEng_other h _

theorem Part.enterFault_csu (p : Part) (e : EngineId) (k : FaultKind) : (p.enterFault e k).csu = p.csu :=
  p.modEng_csu e _

theorem Part.modEng_isQueued (p : Part) (e : EngineId) (f : Engine → Engine) : (p.modEng e f).isQueued = p.isQueued := by
  cases e <;> rfl

/-- An engine that begins a copy leaves IDLE, and nothing of CSU and of the other engine changes. -/
structure Part.Begins (p : Part) (e : EngineId) (q : Part) : Prop where
  csu : q.csu = p.csu
  left : (q.eng e).state ≠ .idle
  other : ∀ e', e' ≠ e → q.eng e' = p.eng e'

theorem Part.loadStart_begins {p : Part} {e : EngineId} (hq : (p.eng e).queue.filter p.isQueued = []) :
    p.Begins e (p.loadStart e).1 := by
  simp only [Part.loadStart]
  split
  · rw [Part.faultCore_noneQueued (by rw [Part.modEng_isQueued, Part.modEng_same]; exact hq)]
    refine ⟨?_, ?_, fun e' he => ?_⟩
    · exact (Part.enterFault_csu _ e _).trans (p.modEng_csu e _)
    · rw [Part.enterFault_eng_same]; nofun
    · exact (Part.enterFault_eng_other _ he _).trans (p.modEng_other he _)
  · have drawn (q : Part) (hc : q.csu = (p.modEng e fun en => { en with state := .loading }).csu)
        (he : q.eng = ((p.modEng e fun en => { en with state := .loading }).modEng e fun en =>
          { en with prints := en.prints - 1, motion := some .draw }).eng) : p.Begins e q := by
      refine ⟨hc.trans (p.modEng_csu e _), ?_, fun e' hne => ?_⟩
      · rw [he, Part.modEng_same, Part.modEng_same]; nofun
      · rw [he, Part.modEng_other _ hne, Part.modEng_other _ hne]
    split
    · exact drawn _ (Part.modEng_csu _ e _) rfl
    · exact drawn _ (Part.modEng_csu _ e _) rfl

/-- An IDLE engine with one QUEUED item alone in its queue begins its copy (R166). -/
theorem Part.beginCopy_begins {p : Part} {e : EngineId} {id : Fin 64} {it : Item} (hi : (p.eng e).state = .idle)
    (hm : p.svc.mode.dark = false) (hq : (p.eng e).queue = [id]) (hit : p.ord.items[id] = some it) (hs : it.state = .queued) :
    p.Begins e (p.beginCopy e).1 := by
  have queued : p.isQueued id = true := by rw [Part.isQueued, hit, Option.map_some, hs]; rfl
  simp only [Part.beginCopy, hi, hm, hq, queued, if_true]
  split
  · have needs := congrArg Engine.state (p.modEng_same e fun en => { en with state := .needsMedia })
    exact ⟨p.modEng_csu e _, fun h => (nomatch needs.symm.trans h), fun e' he => p.modEng_other he _⟩
  · have none' : ((p.modItem id fun it => { it with state := .printing }).eng e).queue.filter
        (p.modItem id fun it => { it with state := .printing }).isQueued = [] := by
      rw [show (p.modItem id _).eng e = p.eng e from rfl, hq, List.filter_cons_of_neg, List.filter_nil]
      rw [Part.isQueued, Part.modItem_ord, show (p.ord.items.set id _)[id] = _ from Vector.getElem_set_self _, hit]
      nofun
    obtain ⟨csu, left, other⟩ := Part.loadStart_begins none'
    exact ⟨csu, left, other⟩

/-- A release to an engine leaves CSU, and every IDLE engine with an empty queue (R87, R166). -/
theorem Part.releaseTo_rests {p : Part} {id : Fin 64} {it it₀ : Item} {e : EngineId} (h : p.IdleRests)
    (hit : p.ord.items[id] = some it₀) :
    (p.releaseTo id it e).csu = p.csu ∧ (p.releaseTo id it e).IdleRests := by
  unfold Part.releaseTo
  dsimp only
  generalize hp : (if it.debited = true then p else _ : Part) = p₁
  have items : p₁.ord.items = p.ord.items := by rw [← hp]; split <;> rfl
  have eng : p₁.eng = p.eng := by rw [← hp]; split <;> rfl
  have csu : p₁.csu = p.csu := by rw [← hp]; split <;> rfl
  have svc : p₁.svc = p.svc := by rw [← hp]; split <;> rfl
  generalize hq : Part.modEng _ e _ = q
  have own : q.eng e = { p.eng e with queue := (p.eng e).queue ++ [id] } := by
    rw [← hq, Part.modEng_same, ← eng]; rfl
  have other (e') (he : e' ≠ e) : q.eng e' = p.eng e' := by rw [← hq, Part.modEng_other _ he, ← eng]; rfl
  have csu' : q.csu = p.csu := by rw [← hq, Part.modEng_csu, ← csu]; rfl
  have svc' : q.svc = p.svc := by rw [← hq, Part.modEng_svc, ← svc]; rfl
  have mode : (q.beginCopy e).1.svc.mode = p.svc.mode := by
    rw [Part.mode_of_fixed (q.beginCopy_fixed e), svc']
  by_cases hi : (p.eng e).state = .idle
  · have queue : (q.eng e).queue = [id] := by rw [own, h.empty e hi]; rfl
    have found : q.ord.items[id] = some { it₀ with debited := true, state := .queued, engine := some e } := by
      rw [← hq, Part.modEng_ord, Part.modItem_ord,
        show (Vector.set _ _ _ _)[id] = _ from Vector.getElem_set_self _]
      show Option.map _ p₁.ord.items[id] = _
      rw [items, hit]; rfl
    obtain ⟨begunCsu, left, begunOther⟩ :=
      Part.beginCopy_begins (by rw [own]; exact hi) (by rw [svc']; exact h.awake) queue found rfl
    refine ⟨begunCsu.trans csu', by rw [mode]; exact h.awake, fun e' idle => ?_⟩
    by_cases he : e' = e
    · exact absurd (he ▸ idle) left
    · rw [begunOther e' he, other e' he] at idle ⊢
      exact h.empty e' idle
  · have stays : q.beginCopy e = (q, false) := by
      unfold Part.beginCopy
      split
      next idle _ _ => rw [own] at idle; exact absurd idle hi
      next => rfl
    rw [stays] at mode ⊢
    refine ⟨csu', by rw [mode]; exact h.awake, fun e' idle => ?_⟩
    by_cases he : e' = e
    · subst he; rw [own] at idle; exact absurd idle hi
    · rw [other e' he] at idle ⊢
      exact h.empty e' idle

theorem Part.tryEntry_rests {p : Part} (h : p.IdleRests) (x : ReleaseEntry) :
    (p.tryEntry x).csu = p.csu ∧ (p.tryEntry x).IdleRests := by
  unfold Part.tryEntry
  split
  next it hit =>
    split
    next o ho =>
      split
      · split
        · exact Part.releaseTo_rests h hit
        · exact ⟨rfl, h⟩
      · exact ⟨rfl, h⟩
    next => exact ⟨rfl, h⟩
  next => exact ⟨rfl, h⟩

/-- A walk that finds every IDLE engine with an empty queue leaves CSU as it is (R87). -/
theorem Part.walk_csu {p : Part} (h : p.IdleRests) : p.walk.csu = p.csu := by
  have each (l : List ReleaseEntry) (p : Part) (h : p.IdleRests) : (l.foldl Part.tryEntry p).csu = p.csu := by
    induction l generalizing p with
    | nil => rfl
    | cons x l ih =>
      obtain ⟨csu, rests⟩ := Part.tryEntry_rests h x
      rw [List.foldl_cons, ih _ rests, csu]
  rw [Part.walk, if_neg (by rw [h.awake]; nofun)]
  exact each _ p h

/-- No walk takes place with an empty release list (R86). -/
theorem Part.walk_nil {p : Part} (h : p.ord.release = []) : p.walk = p := by
  rw [Part.walk, h]
  exact ite_self _

end Sys2Proof.Machine
end

section
/-! PROOFS. What a wake to LIVE leaves (R25, R28), and the events that wake: debounce timers and CTRL frames (R28, R30). -/

set_option Elab.async false

open Sys2Proof Sys2Proof.Machine

namespace Sys2Proof.Machine

/-- The part with its mode LIVE, its debounce timers stopped and its enable flags cleared (R28). -/
def Part.awake (p : Part) : Part :=
  { p with svc := { p.svc with mode := .live, debounce := Vector.replicate 5 none, enable := 0 } }

/-- The part with its slots and its engines as the return to LIVE makes them, before the walk (R50, R179). -/
def Part.resumed (p : Part) : Part := (((p.awake.capture .wake).wakeSlots).resumeIdle .A).resumeIdle .B

theorem Part.wakeToLive_eq (p : Part) : p.wakeToLive = p.resumed.walk := rfl

theorem Part.wakeToLive_fixed (p : Part) :
    p.wakeToLive.fixed = { p.fixed with mode := .live, debounce := Vector.replicate 5 none, enable := 0 } := by
  rw [Part.wakeToLive_eq, Part.walk_fixed, Part.resumed, Part.resumeIdle_fixed, Part.resumeIdle_fixed, Part.wakeSlots_fixed,
    Part.capture_fixed]
  rfl

theorem Part.wakeToLive_tableBytes (p : Part) (T : TableId) : p.wakeToLive.tableBytes T = p.tableBytes T := by
  rw [Part.tableBytes_eq, Part.tableBytes_eq, Part.wakeToLive_fixed]
  cases T with
  | energy e | params e => cases e <;> rfl
  | _ => rfl

/-- The wake captures WAKE and takes no kind out of the capture set (R15, R28). -/
theorem Part.wakeToLive_captures (p : Part) :
    p.wakeToLive.svc.captureSet.has .wake = true ∧ p.KeepsCaptures p.wakeToLive := by
  have slots : (p.awake.capture .wake).KeepsCaptures (p.awake.capture .wake).wakeSlots :=
    .of_svc (foldl_svc Part.wakeSlot_svc _ _)
  have rest : (p.awake.capture .wake).KeepsCaptures p.wakeToLive :=
    ((slots.trans (Part.resumeIdle_keepsCaptures _ .A)).trans (Part.resumeIdle_keepsCaptures _ .B)).trans
      (Part.walk_keepsCaptures _)
  refine ⟨rest .wake ?_, fun k hk => rest k ?_⟩
  · rw [Part.capture_svc, Service.capture_has]
    exact Bool.or_eq_true_iff.mpr (.inr (decide_eq_true rfl))
  · exact Part.capture_keepsCaptures p.awake .wake k hk

/-- With empty engine queues the slots and the engines stand before the walk as R50 and R179 say, and money and orders as
they stood. -/
theorem Part.resumed_quiet {p : Part} (hq : ∀ e, (p.eng e).queue = []) :
    p.resumed.csu.slots = replaced (fun _ => Slot.woken) (List.finRange 4) p.csu.slots ∧ p.resumed.pay = p.pay
      ∧ p.resumed.ord = p.ord ∧ (∀ e, p.resumed.eng e = (p.eng e).restored (p.sensors e).condition)
      ∧ p.resumed.IdleRests := by
  have slots := Part.wakeSlots_eq (p.awake.capture .wake)
  rw [Part.resumed]
  generalize (p.awake.capture .wake).wakeSlots = w at slots
  have eng (e : EngineId) : w.eng e = p.eng e := by rw [slots]; rfl
  have sensors (e : EngineId) : w.sensors e = p.sensors e := by rw [slots]; rfl
  obtain ⟨csu, pay, ord, mode, engines⟩ := Part.resumeIdle_both fun e => (eng e).symm ▸ hq e
  have restored (e : EngineId) : ((w.resumeIdle .A).resumeIdle .B).eng e = (p.eng e).restored (p.sensors e).condition := by
    rw [engines, eng, sensors]
  generalize (w.resumeIdle .A).resumeIdle .B = r at csu pay ord mode restored ⊢
  refine ⟨?_, ?_, ?_, restored, ?_, fun e _ => ?_⟩
  · rw [csu, slots]; rfl
  · rw [pay, slots]; rfl
  · rw [ord, slots]; rfl
  · rw [mode, slots]; rfl
  · rw [restored, Engine.restored_queue, hq]

/-- With empty engine queues the slots stand as R50 says, and with an empty release list the engines as R179 says, and money
and orders as they stood. -/
theorem Part.wakeToLive_quiet {p : Part} (hq : ∀ e, (p.eng e).queue = []) :
    (∀ i : Fin 4, p.wakeToLive.csu.slots[i] = p.csu.slots[i].woken)
      ∧ (p.ord.release = [] → (∀ e, p.wakeToLive.eng e = (p.eng e).restored (p.sensors e).condition)
        ∧ p.wakeToLive.pay = p.pay ∧ p.wakeToLive.ord = p.ord) := by
  obtain ⟨slots, pay, ord, engines, rests⟩ := Part.resumed_quiet hq
  rw [Part.wakeToLive_eq]
  refine ⟨fun i => ?_, fun hr => ?_⟩
  · rw [Part.walk_csu rests, slots, replaced_finRange]
  · rw [Part.walk_nil (by rw [ord, hr])]
    exact ⟨engines, pay, ord⟩

/-- What a wake to LIVE leaves (R25, R28, R50, R179). -/
theorem State.wokenFrom_of {s t : State} (h : t.toPart = s.toPart.wakeToLive) : t.wokenFrom s := by
  have fixed := s.toPart.wakeToLive_fixed
  have captures := s.toPart.wakeToLive_captures.1
  have tables := s.toPart.wakeToLive_tableBytes
  have quiet := @Part.wakeToLive_quiet s.toPart
  rw [← h] at fixed captures tables quiet
  exact ⟨congrArg Fixed.mode fixed, congrArg Fixed.debounce fixed, congrArg Fixed.enable fixed, congrArg Fixed.request fixed,
    captures, congrArg Fixed.alertMask fixed, congrArg Fixed.strap fixed,
    fun hq => ⟨(quiet hq).1, fun hr => ((quiet hq).2 hr).1⟩, congrArg Fixed.mem fixed, tables⟩

/-! ### What wakes -/

theorem lineHeld_timerSource (s : State) (src : Fin 5) : s.toPart.lineHeld (timerSource src) = debouncePin s src := by
  unfold timerSource debouncePin
  split <;> rfl

theorem Part.controlArrival_dark {p : Part} (h : p.svc.mode.dark = true) : p.controlArrival = p.wakeToLive := by
  rcases p.svc.mode.dark_iff.mp h with h | h <;> rw [Part.controlArrival, h]

/-- Settles O23: a debounce timer whose line still holds, and a CTRL frame, each wake the part, and a wake leaves what
`State.wokenFrom_of` says. -/
theorem heldLinesAndFramesWake : Obligations.HeldLinesAndFramesWake := by
  unfold Obligations.HeldLinesAndFramesWake
  refine ⟨fun s src hr hm ht hl => ?_, fun s frame lo b hf hc h1 hd hroom => ?_⟩
  · have fixed := s.toPart.wakeToLive_fixed
    have expires : s.toPart.debounceExpires src = s.toPart.wakeToLive := by
      simp only [Part.debounceExpires, hm, beq_self_eq_true, Option.isSome_iff_ne_none.mpr ht, Bool.and_self, if_true,
        lineHeld_timerSource, hl]
    rw [exec_running (c := .debounceExpiry src) hr nofun]
    simp only [runOf, expires]
    generalize hp : s.toPart.wakeToLive = p at fixed
    exact ⟨_, rfl, State.wokenFrom_of hp.symm, congrArg Fixed.pins fixed, congrArg Fixed.counted fixed⟩
  · rw [exec_frameTaken hf, if_pos hc, Part.dispatch_ctrl _ h1,
      Part.controlArrival_dark (p := (s.assembling Assembler.hunt).toPart) hd]
    have ctrl := congrArg Fixed.ctrl (s.assembling Assembler.hunt).toPart.wakeToLive_fixed
    have woken (t : State) := @State.wokenFrom_of (s.assembling Assembler.hunt) t
    generalize (s.assembling Assembler.hunt).toPart.wakeToLive = p at ctrl woken
    change p.lnk.ctrl = s.lnk.ctrl at ctrl
    rw [Part.offerCtrl, if_pos (by rw [ctrl]; exact hroom), ctrl]
    exact ⟨_, rfl, woken { s with toPart := p } rfl, rfl⟩

end Sys2Proof.Machine
end

section
/-! PROOFS. Postings (R114, R115): what one does while no release walk can move an item, and what it leaves alone. -/

set_option Elab.async false

open Sys2Proof Sys2Proof.Machine

namespace Sys2Proof.Machine

/-- No release walk moves an item: none waits, or the mode makes no walk (R86). -/
def Part.walksIdle (p : Part) : Prop := p.ord.release = [] ∨ p.svc.mode.dark = true

theorem Part.walk_idle {p : Part} (h : p.walksIdle) : p.walk = p := by
  rcases h with release | dark
  · exact Part.walk_nil release
  · rw [Part.walk, if_pos dark]

/-- `postedState` on the part alone. -/
def Part.posted (p : Part) (c : Fin 6) (amount : Nat) : Part := (postedState { toPart := p, pending := [] } c amount).toPart

/-- What a posting comes to, by the tally and the focus order (R114, R115). -/
inductive Part.Posting (p : Part) (amount : Nat) : Prop
  | refused (full : 4294967295 < p.pay.counted + amount)
  | credited (room : ¬ 4294967295 < p.pay.counted + amount) (k : Fin 32) (o : Order)
    (focus : p.pay.focus.bind p.liveOrder = some (k, o))
    (owed : (o.state = .opened ∨ o.state = .committed) ∧ o.cashIn + o.cardAuth < o.total)
  | pooled (room : ¬ 4294967295 < p.pay.counted + amount)
    (none : ∀ k o, p.pay.focus.bind p.liveOrder = some (k, o) →
      ¬ ((o.state = .opened ∨ o.state = .committed) ∧ o.cashIn + o.cardAuth < o.total))

theorem Part.posting (p : Part) (amount : Nat) : p.Posting amount := by
  by_cases full : 4294967295 < p.pay.counted + amount
  · exact .refused full
  cases hf : p.pay.focus.bind p.liveOrder with
  | none => exact .pooled full fun k o h => (Option.some_ne_none _ (h.symm.trans hf)).elim
  | some f =>
    obtain ⟨k, o⟩ := f
    by_cases owed : (o.state = .opened ∨ o.state = .committed) ∧ o.cashIn + o.cardAuth < o.total
    · exact .credited full k o hf owed
    · refine .pooled full fun k' o' h => ?_
      rw [hf] at h
      cases h
      exact owed

theorem postedState_refused {s : State} {amount : Nat} (c : Fin 6) (full : 4294967295 < s.pay.counted + amount) :
    postedState s c amount
      = { s.withChan c { s.pay.chans[c] with jammed := true } with svc := s.svc.capture .channelJam } := if_pos full

theorem postedState_credited {s : State} {amount : Nat} {k : Fin 32} {o : Order} (c : Fin 6)
    (room : ¬ 4294967295 < s.pay.counted + amount) (focus : s.pay.focus.bind s.toPart.liveOrder = some (k, o))
    (owed : (o.state = .opened ∨ o.state = .committed) ∧ o.cashIn + o.cardAuth < o.total) :
    postedState s c amount
      = { s.withOrder k { o with cashIn := o.cashIn + amount } with
          pay := { s.pay with counted := s.pay.counted + amount }
          svc := if o.state = .committed ∧ o.cancel = false ∧ o.total ≤ o.cashIn + amount + o.cardAuth
            then (s.svc.capture .credit).capture .orderFunded else s.svc.capture .credit } := by
  simp only [postedState, if_neg room, focus, if_pos owed]

theorem postedState_pooled {s : State} {amount : Nat} (c : Fin 6) (room : ¬ 4294967295 < s.pay.counted + amount)
    (none : ∀ k o, s.pay.focus.bind s.toPart.liveOrder = some (k, o) →
      ¬ ((o.state = .opened ∨ o.state = .committed) ∧ o.cashIn + o.cardAuth < o.total)) :
    postedState s c amount
      = { s with
          pay := { s.pay with counted := s.pay.counted + amount, pool := s.pay.pool + amount }
          svc := s.svc.capture .poolCredit } := by
  simp only [postedState, if_neg room]
  split
  next k o focus => rw [if_neg (none k o focus)]
  next => rfl

theorem postedState_eq (s : State) (c : Fin 6) (amount : Nat) :
    postedState s c amount = { s with toPart := s.toPart.posted c amount } := by
  unfold Part.posted
  cases s.toPart.posting amount with
  | refused full =>
    rw [postedState_refused c full, postedState_refused c (s := { toPart := s.toPart, pending := [] }) full]
    rfl
  | credited room k o focus owed =>
    rw [postedState_credited c room focus owed,
      postedState_credited c (s := { toPart := s.toPart, pending := [] }) room focus owed]
    rfl
  | pooled room none =>
    rw [postedState_pooled c room none, postedState_pooled c (s := { toPart := s.toPart, pending := [] }) room none]

/-- The order a posting goes to, by the focus order's record (R114). -/
theorem Part.payee_some {p : Part} {k : Fin 32} {o : Order} (h : p.pay.focus.bind p.liveOrder = some (k, o)) :
    p.ord.orders[k] = some o
      ∧ p.payee =
        if (o.state = .opened ∨ o.state = .committed) ∧ o.cashIn + o.cardAuth < o.total then some k else none := by
  obtain ⟨n, hf, hl⟩ := Option.bind_eq_some_iff.mp h
  unfold Part.liveOrder at hl
  split at hl
  next j hj =>
    split at hl
    next r hr =>
      cases hl
      have owes : (0 < o.due) ↔ o.cashIn + o.cardAuth < o.total := by unfold Order.due; omega
      refine ⟨hr, ?_⟩
      simp only [Part.payee, Part.focusIdx, hf, hj, hr, Bool.and_eq_true, decide_eq_true_eq, Order.taking_iff, owes]
    next => cases hl
  next => cases hl

theorem Part.payee_none {p : Part} (h : p.pay.focus.bind p.liveOrder = none) : p.payee = none := by
  simp only [Part.payee, Part.focusIdx]
  cases hf : p.pay.focus with
  | none => rfl
  | some n =>
    rw [hf, Option.bind_some, Part.liveOrder] at h
    dsimp only
    split
    next k hk =>
      split
      next o ho => simp only [hk, ho] at h; cases h
      next => rfl
    next => rfl

/-- A credit to an order that still owes, while no walk moves an item (R93, R98). -/
theorem Part.creditOrder_eq {p : Part} {k : Fin 32} {o : Order} (hw : p.walksIdle) (ho : p.ord.orders[k] = some o)
    (owes : o.cashIn + o.cardAuth < o.total) (amount : Nat) :
    p.creditOrder k amount = { p with
      ord := { p.ord with orders := p.ord.orders.set k (some { o with cashIn := o.cashIn + amount }) }
      svc := if o.state = .committed ∧ o.cancel = false ∧ o.total ≤ o.cashIn + amount + o.cardAuth
        then p.svc.capture .orderFunded else p.svc } := by
  have before : p.orderFunded k = false := by
    simp only [Part.orderFunded, ho, Order.isFunded, decide_eq_false (Nat.not_le.mpr owes), Bool.and_false]
  have found : ((p.modOrder k fun o => { o with cashIn := o.cashIn + amount }).orderFunded k = true)
      ↔ (o.state = .committed ∧ o.cancel = false ∧ o.total ≤ o.cashIn + amount + o.cardAuth) := by
    have record : (p.modOrder k fun o => { o with cashIn := o.cashIn + amount }).ord.orders[k]
        = some { o with cashIn := o.cashIn + amount } := by
      rw [Part.modOrder_eq ho]
      exact Vector.getElem_set_self _
    simp only [Part.orderFunded, record, Order.isFunded, Bool.and_eq_true, beq_iff_eq, Bool.not_eq_true', decide_eq_true_eq,
      and_assoc]
  simp only [Part.creditOrder, Part.fundedCheck, before, Bool.not_false, Bool.and_true, found]
  rw [Part.modOrder_eq ho]
  split <;> exact Part.walk_idle hw

/-- A posting while no walk moves an item (R114, R115). -/
theorem Part.post_eq {p : Part} (hw : p.walksIdle) (c : Fin 6) (amount : Nat) : p.post c amount = p.posted c amount := by
  unfold Part.posted Part.post
  cases p.posting amount with
  | refused full =>
    rw [postedState_refused c (s := { toPart := p, pending := [] }) full]
    exact if_pos full
  | credited room k o focus owed =>
    obtain ⟨ho, payee⟩ := Part.payee_some focus
    rw [postedState_credited c (s := { toPart := p, pending := [] }) room focus owed,
      if_neg (show ¬ Config.tallyTop < _ from room), payee, if_pos owed]
    dsimp only
    split
    next zero =>
      subst zero
      have unfunded : ¬ (o.state = .committed ∧ o.cancel = false ∧ o.total ≤ o.cashIn + 0 + o.cardAuth) :=
        fun ⟨_, _, le⟩ => absurd owed.2 (Nat.not_lt.mpr le)
      have same : p.ord.orders.set k (some { o with cashIn := o.cashIn + 0 }) = p.ord.orders := by
        rw [Nat.add_zero, ← ho, set_self]
      rw [if_neg unfunded]
      simp only [State.withOrder, same]
      rfl
    next => 
      exact Part.creditOrder_eq (p := Part.capture { p with pay := { p.pay with counted := p.pay.counted + amount } } .credit)
        hw ho owed.2 amount
  | pooled room none =>
    rw [postedState_pooled c (s := { toPart := p, pending := [] }) room none,
      if_neg (show ¬ Config.tallyTop < _ from room)]
    have payee : p.payee = Option.none := by
      cases hf : p.pay.focus.bind p.liveOrder with
      | none => exact Part.payee_none hf
      | some f => obtain ⟨k, o⟩ := f; rw [(Part.payee_some hf).2, if_neg (none k o hf)]
    rw [payee]
    rfl

end Sys2Proof.Machine
end

section
/-! PROOFS. Pulses of the cash channels (R108 to R112): what is due at a pulse's begin, the classes of its end, and the wake
that a valid pulse asks for (R26, R29). -/

set_option Elab.async false

open Sys2Proof Sys2Proof.Machine

namespace Sys2Proof.Machine

/-! ### What a posting leaves alone -/

/-- What a posting leaves alone: it changes order records, captures and the amounts of PAY, and of a channel only whether it is
JAMMED (R114, R115). -/
structure Part.PostedFrom (p : Part) (c : Fin 6) (q : Part) : Prop where
  frame : q = { p with
    svc := { p.svc with captureSet := q.svc.captureSet, again := q.svc.again }, ord := { p.ord with orders := q.ord.orders }
    pay := { p.pay with chans := q.pay.chans, counted := q.pay.counted, pool := q.pay.pool } }
  channel : q.pay.chans[c] = { p.pay.chans[c] with jammed := q.pay.chans[c].jammed }

theorem Channel.eq_jammed {x y : Channel} {b : Bool} (h : x = { y with jammed := b }) : x = { y with jammed := x.jammed } := by
  subst h
  rfl

theorem Part.posted_from (p : Part) (c : Fin 6) (amount : Nat) : p.PostedFrom c (p.posted c amount) := by
  unfold Part.posted
  cases p.posting amount with
  | refused full =>
    rw [postedState_refused c (s := { toPart := p, pending := [] }) full]
    have own : (p.pay.chans.set c { p.pay.chans[c] with jammed := true })[c] = { p.pay.chans[c] with jammed := true } :=
      Vector.getElem_set_self _
    exact ⟨rfl, Channel.eq_jammed own⟩
  | credited room k o focus owed =>
    rw [postedState_credited c (s := { toPart := p, pending := [] }) room focus owed]
    refine ⟨?_, rfl⟩
    dsimp only
    split <;> rfl
  | pooled room none =>
    rw [postedState_pooled c (s := { toPart := p, pending := [] }) room none]
    exact ⟨rfl, rfl⟩

/-! ### Trains -/

/-- An open train ends while no walk moves an item: it is gone, and its amount is posted (R112). -/
theorem Part.endTrain_eq {p : Part} (hw : p.walksIdle) {c : Fin 6} {t : Train} (ht : p.pay.chans[c].train = some t) :
    p.endTrain c = (p.modChan c fun ch => { ch with train := none }).posted c (t.n * t.value) := by
  simp only [Part.endTrain, ht]
  exact Part.post_eq (p := p.modChan c fun ch => { ch with train := none }) hw c _

theorem Part.endTrain_none {p : Part} {c : Fin 6} (ht : p.pay.chans[c].train = none) : p.endTrain c = p := by
  simp only [Part.endTrain, ht]

/-- A train whose gap timer has not reached the train gap, or does not run, stays open (R112). -/
theorem Part.endDueTrain_open {p : Part} {c : Fin 6}
    (h : ∀ t g, p.pay.chans[c].train = some t → t.gapSince = some g → p.now < g + p.pay.table[c].gap) :
    p.endDueTrain c = p := by
  unfold Part.endDueTrain
  split
  next n v g ht => exact if_neg (Nat.not_le.mpr (h _ g ht rfl))
  next => rfl

/-- A train whose gap timer has reached the train gap has ended (R112). -/
theorem Part.endDueTrain_due {p : Part} {c : Fin 6} {t : Train} {g : Nat} (ht : p.pay.chans[c].train = some t)
    (hg : t.gapSince = some g) (hd : g + p.pay.table[c].gap ≤ p.now) : p.endDueTrain c = p.endTrain c := by
  obtain ⟨n, v, _⟩ := t
  subst hg
  simp only [Part.endDueTrain, ht, if_pos hd]

/-! ### The begin of a pulse -/

theorem exec_pulseAssert {s : State} {c : Fin 6} (hr : s.inReset = false) (hp : s.pins.pulse[c] = false) (ms : Nat) :
    exec (.pulseAssert c ms) s
      = .next { s with toPart := ((((s.toPart.advance ms).setPulsePin c true).endDueTrain c).pulseBegins c) } := by
  rw [exec_running (c := .pulseAssert c ms) hr nofun]
  simp only [runOf, Part.pulseRises, hp, Bool.false_eq_true, if_false, Part.setPulsePin_inReset, Part.advance_inReset, hr]

/-- A pulse that begins on a channel with no open train (R108). -/
theorem Part.pulseBegins_noTrain {p : Part} {c : Fin 6} (ht : p.pay.chans[c].train = none) :
    p.pulseBegins c = p.modChan c fun ch => { ch with pulse := some { since := p.now, jammer := false } } := by
  simp only [Part.pulseBegins, Part.modChan, ht, Option.map_none]

/-! ### The end of a pulse -/

theorem exec_pulseEnd {s : State} {c : Fin 6} {u : Pulse} (hr : s.inReset = false) (hp : s.pins.pulse[c] = true)
    (hu : s.pay.chans[c].pulse = some u) (ms : Nat) :
    exec (.pulseEnd c ms) s = .next { s with toPart :=
      (((s.toPart.advance ms).setPulsePin c false).pulseOver c).classify c (max s.now ms - u.since) u.jammer } := by
  rw [exec_running (c := .pulseEnd c ms) hr nofun]
  simp only [runOf, Part.pulseFalls, hp, if_true, Part.setPulsePin_inReset, Part.advance_inReset, hr, Bool.false_eq_true,
    if_false, Part.setPulsePin_pay, Part.advance_pay, hu]
  rfl

section
variable {p : Part} {c : Fin 6} {w : Nat} (jammer : Bool)

/-- A pulse below the min width is noise (R109, R110). -/
theorem Part.classify_noise (he : p.pay.table[c].enabled = true) (hj : p.pay.chans[c].jammed = false)
    (lo : w < p.pay.table[c].minWidth) (hi : w ≤ p.pay.table[c].maxWidth) :
    p.classify c w jammer = p.capture .noisePulse := by
  simp only [Part.classify, he, hj, Bool.not_false, Bool.and_self, if_true, if_neg (Nat.not_lt.mpr hi), if_pos lo]

/-- A pulse from the min to the max width is valid (R109). -/
theorem Part.classify_valid (he : p.pay.table[c].enabled = true) (hj : p.pay.chans[c].jammed = false)
    (lo : p.pay.table[c].minWidth ≤ w) (hi : w ≤ p.pay.table[c].maxWidth) : p.classify c w jammer = p.validPulse c := by
  simp only [Part.classify, he, hj, Bool.not_false, Bool.and_self, if_true, if_neg (Nat.not_lt.mpr hi),
    if_neg (Nat.not_lt.mpr lo)]

/-- A pulse of a disabled or JAMMED channel counts nothing (R110). -/
theorem Part.classify_uncounted (h : p.pay.table[c].enabled = false ∨ p.pay.chans[c].jammed = true) :
    p.classify c w jammer = if jammer then p else p.capture .uncountedPulse := by
  have idle : (p.pay.table[c].enabled && !p.pay.chans[c].jammed) = false := by
    rcases h with h | h
    · rw [h, Bool.false_and]
    · rw [h, Bool.not_true, Bool.and_false]
  simp only [Part.classify, idle, Bool.false_eq_true, if_false]
end

/-! ### The wake of a valid pulse -/

/-- The pulse source asks to wake after what the pulse made of the state (R24, R26, R29). -/
theorem State.pulseWakes_of {s t : State} (hm : t.svc.mode = s.svc.mode) (hq : t.svc.request = s.svc.request)
    (he : t.svc.enable = s.svc.enable) (engines : ∀ e, t.eng e = s.eng e) (release : t.ord.release = s.ord.release) :
    s.pulseWakes t (.next { t with toPart := t.toPart.raiseWake .pulse }) := by
  have flags : t.svc.asked .pulse = { t.svc with request := s.svc.request ||| 16 } := by rw [← hq]; rfl
  have arises : (s.svc.enable.getLsbD 4 = true ∧ s.svc.request.getLsbD 4 = false) ↔ t.svc.arises .pulse := by
    rw [← he, ← hq]; rfl
  unfold State.pulseWakes
  intro asked ar
  have hasked : asked = { t with svc := t.svc.asked .pulse } := by rw [flags]
  have har : ar ↔ t.svc.arises .pulse := arises
  refine ⟨fun h => ?_, fun h hp => ?_, fun h hd => ?_⟩
  · rw [Part.raiseWake_quiet .pulse (by rwa [← har, hm]), hasked]
  · rw [Part.raiseWake_endsGrace .pulse (har.mp h) (hm.trans hp), hasked]
  · rw [Part.raiseWake_wakes .pulse (har.mp h) (by rwa [hm]) rfl]
    let q : Part := { t.toPart with svc := t.svc.asked .pulse }
    change ∃ u, Host.Outcome.next { t with toPart := q.wakeToLive } = .next u ∧ _
    have woken (u : State) (hu : u.toPart = q.wakeToLive) : u.wokenFrom asked := by
      rw [hasked]
      exact State.wokenFrom_of hu
    have fixed := q.wakeToLive_fixed
    have captures := q.wakeToLive_captures.2
    have quiet := @Part.wakeToLive_quiet q
    generalize q.wakeToLive = p at fixed captures quiet woken
    refine ⟨_, rfl, woken { t with toPart := p } rfl, captures, congrArg Fixed.now fixed, congrArg Fixed.pins fixed,
      fun hqueue hrel => ?_⟩
    exact ((quiet fun e => (congrArg Engine.queue (engines e)).trans (hqueue e)).2 (release.trans hrel)).2

end Sys2Proof.Machine
end

section
/-! PROOFS. Pulses: their begin, their classes and the credit of a coin (R108 to R111, R114, R115). -/

set_option Elab.async false

open Sys2Proof Sys2Proof.Machine

namespace Sys2Proof.Machine

/-- A part that answers a command is the part of the state that the command leaves. -/
theorem next_eq {s t : State} {p : Part} (hp : p = t.toPart) (hn : s.pending = t.pending) :
    (Host.Outcome.next { s with toPart := p } : Host.Outcome State Fault Refusal) = .next t := by
  subst hp
  rw [hn]

/-- The wake of a valid pulse after a posting (R24, R26, R29). -/
theorem State.pulseWakes_posted {s t : State} (svc : t.svc = s.svc) (engines : ∀ e, t.eng e = s.eng e)
    (release : t.ord.release = s.ord.release) (c : Fin 6) (amount : Nat) :
    s.pulseWakes (postedState t c amount)
      (.next { postedState t c amount with toPart := (postedState t c amount).toPart.raiseWake .pulse }) := by
  have frame := (t.toPart.posted_from c amount).frame
  rw [postedState_eq]
  generalize t.toPart.posted c amount = q at frame
  refine State.pulseWakes_of (t := { t with toPart := q }) ?_ ?_ ?_ (fun e => ?_) ?_
  · exact (congrArg (fun q : Part => q.svc.mode) frame).trans (by rw [svc])
  · exact (congrArg (fun q : Part => q.svc.request) frame).trans (by rw [svc])
  · exact (congrArg (fun q : Part => q.svc.enable) frame).trans (by rw [svc])
  · refine (congrArg (fun q : Part => q.eng e) frame).trans (Eq.trans ?_ (engines e))
    cases e <;> rfl
  · exact (congrArg (fun q : Part => q.ord.release) frame).trans release

/-- Settles O43: the begin of a pulse by what its channel's train has due, and its end by the class of its width. -/
theorem pulsesAreClassified : Obligations.PulsesAreClassified := by
  unfold Obligations.PulsesAreClassified
  intro s c ms hr now ch e at_ begun
  refine ⟨fun hp => ⟨fun early => ?_, fun t g ht hg due hw => ?_⟩, fun u hp hu => ?_⟩
  · rw [exec_pulseAssert hr hp, Part.endDueTrain_open (p := (s.toPart.advance ms).setPulsePin c true) early]
    rfl
  · intro posted
    let q : Part := (s.toPart.advance ms).setPulsePin c true
    let ended : Part := q.modChan c fun ch => { ch with train := none }
    have hposted : posted = { at_ true { ch with train := none } with toPart := ended.posted c (t.n * t.value) } :=
      postedState_eq _ _ _
    obtain ⟨frame, channel⟩ := ended.posted_from c (t.n * t.value)
    rw [exec_pulseAssert hr hp, Part.endDueTrain_due (p := q) ht hg due, Part.endTrain_eq (p := q) hw ht, hposted]
    generalize ended.posted c (t.n * t.value) = r at frame channel
    have gone : r.pay.chans[c].train = none := by
      rw [channel]
      exact congrArg Channel.train (Vector.getElem_set_self _)
    have time : r.now = now := congrArg Part.now frame
    rw [Part.pulseBegins_noTrain gone, time]
    rfl
  · intro w passed
    have hpassed : ((s.toPart.advance ms).setPulsePin c false).pulseOver c = passed.toPart := rfl
    have table : passed.pay.table[c] = e := rfl
    have own : passed.pay.chans[c]
        = { ch with pulse := none, train := ch.train.map fun t => { t with gapSince := some now } } := Vector.getElem_set_self _
    have jammed : passed.pay.chans[c].jammed = ch.jammed := by rw [own]
    rw [exec_pulseEnd hr hp hu, hpassed]
    refine ⟨fun he hj lo hi => ?_, fun h hu => ?_, fun h hu => ?_, fun he hj lo hi hc hw => ?_⟩
    · rw [Part.classify_noise (p := passed.toPart) u.jammer he (jammed.trans hj) lo hi]
      rfl
    · rw [Part.classify_uncounted (p := passed.toPart) u.jammer (by rwa [table, jammed]), hu]
      rfl
    · rw [Part.classify_uncounted (p := passed.toPart) u.jammer (by rwa [table, jammed]), hu]
      rfl
    · rw [Part.classify_valid (p := passed.toPart) u.jammer he (jammed.trans hj) lo hi]
      simp only [Part.validPulse, table, hc]
      rw [Part.post_eq (p := passed.toPart) hw]
      have wakes := State.pulseWakes_posted (s := s) (t := passed) rfl (fun _ => rfl) rfl c e.value
      rwa [postedState_eq] at wakes ⊢

end Sys2Proof.Machine
end

section
/-! PROOFS. Bill trains and jams (R107 to R109, R112, R113): what ends a train, and what jams a channel. -/

set_option Elab.async false

open Sys2Proof Sys2Proof.Machine

namespace Sys2Proof.Machine

/-! ### A channel's record -/

theorem Part.modChan_own (p : Part) (c : Fin 6) (f : Channel → Channel) : (p.modChan c f).pay.chans[c] = f p.pay.chans[c] :=
  Vector.getElem_set_self _

theorem Part.modChan_modChan (p : Part) (c : Fin 6) (f g : Channel → Channel) :
    (p.modChan c f).modChan c g = p.modChan c fun ch => g (f ch) := by
  have own := p.modChan_own c f
  unfold Part.modChan at own ⊢
  rw [own, Vector.set_set]

/-- A change of a channel's record depends on what it makes of that record only. -/
theorem Part.modChan_congr {p : Part} {c : Fin 6} {f g : Channel → Channel} (h : f p.pay.chans[c] = g p.pay.chans[c]) :
    p.modChan c f = p.modChan c g := by
  rw [Part.modChan, h]
  rfl

/-! ### Jams -/

/-- A pulse has jammed a channel whose train has posted (R109, R110). -/
def Part.jammedBy (p : Part) (c : Fin 6) (u : Pulse) : Part :=
  (p.modChan c fun ch => { ch with jammed := true, pulse := some { u with jammer := true } }).capture .channelJam

theorem jammedState_eq (s : State) (c : Fin 6) (u : Pulse) :
    jammedState s c u = { s with toPart := s.toPart.jammedBy c u } := rfl

theorem Part.jammedBy_own (p : Part) (c : Fin 6) (u : Pulse) : (p.jammedBy c u).pay.chans[c]
    = { p.pay.chans[c] with jammed := true, pulse := some { u with jammer := true } } :=
  p.modChan_own c fun ch => { ch with jammed := true, pulse := some { u with jammer := true } }

/-- A pulse that jams a channel, once an open train has ended and posted (R109, R113). -/
theorem Part.jamByPulse_eq {p q : Part} {c : Fin 6} {u : Pulse} (ended : p.endTrain c = q)
    (hu : q.pay.chans[c].pulse = some u) :
    p.jamByPulse c = q.jammedBy c u := by
  rw [Part.jamByPulse, ended, Part.jamChannel, Part.modChan_modChan]
  exact congrArg (Part.capture · .channelJam) (Part.modChan_congr (by rw [hu]; rfl))

/-- The part with a channel's train gone. -/
def Part.trainless (p : Part) (c : Fin 6) : Part := p.modChan c fun ch => { ch with train := none }

theorem Part.trainless_own (p : Part) (c : Fin 6) : (p.trainless c).pay.chans[c] = { p.pay.chans[c] with train := none } :=
  p.modChan_own c _

/-- The posting of an ended train keeps the pulse of its channel (R108), and leaves no train. -/
theorem Part.posted_trainless (p : Part) (c : Fin 6) (amount : Nat) :
    ((p.trainless c).posted c amount).pay.chans[c].pulse = p.pay.chans[c].pulse
      ∧ ((p.trainless c).posted c amount).pay.chans[c].train = none := by
  rw [(Part.posted_from _ c amount).channel, Part.trainless_own]
  exact ⟨rfl, rfl⟩

theorem exec_pulseJam {s : State} {c : Fin 6} {u : Pulse} (hr : s.inReset = false) (he : s.pay.table[c].enabled = true)
    (hj : s.pay.chans[c].jammed = false) (hu : s.pay.chans[c].pulse = some u) : exec (.pulseJam c) s
      = .next { s with toPart := (s.toPart.advance (u.since + s.pay.table[c].maxWidth + 1)).jamByPulse c } := by
  rw [exec_running (c := .pulseJam c) hr nofun]
  simp only [runOf, Part.pulseJams, he, hj, hu, Bool.not_false, Bool.and_self]

theorem exec_trainGapExpiry {s : State} {c : Fin 6} {t : Train} {g : Nat} (hr : s.inReset = false)
    (ht : s.pay.chans[c].train = some t) (hg : t.gapSince = some g) : exec (.trainGapExpiry c) s
      = .next { s with toPart := (s.toPart.advance (g + s.pay.table[c].gap)).endTrain c } := by
  obtain ⟨n, v, _⟩ := t
  subst hg
  rw [exec_running (c := .trainGapExpiry c) hr nofun]
  simp only [runOf, Part.gapExpires, ht]

/-! ### Bill pulses -/

theorem Part.billPulse_opens {p : Part} {c : Fin 6} (ht : p.pay.chans[c].train = none) (value : Nat) :
    p.billPulse c value
      = p.modChan c fun ch => { ch with train := some { n := 1, value := value, gapSince := some p.now } } := by
  simp only [Part.billPulse, ht]

theorem Part.billPulse_counts {p : Part} {c : Fin 6} {t : Train} (ht : p.pay.chans[c].train = some t) (value : Nat)
    (h : t.n + 1 < 100) : p.billPulse c value = p.modChan c fun ch => { ch with train := some { t with n := t.n + 1 } } := by
  simp only [Part.billPulse, ht, if_neg (show ¬ Config.trainTop ≤ t.n + 1 from Nat.not_le.mpr h)]

/-- The hundredth pulse ends its train (R112). -/
theorem Part.billPulse_ends {p : Part} {c : Fin 6} {t : Train} (hw : p.walksIdle) (ht : p.pay.chans[c].train = some t)
    (value : Nat) (h : t.n + 1 = 100) :
    p.billPulse c value = (p.modChan c fun ch => { ch with train := none }).posted c (100 * t.value) := by
  let q := p.modChan c fun ch => { ch with train := some { t with n := t.n + 1 } }
  have open' : q.pay.chans[c].train = some { t with n := t.n + 1 } := by rw [Part.modChan_own]
  simp only [Part.billPulse, ht, if_pos (show Config.trainTop ≤ t.n + 1 from h.ge)]
  rw [Part.endTrain_eq (p := q) hw open', Part.modChan_modChan, h]

/-- A pulse of a bill channel that is valid, once it is over (R109, R112). -/
theorem exec_pulseEnd_bill {s : State} {c : Fin 6} {u : Pulse} {ms : Nat} (hr : s.inReset = false)
    (hp : s.pins.pulse[c] = true) (hu : s.pay.chans[c].pulse = some u) (he : s.pay.table[c].enabled = true)
    (hj : s.pay.chans[c].jammed = false) (hg : s.pay.table[c].group = .bill)
    (lo : s.pay.table[c].minWidth ≤ max s.now ms - u.since) (hi : max s.now ms - u.since ≤ s.pay.table[c].maxWidth) :
    exec (.pulseEnd c ms) s = .next { s with toPart :=
      ((((s.toPart.advance ms).setPulsePin c false).pulseOver c).billPulse c s.pay.table[c].value).raiseWake .pulse } := by
  let p := ((s.toPart.advance ms).setPulsePin c false).pulseOver c
  have own := ((s.toPart.advance ms).setPulsePin c false).modChan_own c fun ch =>
    { ch with pulse := none, train := ch.train.map fun t => { t with gapSince := some (max s.now ms) } }
  have jammed : p.pay.chans[c].jammed = false := (congrArg Channel.jammed own).trans hj
  have group : p.pay.table[c].group = .bill := hg
  rw [exec_pulseEnd hr hp hu, Part.classify_valid (p := p) u.jammer he jammed lo hi]
  simp only [Part.validPulse, group]
  rfl

end Sys2Proof.Machine
end

section
/-! PROOFS. What is due on a channel at a write of its entry (R109, R112, R113). -/

set_option Elab.async false

open Sys2Proof Sys2Proof.Machine

namespace Sys2Proof.Machine

/-- A pulse under way is past its channel's jam point by the entry in force (R109). -/
structure Part.JamDue (p : Part) (c : Fin 6) (u : Pulse) : Prop where
  enabled : p.pay.table[c].enabled = true
  normal : p.pay.chans[c].jammed = false
  pulse : p.pay.chans[c].pulse = some u
  past : u.since + p.pay.table[c].maxWidth < p.now

/-- An open train's gap timer has reached the train gap by the entry in force (R112). -/
structure Part.EndDue (p : Part) (c : Fin 6) (t : Train) (g : Nat) : Prop where
  train : p.pay.chans[c].train = some t
  gap : t.gapSince = some g
  past : g + p.pay.table[c].gap ≤ p.now

theorem Part.endDueTrain_rests {p : Part} {c : Fin 6} (h : ∀ t g, ¬ p.EndDue c t g) : p.endDueTrain c = p :=
  Part.endDueTrain_open fun t g ht hg => Nat.lt_of_not_le fun past => h t g ⟨ht, hg, past⟩

theorem Part.channelDue_noJam {p : Part} {c : Fin 6} (h : ∀ u, ¬ p.JamDue c u) : p.channelDue c = p.endDueTrain c := by
  unfold Part.channelDue
  dsimp only
  split
  next u act hu =>
    obtain ⟨enabled, normal⟩ := Bool.and_eq_true_iff.mp act
    rw [if_neg fun past => h u ⟨enabled, by simpa using normal, hu, past⟩]
  next => rfl

theorem Part.channelDue_rests {p : Part} {c : Fin 6} (hj : ∀ u, ¬ p.JamDue c u) (he : ∀ t g, ¬ p.EndDue c t g) :
    p.channelDue c = p := by
  rw [Part.channelDue_noJam hj, Part.endDueTrain_rests he]

theorem Part.channelDue_ends {p : Part} {c : Fin 6} {t : Train} {g : Nat} (hj : ∀ u, ¬ p.JamDue c u) (h : p.EndDue c t g) :
    p.channelDue c = p.endTrain c := by
  rw [Part.channelDue_noJam hj, Part.endDueTrain_due h.train h.gap h.past]

/-- A pulse past its jam point jams, once an open train has posted (R109, R113). -/
theorem Part.channelDue_jams {p q : Part} {c : Fin 6} {u : Pulse} (h : p.JamDue c u) (ended : p.endTrain c = q)
    (gone : q.pay.chans[c].train = none) (hu : q.pay.chans[c].pulse = some u) : p.channelDue c = q.jammedBy c u := by
  have act : (p.pay.table[c].enabled && !p.pay.chans[c].jammed) = true := by rw [h.enabled, h.normal]; rfl
  simp only [Part.channelDue, act, h.pulse, if_pos h.past]
  rw [Part.jamByPulse_eq ended hu, Part.endDueTrain_rests]
  intro t g due
  have train := due.train
  rw [Part.jammedBy_own] at train
  exact nomatch gone.symm.trans train

/-! ### A channel's new entry -/

/-- The part with a channel's entry replaced (R13, R107). -/
def Part.withEntry (p : Part) (c : Fin 6) (e : ChannelEntry) : Part :=
  { p with pay := { p.pay with table := p.pay.table.set c e } }

theorem Part.withEntry_own (p : Part) (c : Fin 6) (e : ChannelEntry) : (p.withEntry c e).pay.table[c] = e :=
  Vector.getElem_set_self _

/-- A write of one channel's entry replaces it (R13). -/
theorem Part.storeTable_channel (p : Part) (c : Fin 6) {entry : List Byte} (hl : entry.length = 10) :
    p.storeTable .channels c.val 1 entry = p.withEntry c (ChannelEntry.ofBytes entry) := by
  have table : (p.pay.table.mapFinIdx fun i x _ =>
      if c.val ≤ i ∧ i < c.val + 1 then ChannelEntry.ofBytes (entryBytes .channels entry (i - c.val)) else x)
      = p.pay.table.set c (ChannelEntry.ofBytes entry) := by
    refine Vector.ext fun i hi => ?_
    rw [Vector.getElem_mapFinIdx]
    by_cases h : c.val = i
    · subst h
      rw [if_pos (by omega), Nat.sub_self, entryBytes_only (T := .channels) hl, Vector.getElem_set_self]
    · rw [if_neg (by omega), Vector.getElem_set_ne _ _ h]
  simp only [Part.storeTable, table]
  rfl

/-- A posting does not look at the LINK and the channels' entries (R114). -/
theorem Part.posted_retabled (p : Part) (l : Link) (table : Vector ChannelEntry 6) (c : Fin 6) (amount : Nat) :
    ({ p with lnk := l, pay := { p.pay with table := table } } : Part).posted c amount
      = { p.posted c amount with lnk := l, pay := { (p.posted c amount).pay with table := table } } := by
  let q : Part := { p with lnk := l, pay := { p.pay with table := table } }
  unfold Part.posted
  cases p.posting amount with
  | refused full =>
    rw [postedState_refused c (s := { toPart := p, pending := [] }) full,
      postedState_refused c (s := { toPart := q, pending := [] }) full]
    rfl
  | credited room k o focus owed =>
    rw [postedState_credited c (s := { toPart := p, pending := [] }) room focus owed,
      postedState_credited c (s := { toPart := q, pending := [] }) room focus owed]
    rfl
  | pooled room none =>
    rw [postedState_pooled c (s := { toPart := p, pending := [] }) room none,
      postedState_pooled c (s := { toPart := q, pending := [] }) room none]

theorem Part.posted_withEntry (p : Part) (c : Fin 6) (e : ChannelEntry) (amount : Nat) :
    (p.withEntry c e).posted c amount = (p.posted c amount).withEntry c e := by
  have retabled := p.posted_retabled p.lnk (p.pay.table.set c e) c amount
  have frame := (p.posted_from c amount).frame
  generalize p.posted c amount = q at retabled frame ⊢
  refine retabled.trans ?_
  rw [frame]
  rfl

/-- The part with its LINK as given. -/
def Part.withLink (p : Part) (l : Link) : Part := { p with lnk := l }

theorem Part.posted_withLink (p : Part) (l : Link) (c : Fin 6) (amount : Nat) :
    (p.withLink l).posted c amount = (p.posted c amount).withLink l := by
  have retabled := p.posted_retabled l p.pay.table c amount
  have frame := (p.posted_from c amount).frame
  generalize p.posted c amount = q at retabled frame ⊢
  refine retabled.trans ?_
  rw [frame]
  rfl

/-! ### What is due by the entry before and by the new one -/

theorem Part.jamDue_either_iff {p : Part} {c : Fin 6} {e : ChannelEntry} {u : Pulse} :
    p.JamDue c u ∨ (p.withEntry c e).JamDue c u
      ↔ p.pay.chans[c].jammed = false ∧ p.pay.chans[c].pulse = some u
        ∧ (p.pay.table[c].enabled = true ∧ u.since + p.pay.table[c].maxWidth < p.now
          ∨ e.enabled = true ∧ u.since + e.maxWidth < p.now) := by
  have own := p.withEntry_own c e
  constructor
  · rintro (⟨enabled, normal, pulse, past⟩ | ⟨enabled, normal, pulse, past⟩)
    · exact ⟨normal, pulse, .inl ⟨enabled, past⟩⟩
    · rw [own] at enabled past
      exact ⟨normal, pulse, .inr ⟨enabled, past⟩⟩
  · rintro ⟨normal, pulse, ⟨enabled, past⟩ | ⟨enabled, past⟩⟩
    · exact .inl ⟨enabled, normal, pulse, past⟩
    · exact .inr ⟨by rw [own]; exact enabled, normal, pulse, by rw [own]; exact past⟩

theorem Part.endDue_either_iff {p : Part} {c : Fin 6} {e : ChannelEntry} {t : Train} {g : Nat} :
    p.EndDue c t g ∨ (p.withEntry c e).EndDue c t g
      ↔ p.pay.chans[c].train = some t ∧ t.gapSince = some g
        ∧ (g + p.pay.table[c].gap ≤ p.now ∨ g + e.gap ≤ p.now) := by
  have own := p.withEntry_own c e
  constructor
  · rintro (⟨train, gap, past⟩ | ⟨train, gap, past⟩)
    · exact ⟨train, gap, .inl past⟩
    · rw [own] at past
      exact ⟨train, gap, .inr past⟩
  · rintro ⟨train, gap, past | past⟩
    · exact .inl ⟨train, gap, past⟩
    · exact .inr ⟨train, gap, by rw [own]; exact past⟩

/-- What is due on a channel by its entry has happened, then its entry is replaced, and what is due by the new one happens
(R109, R112). -/
def Part.rewritten (p : Part) (c : Fin 6) (e : ChannelEntry) : Part := ((p.channelDue c).withEntry c e).channelDue c

section
variable {p : Part} {c : Fin 6} {e : ChannelEntry}
  (apart : ∀ u t g, p.pay.chans[c].pulse = some u → p.pay.chans[c].train = some t → t.gapSince ≠ some g)

theorem Part.rewritten_rests (hj : ∀ u, ¬ (p.JamDue c u ∨ (p.withEntry c e).JamDue c u))
    (he : ∀ t g, ¬ (p.EndDue c t g ∨ (p.withEntry c e).EndDue c t g)) : p.rewritten c e = p.withEntry c e := by
  rw [Part.rewritten, Part.channelDue_rests (fun u h => hj u (.inl h)) fun t g h => he t g (.inl h),
    Part.channelDue_rests (fun u h => hj u (.inr h)) fun t g h => he t g (.inr h)]

include apart

/-- A train whose gap is past by either entry ends; beside a pulse no gap timer runs (R108, R112). -/
theorem Part.rewritten_ends (hw : p.walksIdle) (hj : ∀ u, ¬ (p.JamDue c u ∨ (p.withEntry c e).JamDue c u)) {t : Train}
    {g : Nat} (he : p.EndDue c t g ∨ (p.withEntry c e).EndDue c t g) :
    p.rewritten c e = ((p.withEntry c e).trainless c).posted c (t.n * t.value) := by
  obtain ⟨ht, hg⟩ : p.pay.chans[c].train = some t ∧ t.gapSince = some g :=
    he.elim (fun h => ⟨h.train, h.gap⟩) fun h => ⟨h.train, h.gap⟩
  have noPulse : p.pay.chans[c].pulse = none := by
    cases hu : p.pay.chans[c].pulse with
    | none => rfl
    | some u => exact absurd hg (apart u t g hu ht)
  have after := Part.endTrain_eq (p := p.withEntry c e) hw ht
  by_cases due : p.EndDue c t g
  · obtain ⟨pulse, train⟩ := p.posted_trainless c (t.n * t.value)
    rw [Part.rewritten, Part.channelDue_ends (fun u h => hj u (.inl h)) due, Part.endTrain_eq hw ht]
    refine (Part.channelDue_quiet (p := ((p.trainless c).posted c (t.n * t.value)).withEntry c e)
      (pulse.trans noPulse) train).trans ?_
    exact ((p.trainless c).posted_withEntry c e _).symm
  · have stays : ∀ t g, ¬ p.EndDue c t g := by
      intro t' g' h
      obtain rfl : t' = t := Option.some.inj (h.train.symm.trans ht)
      obtain rfl : g' = g := Option.some.inj (h.gap.symm.trans hg)
      exact due h
    rw [Part.rewritten, Part.channelDue_rests (fun u h => hj u (.inl h)) stays,
      Part.channelDue_ends (fun u h => hj u (.inr h)) (he.resolve_left due), after]
    rfl

/-- A pulse past its jam point by either entry jams, its train having posted (R109, R113). -/
theorem Part.rewritten_jams {u : Pulse} {q : Part} (hj : p.JamDue c u ∨ (p.withEntry c e).JamDue c u)
    (ended : p.endTrain c = q) (ended' : (p.withEntry c e).endTrain c = q.withEntry c e)
    (gone : q.pay.chans[c].train = none) (hu : q.pay.chans[c].pulse = some u) :
    p.rewritten c e = (q.withEntry c e).jammedBy c u := by
  have pulse : p.pay.chans[c].pulse = some u := hj.elim Part.JamDue.pulse Part.JamDue.pulse
  by_cases due : p.JamDue c u
  · rw [Part.rewritten, Part.channelDue_jams due ended gone hu]
    refine Part.channelDue_rests (p := (q.withEntry c e).jammedBy c u) (fun v h => ?_) fun t g h => ?_
    · have normal := h.normal
      rw [Part.jammedBy_own] at normal
      exact nomatch normal
    · have train := h.train
      rw [Part.jammedBy_own] at train
      exact nomatch gone.symm.trans train
  · have stays : p.channelDue c = p := by
      refine Part.channelDue_rests (fun v h => ?_) fun t g h => apart u t g pulse h.train h.gap
      obtain rfl : v = u := Option.some.inj (h.pulse.symm.trans pulse)
      exact due h
    rw [Part.rewritten, stays, Part.channelDue_jams (hj.resolve_left due) ended' gone hu]

theorem Part.rewritten_jams_noTrain {u : Pulse} (hj : p.JamDue c u ∨ (p.withEntry c e).JamDue c u)
    (ht : p.pay.chans[c].train = none) : p.rewritten c e = (p.withEntry c e).jammedBy c u :=
  Part.rewritten_jams apart hj (Part.endTrain_none ht) (Part.endTrain_none (p := p.withEntry c e) ht) ht
    (hj.elim Part.JamDue.pulse Part.JamDue.pulse)

theorem Part.rewritten_jams_train {u : Pulse} {t : Train} (hw : p.walksIdle)
    (hj : p.JamDue c u ∨ (p.withEntry c e).JamDue c u) (ht : p.pay.chans[c].train = some t) :
    p.rewritten c e = (((p.withEntry c e).trainless c).posted c (t.n * t.value)).jammedBy c u := by
  obtain ⟨pulse, train⟩ := p.posted_trainless c (t.n * t.value)
  have commutes := (p.trainless c).posted_withEntry c e (t.n * t.value)
  rw [Part.rewritten_jams apart hj (Part.endTrain_eq hw ht) (.trans (Part.endTrain_eq (p := p.withEntry c e) hw ht) commutes)
    train (pulse.trans (hj.elim Part.JamDue.pulse Part.JamDue.pulse))]
  exact congrArg (Part.jammedBy · c u) commutes.symm
end

end Sys2Proof.Machine
end

section
/-! PROOFS. The write of a channel's entry as a request (R13), and bill trains and jams as a whole (R107 to R115). -/

set_option Elab.async false

open Sys2Proof Sys2Proof.Machine

namespace Sys2Proof.Machine

/-- The entry that the bytes of a request describe, its group being one of the two (R107). -/
theorem ChannelEntry.ofBytes_eq {entry : List Byte} (h : u8 entry 1 ≤ 1) : ChannelEntry.ofBytes entry
    = { enabled := u8 entry 0 == 1, group := if u8 entry 1 = 0 then .coin else .bill, value := u16 entry 2
        minWidth := u16 entry 4, maxWidth := u16 entry 6, gap := u16 entry 8 } := by
  have group : (if u8 entry 1 = 1 then Group.bill else .coin) = if u8 entry 1 = 0 then .coin else .bill := by
    by_cases zero : u8 entry 1 = 0
    · rw [if_pos zero, if_neg (by omega)]
    · rw [if_neg zero, if_pos (by omega)]
  rw [ChannelEntry.ofBytes, group]

/-- The channels that a write of one entry names. -/
theorem namedChannel (c : Fin 6) : (List.finRange 6).filter (fun d => c.val ≤ d.val && d.val < c.val + 1) = [c] := by
  revert c
  decide

theorem Part.writeTable_channel (p : Part) (c : Fin 6) (ms : Nat) {entry : List Byte} (hl : entry.length = 10) :
    p.writeTable .channels ms c.val 1 entry = (p.advance ms).rewritten c (ChannelEntry.ofBytes entry) := by
  simp only [Part.writeTable, namedChannel, List.foldr_cons, List.foldr_nil, Part.insertByDue, List.foldl_cons, List.foldl_nil,
    Part.storeTable_channel _ c hl, Part.rewritten]

/-- TABLE_WRITE of one channel's entry (R13): the request's LINK, and what the write makes of the part. -/
theorem exec_writeChannel {s : State} {c : Fin 6} {ms tag : Nat} {entry : List Byte} {rest : List CtrlEntry} {r : Part}
    (h : s.Asks 0x01 tag (0x06 :: 0x00 :: (le2 c.val ++ le2 1 ++ entry)) rest) (hm : s.svc.mode.serving = true)
    (hl : entry.length = 10) (rule : entryRule .channels c.val entry)
    (hr : ((s.toPart.dequeue rest).advance ms).rewritten c (ChannelEntry.ofBytes entry) = r)
    (lnk : r.lnk = (s.toPart.dequeue rest).lnk) : exec (.tableWrite ms) s
      = .next { s with toPart := r.withLink (s.replying rest tag 0x01 .ok (s.tableSlice .channels c.val 1)).lnk } := by
  let q := s.toPart.dequeue rest
  let args : List Byte := 0x06 :: 0x00 :: (le2 c.val ++ le2 1 ++ entry)
  have first : u16 args 2 = c.val :=
    (congrArg (u16 · 2) (by simp [args])).trans (u16_first (by omega) 0x06 0x00 (le2 1 ++ entry))
  have count : u16 args 4 = 1 := u16_count (by omega) 0x06 0x00 entry
  have drop : args.drop 6 = entry := rfl
  have done := Part.tableWrite_done (p := q) (ms := ms) (args := args) (T := .channels) rfl (by rw [count])
    (by rw [count, drop, hl]; rfl) (by rw [first, count]; exact c.isLt) (fun j hj => ?_)
    (Part.tableHeld_none nofun nofun)
  · rw [first, count, drop, Part.writeTable_channel q c ms hl, hr] at done
    refine (State.serve_admitted h hm (lengthOk := fun n => decide (6 ≤ n)) (admits := admitAll) rfl rfl).trans ?_
    rw [show (s.toPart.dequeue rest).tableWrite ms _ = _ from done]
    simp only [Part.hold, Served.done, lnk]
    rfl
  · rw [count] at hj
    obtain rfl : j = 0 := by omega
    rw [first, drop, entryBytes_only (T := .channels) hl]
    exact rule

theorem Part.posted_lnk (p : Part) (c : Fin 6) (amount : Nat) : (p.posted c amount).lnk = p.lnk := by
  rw [(p.posted_from c amount).frame]

/-- A posting, and a jam after it, in a state whose LINK holds the reply of a request (R10, R114). -/
theorem postedState_withLink {s t : State} {p : Part} {l : Link} (ht : t = { s with toPart := p.withLink l }) (c : Fin 6)
    (amount : Nat) : postedState t c amount = { s with toPart := (p.posted c amount).withLink l } := by
  rw [postedState_eq, ht, ← Part.posted_withLink]

theorem jammedState_withLink {s t : State} {p : Part} {l : Link} (ht : t = { s with toPart := p.withLink l }) (c : Fin 6)
    (u : Pulse) : jammedState t c u = { s with toPart := (p.jammedBy c u).withLink l } := by
  rw [jammedState_eq, ht]
  rfl

end Sys2Proof.Machine
end

section
/-! PROOFS. Bill trains and jams as a whole (R107 to R109, R112 to R115). -/

set_option Elab.async false

open Sys2Proof Sys2Proof.Machine

namespace Sys2Proof.Machine

/-- Settles O44: a train's pulses and its three ends, and a write by what is due on the channel by either entry. -/
theorem trainsPostAtTheirEnd : Obligations.TrainsPostAtTheirEnd := by
  unfold Obligations.TrainsPostAtTheirEnd
  refine ⟨fun s c ms hr release => ?_, fun s c ms tag entry rest asks hm release hl rule apart => ?_⟩
  · intro ch e
    refine ⟨fun u hp hu he hj hg => ?_, fun t g ht hg => ?_, fun u he hj hu => ?_⟩
    · intro now w after leaves lo hi
      have run := exec_pulseEnd_bill (ms := ms) hr hp hu he hj hg lo hi
      let p := ((s.toPart.advance ms).setPulsePin c false).pulseOver c
      have own : p.pay.chans[c] = { ch with pulse := none, train := ch.train.map fun t => { t with gapSince := some now } } :=
        Part.modChan_own _ c fun ch => { ch with pulse := none, train := ch.train.map fun t => { t with gapSince := some now } }
      have after_eq (t : Option Train) : (p.modChan c fun ch => { ch with train := t }) = (after t).toPart := by
        exact Part.modChan_modChan _ c (fun ch => { ch with pulse := none, train := ch.train.map fun t =>
          { t with gapSince := some now } }) fun ch => { ch with train := t }
      have counts {t : Train} (h : p.billPulse c e.value = (after (some t)).toPart) : leaves (after (some t)) := by
        show s.pulseWakes _ _
        rw [run, h]
        exact State.pulseWakes_of (t := after (some t)) rfl rfl rfl (fun _ => rfl) rfl
      refine ⟨fun ht => counts ?_, fun t ht => ⟨fun hn => counts ?_, fun hn => ?_⟩⟩
      · rw [Part.billPulse_opens (by rw [own, ht]; rfl), after_eq]
        rfl
      · have train : p.pay.chans[c].train = some { t with gapSince := some now } := by rw [own, ht]; rfl
        rw [Part.billPulse_counts train e.value hn, after_eq]
      · have train : p.pay.chans[c].train = some { t with gapSince := some now } := by rw [own, ht]; rfl
        show s.pulseWakes _ _
        rw [run, Part.billPulse_ends (p := p) (.inl release) train e.value hn, after_eq]
        have wakes := State.pulseWakes_posted (s := s) (t := after none) rfl (fun _ => rfl) rfl c (100 * t.value)
        rwa [postedState_eq] at wakes ⊢
    · rw [exec_trainGapExpiry hr ht hg, Part.endTrain_eq (p := s.toPart.advance _) (.inl release) ht, postedState_eq]
      rfl
    · intro at_
      let p := s.toPart.advance (u.since + e.maxWidth + 1)
      have run := exec_pulseJam hr he hj hu
      refine ⟨fun ht => ?_, fun t ht => ?_⟩
      · rw [run, Part.jamByPulse_eq (p := p) (Part.endTrain_none ht) hu, jammedState_eq]
        have same : { ch with train := none } = ch := by rw [← ht]
        have unchanged : (at_ none).toPart = p := by
          show Part.modChan p c (fun _ => { ch with train := none }) = p
          rw [same]
          exact congrArg (fun v => { p with pay := { p.pay with chans := v } }) (set_self _ c)
        exact next_eq (by rw [unchanged]) rfl
      · rw [run, Part.jamByPulse_eq (p := p) (Part.endTrain_eq (p := p) (.inl release) ht)
          ((p.posted_trainless c _).1.trans hu), jammedState_eq, postedState_eq]
        rfl
  · intro now ch before e pay written done jams ends
    let q := s.toPart.dequeue rest
    let l : Link := (s.replying rest tag 0x01 .ok (s.tableSlice .channels c.val 1)).lnk
    have entryIs : ChannelEntry.ofBytes entry = e := ChannelEntry.ofBytes_eq rule.2.1
    have answers {r : Part} (h : (q.advance ms).rewritten c e = r) (lnk : r.lnk = q.lnk) :
        exec (.tableWrite ms) s = .next { s with toPart := r.withLink l } :=
      exec_writeChannel asks hm hl rule (by rw [entryIs]; exact h) lnk
    have hwritten : written = { s with toPart := ((q.advance ms).withEntry c e).withLink l } := rfl
    have hdone : done = { s with toPart := (((q.advance ms).withEntry c e).trainless c).withLink l } := rfl
    have jams_iff (u : Pulse) : jams u ↔ (q.advance ms).JamDue c u ∨ ((q.advance ms).withEntry c e).JamDue c u :=
      (Part.jamDue_either_iff (p := q.advance ms) (e := e)).symm
    have ends_iff (t : Train) (g : Nat) :
        ends t g ↔ (q.advance ms).EndDue c t g ∨ ((q.advance ms).withEntry c e).EndDue c t g :=
      (Part.endDue_either_iff (p := q.advance ms) (e := e)).symm
    refine ⟨fun u hj ht => ?_, fun u t hj ht => ?_, fun t g hj he => ?_, fun hj he => ?_⟩
    · have jammed := Part.rewritten_jams_noTrain (p := q.advance ms) (e := e) apart ((jams_iff u).mp hj) ht
      rw [jammedState_withLink hwritten]
      exact answers jammed rfl
    · have jammed := Part.rewritten_jams_train (p := q.advance ms) (e := e) apart (.inl release) ((jams_iff u).mp hj) ht
      rw [jammedState_withLink (postedState_withLink hdone c _)]
      exact answers jammed (Part.posted_lnk _ c _)
    · have ended := Part.rewritten_ends (p := q.advance ms) (e := e) apart (.inl release)
        (fun u h => hj u ((jams_iff u).mpr h)) ((ends_iff t g).mp he)
      rw [postedState_withLink hdone]
      exact answers ended (Part.posted_lnk _ c _)
    · have rests := Part.rewritten_rests (p := q.advance ms) (e := e) (fun u h => hj u ((jams_iff u).mpr h))
        fun t g h => he t g ((ends_iff t g).mpr h)
      rw [hwritten]
      exact answers rests rfl

end Sys2Proof.Machine
end

section
/-! PROOFS. The identify of a card (R36 to R41): the settling timer, the answers to its commands, and its five outcomes. -/

set_option Elab.async false

open Sys2Proof Sys2Proof.Machine

namespace Sys2Proof.Machine

/-! ### Responses -/

/-- A response with status OK and the sum of its data is OK (R37). -/
theorem responseStatus_ok (data : List Byte) : responseStatus 0x00 data (sum8 data) = .ok := by
  have sum : sum8 (0x00 :: data) = sum8 data := rfl
  rw [responseStatus, sum, if_pos rfl]
  rfl

/-- A wrong check byte, or a status that is neither OK nor BUSY, makes a response bad (R38). -/
theorem responseStatus_error {status check : Byte} {data : List Byte}
    (h : check ≠ sum8 (status :: data) ∨ (status ≠ 0x00 ∧ status ≠ 0x01)) : responseStatus status data check = .error := by
  rw [responseStatus]
  rcases h with h | ⟨h0, h1⟩
  · rw [if_neg h]
  · rw [cardStatus, if_neg h0, if_neg h1, ite_self]

/-- The three commands of an identify (R39). -/
def CardCmd.identifies (cmd : CardCmd) : Prop := cmd = .resetCard ∨ cmd = .identify ∨ cmd = .select

section
variable {p : Part} {i : Fin 4} {cmd : CardCmd} {arg : Nat} (hp : p.csu.slots[i].bus.phase = .awaiting cmd arg)
  (hc : cmd.identifies)
include hp hc

/-- A command of the identify that awaits its response (R38 to R40), for each reading of the response. -/
theorem Part.identifyResponse_ok {status check : Byte} {data : List Byte} (h : responseStatus status data check = .ok) :
    p.identifyResponse i status data check = p.identifyStep i cmd data := by
  obtain rfl | rfl | rfl := hc <;> simp only [Part.identifyResponse, hp, h]

theorem Part.identifyResponse_busy {status check : Byte} {data : List Byte} (h : responseStatus status data check = .busy) :
    p.identifyResponse i status data check
      = p.modBus i fun b => { b with phase := .retryWait cmd arg, busyRun := none } := by
  obtain rfl | rfl | rfl := hc <;> simp only [Part.identifyResponse, hp, h] <;> rfl

theorem Part.identifyResponse_error {status check : Byte} {data : List Byte}
    (h : responseStatus status data check = .error) : p.identifyResponse i status data check = p.identifyFail i := by
  obtain rfl | rfl | rfl := hc <;> simp only [Part.identifyResponse, hp, h]

/-- No response to a command of the identify within its 100 ms (R38, R40). -/
theorem Part.responseTimeout_identify : p.responseTimeout i = p.identifyFail i := by
  obtain rfl | rfl | rfl := hc <;> simp only [Part.responseTimeout, hp]

end

theorem State.exec_identifyResponse {s : State} (hr : s.inReset = false) (i : Fin 4) (status check : Byte)
    (data : List Byte) : exec (.identifyResponse i status data check) s
      = .next { s with toPart := s.toPart.identifyResponse i status data check } :=
  exec_running (c := .identifyResponse i status data check) hr nofun

/-! ### The identify step by step -/

/-- A failed identify in the terms of the statements (R40). -/
theorem State.identifyFail_eq (s : State) (i : Fin 4) :
    ({ s with toPart := s.toPart.identifyFail i } : State)
      = (s.withSlot i s.csu.slots[i].identifyFailed).captured .slotFault := rfl

/-- The identity that IDENTIFY answers: a capacity of 0 fails the identify, and any other is selected (R39, R40). -/
theorem Part.identifyStep_identify {p : Part} {i : Fin 4} {data : List Byte} {run : IdentifyRun} (hd : data.length = 8)
    (hrun : p.csu.slots[i].identify = some run) :
    p.identifyStep i .identify data = if u32 data 4 = 0 then p.identifyFail i
      else p.modSlot i fun x => { x with
        identify := some { run with read := some { serial := u32 data 0, capacity := u32 data 4 } }
        bus := { x.bus with phase := .awaiting .select (u32 data 0) } } := by
  by_cases hz : u32 data 4 = 0
  · rw [if_pos hz]
    exact if_neg fun h => h.2 hz
  · rw [if_neg hz]
    refine (if_pos ⟨hd, hz⟩).trans ?_
    simp only [Part.sendCard, Part.modBus, Part.modSlot, Vector.set_set, hrun, Option.map_some]
    rw [show (p.csu.slots.set i _)[i] = _ from Vector.getElem_set_self _]

/-- Settles O29: the settling timer by the mode, and each command of the identify by the reading of its response. -/
theorem identifySequence : Obligations.IdentifySequence := by
  unfold Obligations.IdentifySequence
  intro s i hr x sent failed
  have answers := State.exec_identifyResponse hr i
  refine ⟨fun hst ht hd => ?_, fun arg hp => ?_, fun arg data run hp hd hrun => ?_, fun cmd arg hc hp => ⟨?_, ?_, ?_⟩,
    fun cmd arg hp => ?_, fun hst hl => ?_⟩
  · rw [exec_running (c := .settlingExpiry i) hr nofun]
    have runs : s.csu.slots[i].settling.isSome = true := Option.isSome_iff_ne_none.mpr ht
    simp only [runOf, Part.settled, show s.csu.slots[i].state = .settling from hst, runs, hd, beq_self_eq_true,
      Bool.and_self, if_true]
    cases s.svc.mode.dark <;> rfl
  · rw [answers, Part.identifyResponse_ok hp (.inl rfl) rfl]
    rfl
  · rw [answers, Part.identifyResponse_ok hp (.inr (.inl rfl)) (responseStatus_ok data),
      Part.identifyStep_identify hd hrun]
    split <;> rfl
  · rw [answers, Part.identifyResponse_busy hp hc rfl]
    rfl
  · intro status check data hbad
    rw [answers, Part.identifyResponse_error hp hc (responseStatus_error hbad)]
    exact congrArg _ (State.identifyFail_eq s i)
  · rw [exec_running (c := .cardResponseTimeout i) hr nofun]
    simp only [runOf, Part.responseTimeout_identify (p := s.toPart) hp hc]
    exact congrArg _ (State.identifyFail_eq s i)
  · rw [exec_running (c := .busyRetryExpiry i) hr nofun]
    simp only [runOf, Part.busyRetry, show s.csu.slots[i].bus.phase = _ from hp]
    rfl
  · obtain ⟨⟨_, read⟩, l, hrun, rfl⟩ := hl
    rw [exec_running (c := .identifyLimitExpiry i) hr nofun]
    simp only [runOf, Part.identifyExpired, show s.csu.slots[i].state = _ from hst,
      show s.csu.slots[i].identify = _ from hrun]
    exact congrArg _ (State.identifyFail_eq s i)

/-! ### The outcomes of an identify -/

/-- A slot whose identify has ended in success (R41). -/
def Slot.identified (x : Slot) (state : SlotState) (identity : Option Identity) (allowance : Nat) : Slot :=
  { x with
    state := state, identity := identity, allowance := allowance, resume := none, identify := none, bus := quietBus }

section
variable {p : Part} {i : Fin 4} {c : Identity}

/-- The card that was known before the park is back (R41): the slot returns to its resume state, but for a binding that has
been dropped meanwhile. -/
theorem Part.identifySuccess_known (hi : p.csu.slots[i].identity = some c) {r : ResumeState}
    (hr : p.csu.slots[i].resume = some r) :
    p.identifySuccess i c
      = if r = .ready ∨ p.csu.slots[i].bound ≠ none then
          p.modSlot i fun x => x.identified r.state x.identity x.allowance
        else p.modSlot i fun x => x.identified .ready x.identity p.csu.previewAllowance := by
  have same : (p.csu.slots[i].identity == some c) = true := by rw [hi, beq_self_eq_true]
  simp only [Part.identifySuccess, hr, same, if_true]
  cases r with
  | ready => rw [if_pos (.inl rfl)]; rfl
  | bound | foreign =>
    cases hb : p.csu.slots[i].bound with
    | none => rw [if_neg (by simp)]; rfl
    | some n => rw [if_pos (.inr nofun)]; rfl

/-- A card that was not known is new to the slot (R41). -/
theorem Part.identifySuccess_new (h : ¬ (p.csu.slots[i].resume ≠ none ∧ p.csu.slots[i].identity = some c)) :
    p.identifySuccess i c
      = if p.csu.slots[i].bound = none then
          (p.modSlot i fun x => x.identified .ready (some c) p.csu.previewAllowance).capture .cardIn
        else if p.lockedOf p.csu.slots[i].bound = some c then
          (p.modSlot i fun x => x.identified .bound (some c) 0).capture .cardIn
        else ((p.modSlot i fun x => x.identified .foreign (some c) 0).capture .cardIn).capture .cardForeign := by
  have other : p.identifySuccess i c = Part.identifySuccess.other p c p.csu.slots[i] fun st allowance =>
      (p.modSlot i fun x => x.identified st (some c) allowance).capture .cardIn := by
    cases hr : p.csu.slots[i].resume with
    | none => simp only [Part.identifySuccess, hr]; rfl
    | some r =>
      have differs : (p.csu.slots[i].identity == some c) = false :=
        beq_eq_false_iff_ne.mpr fun hi => h ⟨by rw [hr]; nofun, hi⟩
      simp only [Part.identifySuccess, hr, differs, Bool.false_eq_true, if_false]
      cases r <;> rfl
  rw [other, Part.identifySuccess.other]
  simp only [Option.isNone_iff_eq_none, beq_iff_eq]

end

/-- Settles O30: the card that was known by its resume state, and the new one by what its slot is bound to. -/
theorem identifyOutcomes : Obligations.IdentifyOutcomes := by
  unfold Obligations.IdentifyOutcomes
  intro s i arg run c hr hp hrun hread x known ends t
  obtain ⟨limit, _⟩ := run
  obtain rfl : _ = some c := hread
  have selected : t = .next { s with toPart := s.toPart.identifySuccess i c } := by
    rw [show t = _ from State.exec_identifyResponse hr i 0x00 0x00 [],
      Part.identifyResponse_ok hp (.inr (.inr rfl)) rfl]
    simp only [Part.identifyStep, List.length_nil, if_true, hrun]
  have back {r : ResumeState} (hk : known) (hres : x.resume = some r) := Part.identifySuccess_known hk.2 hres
  have new (hk : ¬ known) := Part.identifySuccess_new (p := s.toPart) hk
  refine ⟨fun hk hres => ?_, fun hk hres hb => ?_, fun hk hres hb => ?_, fun hk hres hb => ?_, fun hk hb => ?_,
    fun hk hb hl => ?_, fun hk hb hl => ?_⟩
  · rw [selected, back hk hres, if_pos (.inl rfl)]
    rfl
  · rw [selected, back hk hres, if_pos (.inr hb)]
    rfl
  · rw [selected, back hk hres, if_pos (.inr hb)]
    rfl
  · obtain ⟨r, hr'⟩ := Option.ne_none_iff_exists'.mp hk.1
    have notReady : ¬ (r = .ready ∨ s.csu.slots[i].bound ≠ none) := by
      rintro (rfl | hbound)
      · exact hres hr'
      · exact hbound hb
    rw [selected, back hk hr', if_neg notReady]
    rfl
  · rw [selected, new hk, if_pos hb]
    rfl
  · rw [selected, new hk, if_neg hb, if_pos hl]
    rfl
  · rw [selected, new hk, if_neg hb, if_neg hl]
    rfl

end Sys2Proof.Machine
end

section
/-! PROOFS. Sector attempts (R37, R38, R58, R59): from READ_BLOCK to STOP and the second attempt. -/

set_option Elab.async false

open Sys2Proof Sys2Proof.Machine

namespace Sys2Proof.Machine

section
variable {p : Part} {i : Fin 4}

/-- The turn's slot is read when the transfer buffer is empty and every bus is free for it (R58). -/
theorem Part.beginSector_reads {n : Nat} {r : ReadReq} {rest : List ReadReq}
    (ht : p.csu.turn = some { slot := i, count := n }) (hq : p.csu.slots[i].queue = r :: rest) (hb : p.csu.buffer = none)
    (hp : p.csu.slots[i].bus.phase = .idle) (free : ∀ j : Fin 4, p.csu.slots[j].bus.orphan = false) :
    p.beginSector = p.sendCard i .readBlock r.next := by
  have path : p.pathFree = true := by
    rw [Part.pathFree, List.all_eq_true]
    exact fun j _ => by rw [free j, Bool.not_false]
  simp only [Part.beginSector, ht, hq, hb, hp, path, Option.isNone_none, beq_self_eq_true, Bool.and_self, if_true]

/-- A READ_BLOCK that awaits its response (R58, R59), for each reading of the response. -/
theorem Part.readBlockResponse_ok {arg : Nat} {status check : Byte}
    (hp : p.csu.slots[i].bus.phase = .awaiting .readBlock arg) (h : responseStatus status [] check = .ok) :
    p.readBlockResponse i status check = p.modBus i fun b => { b with phase := .data, busyRun := none } := by
  simp only [Part.readBlockResponse, hp, h]

theorem Part.readBlockResponse_busy {arg : Nat} {status check : Byte}
    (hp : p.csu.slots[i].bus.phase = .awaiting .readBlock arg) (h : responseStatus status [] check = .busy) :
    p.readBlockResponse i status check = p.cardBusy i .readBlock arg := by
  simp only [Part.readBlockResponse, hp, h]

theorem Part.readBlockResponse_error {arg : Nat} {status check : Byte}
    (hp : p.csu.slots[i].bus.phase = .awaiting .readBlock arg) (h : responseStatus status [] check = .error) :
    p.readBlockResponse i status check = p.attemptFail i := by
  simp only [Part.readBlockResponse, hp, h]

/-- A data check that differs fails the attempt (R59). -/
theorem Part.dataComplete_differs {data : List Byte} {low high : Byte} (hp : p.csu.slots[i].bus.phase = .data)
    (hl : data.length = 512) (h : (crc16 data).toNat ≠ low.toNat + 256 * high.toNat) :
    p.dataComplete i data [low, high] = p.attemptFail i := by
  have whole : (p.csu.slots[i].bus.phase == .data && data.length == 512 && [low, high].length == 2) = true := by
    rw [hp, hl]
    rfl
  rw [Part.dataComplete, if_pos whole]
  exact if_neg h

/-- STOP answered OK after the first attempt starts the second (R59). -/
theorem Part.stopAnswered_again {r : ReadReq} {rest : List ReadReq} (ho : p.csu.slots[i].bus.orphan = false)
    (hq : p.csu.slots[i].queue = r :: rest) (hr : r.retried = false) :
    p.stopAnswered i = p.modSlot i fun x => { x with
      queue := { r with retried := true } :: rest, bus := { quietBus with phase := .awaiting .readBlock r.next } } := by
  simp only [Part.stopAnswered, ho, hq, hr, Bool.false_eq_true, if_false, Part.sendCard, Part.modBus, Part.modSlot,
    Vector.set_set]
  rw [show (p.csu.slots.set i _)[i] = _ from Vector.getElem_set_self _]
  rfl

end

/-- Settles O34: the begin of an attempt, the answers to READ_BLOCK, the ways to STOP, and the second attempt. -/
theorem sectorAttempts : Obligations.SectorAttempts := by
  unfold Obligations.SectorAttempts
  intro s i hr x bus stop
  have answers {c : Instr} {p : Part} (hc : c ≠ .spoolAccessDone) (h : runOf c s.toPart = p) :
      exec c s = .next { s with toPart := p } := by
    rw [exec_running hr hc, h]
  have stops {c : Instr} (hc : c ≠ .spoolAccessDone) (h : runOf c s.toPart = s.toPart.attemptFail i) :
      exec c s = .next stop := answers hc h
  refine ⟨fun n r rest ht hq hb hp free => ?_, fun arg hp => ⟨?_, ?_, fun status check hbad => ?_, ?_⟩,
    fun arg hp hb => ?_, fun hp => ?_, fun data low high hp hl hd => ?_, fun arg r rest hp ho hq hret => ?_⟩
  · exact answers nofun (Part.beginSector_reads ht hq hb hp free)
  · exact answers nofun (Part.readBlockResponse_ok (status := 0x00) (check := 0x00) hp rfl)
  · exact answers nofun (Part.readBlockResponse_busy (status := 0x01) (check := 0x01) hp rfl)
  · exact stops nofun (Part.readBlockResponse_error hp (responseStatus_bad hbad))
  · refine stops nofun ?_
    simp only [runOf, Part.responseTimeout, show s.csu.slots[i].bus.phase = _ from hp]
  · have cmd : s.csu.slots[i].bus.phase.cmd = some .readBlock := by
      obtain hp | hp := hp <;> rw [show s.csu.slots[i].bus.phase = _ from hp] <;> rfl
    have run : s.csu.slots[i].bus.busyRun.isSome = true := Option.isSome_iff_ne_none.mpr hb
    refine stops nofun ?_
    simp only [runOf, Part.readBusyExpired, cmd, run, beq_self_eq_true, Bool.and_self, if_true]
  · refine stops nofun ?_
    simp only [runOf, Part.dataTimeout, show s.csu.slots[i].bus.phase = _ from hp, beq_self_eq_true, if_true]
  · exact stops nofun (Part.dataComplete_differs hp hl hd)
  · exact answers nofun ((Part.stopResponse_ok (status := 0x00) (check := 0x00) hp rfl).trans
      (Part.stopAnswered_again ho hq hret))

end Sys2Proof.Machine
end

section
/-! PROOFS. ORDER_OPEN (R44, R55, R71, R75): its arguments, the search of the records, and the new record. -/

set_option Elab.async false

open Sys2Proof Sys2Proof.Machine

namespace Sys2Proof.Machine

/-! ### The arguments -/

theorem fundingArg_valid {n : Nat} (h : n ≤ 1) : fundingArg n = some (if n = 0 then .prepay else .perItem) := by
  obtain rfl | rfl := Nat.le_one_iff_eq_zero_or_eq_one.mp h <;> rfl

theorem fundingArg_invalid {n : Nat} (h : ¬ n ≤ 1) : fundingArg n = none := by
  match n with
  | 0 | 1 => exact absurd (by decide) h
  | n + 2 => rfl

theorem openSlotArg_slot {n : Nat} {i : Fin 4} (h : n = i.val) : openSlotArg n = some (some i) := by
  rw [openSlotArg, if_neg (by omega), slotArg_some h, Option.map_some]

theorem openSlotArg_invalid {n : Nat} (h : ¬ (n ≤ 3 ∨ n = 255)) : openSlotArg n = none := by
  rw [openSlotArg, if_neg (by omega), slotArg_none (by omega), Option.map_none]

theorem openSlotArg_valid {n : Nat} (h : n ≤ 3 ∨ n = 255) : ∃ slot, openSlotArg n = some slot := by
  obtain h | rfl := h
  · exact ⟨some ⟨n, by omega⟩, openSlotArg_slot rfl⟩
  · exact ⟨none, rfl⟩

/-! ### The records -/

/-- Some record carries the number. -/
theorem Part.orderIdx_isSome_iff {p : Part} {n : Nat} :
    (p.orderIdx n).isSome = true ↔ ∃ k : Fin 32, ∃ o, p.ord.orders[k] = some o ∧ o.number = n := by
  rw [Part.orderIdx, ← Fin.find?_eq_find?_finRange, Fin.isSome_find?_iff]
  refine exists_congr fun k => ?_
  cases p.ord.orders[k] <;> simp

theorem Part.freeOrder_eq_none {p : Part} (h : ∀ k : Fin 32, p.ord.orders[k] ≠ none) : p.freeOrder = none := by
  rw [Part.freeOrder, ← Fin.find?_eq_find?_finRange, Fin.find?_eq_none_iff]
  exact fun k => Option.isNone_eq_false_iff.mpr (Option.isSome_iff_ne_none.mpr (h k))

theorem Part.freeOrder_eq_some {p : Part} {k : Fin 32} (hk : p.ord.orders[k] = none)
    (lowest : ∀ j : Fin 32, j < k → p.ord.orders[j] ≠ none) : p.freeOrder = some k := by
  rw [Part.freeOrder, ← Fin.find?_eq_find?_finRange, Fin.find?_eq_some_iff]
  exact ⟨by rw [hk]; rfl, fun j hj => Option.isNone_eq_false_iff.mpr (Option.isSome_iff_ne_none.mpr (lowest j hj))⟩

/-! ### The checks in their order -/

/-- The arguments of ORDER_OPEN that check 1 of R75 lets pass. -/
def openArgsValid (args : List Byte) : Prop := 1 ≤ u16 args 0 ∧ u8 args 2 ≤ 1 ∧ (u8 args 3 ≤ 3 ∨ u8 args 3 = 255)

section
variable {p : Part} {args : List Byte}

theorem Part.orderOpen_invalid (h : ¬ openArgsValid args) : p.orderOpen args = .refuse p .badArgument := by
  by_cases hf : u8 args 2 ≤ 1
  · by_cases hs : u8 args 3 ≤ 3 ∨ u8 args 3 = 255
    · obtain ⟨slot, hslot⟩ := openSlotArg_valid hs
      have zero : u16 args 0 = 0 := by
        by_contra hn
        exact h ⟨Nat.one_le_iff_ne_zero.mpr hn, hf, hs⟩
      simp only [Part.orderOpen, fundingArg_valid hf, hslot, zero, if_true]
    · simp only [Part.orderOpen, fundingArg_valid hf, openSlotArg_invalid hs]
  · simp only [Part.orderOpen, fundingArg_invalid hf]

variable (hv : openArgsValid args)
include hv

theorem Part.orderOpen_used (hu : ∃ k : Fin 32, ∃ o, p.ord.orders[k] = some o ∧ o.number = u16 args 0) :
    p.orderOpen args = .refuse p .inUse := by
  obtain ⟨hn, hf, hs⟩ := hv
  obtain ⟨slot, hslot⟩ := openSlotArg_valid hs
  simp only [Part.orderOpen, fundingArg_valid hf, hslot, if_neg (Nat.one_le_iff_ne_zero.mp hn),
    Part.orderIdx_isSome_iff.mpr hu, if_true]

variable (hu : ¬ ∃ k : Fin 32, ∃ o, p.ord.orders[k] = some o ∧ o.number = u16 args 0)
include hu

theorem Part.orderOpen_full (full : ∀ k : Fin 32, p.ord.orders[k] ≠ none) :
    p.orderOpen args = .refuse p .noRoom := by
  obtain ⟨hn, hf, hs⟩ := hv
  obtain ⟨slot, hslot⟩ := openSlotArg_valid hs
  simp only [Part.orderOpen, fundingArg_valid hf, hslot, if_neg (Nat.one_le_iff_ne_zero.mp hn),
    if_neg (fun h => hu (Part.orderIdx_isSome_iff.mp h)), Part.freeOrder_eq_none full]

theorem Part.orderOpen_room {slot : Option (Fin 4)} (hslot : openSlotArg (u8 args 3) = some slot) {k : Fin 32}
    (free : p.freeOrder = some k) :
    p.orderOpen args = if p.slotReady slot then
        p.openOrder k (u16 args 0) (if u8 args 2 = 0 then .prepay else .perItem) slot
      else .refuse p .wrongState := by
  obtain ⟨hn, hf, -⟩ := hv
  simp only [Part.orderOpen, fundingArg_valid hf, hslot, if_neg (Nat.one_le_iff_ne_zero.mp hn),
    if_neg (fun h => hu (Part.orderIdx_isSome_iff.mp h)), free]

end

/-- Settles O37: the four checks one after the other, and the record without a slot and with one. -/
theorem orderOpenTakesARecord : Obligations.OrderOpenTakesARecord := by
  unfold Obligations.OrderOpenTakesARecord
  intro s tag args rest h hl hm n refused valid used record
  have length : exactly 4 args.length = true := by simp [exactly, hl]
  have serving : s.svc.mode.serving = true := by rw [hm]; rfl
  have admitted : admitNew s.svc.mode = none := by rw [hm]; rfl
  have refuses {st : Status} (hrun : (s.toPart.dequeue rest).orderOpen args = .refuse (s.toPart.dequeue rest) st) :
      refused st := State.serve_refuses h serving length admitted hrun
  refine ⟨fun hv => refuses (Part.orderOpen_invalid hv), fun hv hu => refuses (Part.orderOpen_used hv hu),
    fun hv hu full => refuses (Part.orderOpen_full hv hu full), fun k hv hu hk lowest => ?_⟩
  have room {slot : Option (Fin 4)} (hslot : openSlotArg (u8 args 3) = some slot) :=
    Part.orderOpen_room (p := s.toPart.dequeue rest) hv hu hslot (Part.freeOrder_eq_some hk lowest)
  have opens {slot : Option (Fin 4)} (hslot : openSlotArg (u8 args 3) = some slot)
      (ready : (s.toPart.dequeue rest).slotReady slot = true) : exec .orderOpen s = .next { s with
        toPart := Part.hold tag 0x30 ((s.toPart.dequeue rest).openOrder k n (if u8 args 2 = 0 then .prepay else .perItem)
          slot) } :=
    (State.serve_admitted h serving length admitted).trans (by rw [room hslot, if_pos ready])
  refine ⟨fun hnone => opens (slot := none) (by rw [hnone]; rfl) rfl, fun i hi => ?_⟩
  intro x
  have hslot := openSlotArg_slot hi
  refine ⟨fun hst => refuses ((room hslot).trans (if_neg ?_)), fun hst => opens hslot ?_⟩
  · exact fun ready => hst (beq_iff_eq.mp ready)
  · exact beq_iff_eq.mpr hst

end Sys2Proof.Machine
end

section
/-! PROOFS. A release walk over the one entry of the release list (R86 to R88, R94 to R96), and the copy that an IDLE engine
then begins (R166, R167), in the terms of the statements. -/

set_option Elab.async false

open Sys2Proof Sys2Proof.Machine

namespace Sys2Proof.Machine

/-! ### The order and the engine of an item -/

/-- Steps 1 and 2 of R87: an order in OPEN or COMMITTED without a cancel, and the funding test of its mode. -/
theorem Order.letsGo_iff (o : Order) (it : Item) : o.letsGo it = true ↔ o.letsItemGo it := by
  have available : (it.price : Int) ≤ o.available ↔ o.consumed + it.price ≤ o.cashIn + o.cardAuth := by
    unfold Order.available
    omega
  unfold Order.letsGo Order.fundsItem Order.letsItemGo
  cases hf : o.funding <;>
    simp only [Bool.and_eq_true, Bool.or_eq_true, beq_iff_eq, Bool.not_eq_true', decide_eq_true_eq, available,
      show Config.moneyTop = 16777215 from rfl, reduceCtorEq, false_imp_iff, true_imp_iff] <;>
    tauto

/-- R88: the engine mask, the engine's state and media record, and room in its queue. -/
theorem State.eligible_iff (s : State) (it : Item) (e : EngineId) : s.toPart.eligible it e = true ↔ s.mayTake e it := by
  have state (x : EngineState) :
      (x == .idle || x.printing) = true ↔ x ∈ [.idle, .loading, .panel, .heatHold, .ejecting] := by
    cases x <;> decide
  have mask : it.allows e = (match e with | .A => it.maskA | .B => it.maskB) := by cases e <;> rfl
  unfold Part.eligible State.mayTake
  simp only [Bool.and_eq_true, state, mask, Bool.not_eq_true', beq_iff_eq, decide_eq_true_eq, and_assoc]
  rfl

/-- No engine is chosen where none may take the item (R88). -/
theorem State.chooseEngine_none {s : State} {it : Item} (h : ∀ e, ¬ s.mayTake e it) : s.toPart.chooseEngine it = none := by
  have no (e : EngineId) : s.toPart.eligible it e = false := by
    rw [← Bool.not_eq_true, State.eligible_iff]
    exact h e
  simp only [Part.chooseEngine, no]

/-- The engine that takes an item is the one chosen (R88). -/
theorem State.chooseEngine_takes {s : State} {it : Item} {e : EngineId} (h : s.takes e it) :
    s.toPart.chooseEngine it = some e := by
  obtain ⟨may, shorter⟩ := h
  have own : s.toPart.eligible it e = true := (s.eligible_iff it e).mpr may
  cases e with
  | A =>
    cases other : s.toPart.eligible it .B with
    | false => simp only [Part.chooseEngine, own, other]
    | true =>
      have le : s.engA.queue.length ≤ s.engB.queue.length := shorter ((s.eligible_iff it .B).mp other)
      simp only [Part.chooseEngine, own, other, if_neg (Nat.not_lt.mpr le)]
  | B =>
    cases other : s.toPart.eligible it .A with
    | false => simp only [Part.chooseEngine, own, other]
    | true =>
      have lt : s.engB.queue.length < s.engA.queue.length := shorter ((s.eligible_iff it .A).mp other)
      simp only [Part.chooseEngine, own, other, if_pos lt]

/-! ### The copy that begins -/

/-- A change of an item entry in use. -/
theorem Part.modItem_eq {p : Part} {id : Fin 64} {it : Item} (hit : p.ord.items[id] = some it) (f : Item → Item) :
    p.modItem id f = { p with ord := { p.ord with items := p.ord.items.set id (some (f it)) } } := by
  simp only [Part.modItem, hit, Option.map_some]

theorem State.modEng_eq (s : State) (e : EngineId) (f : Engine → Engine) :
    ({ s with toPart := s.toPart.modEng e f } : State) = s.withEngine e (f (s.eng e)) := by
  cases e <;> rfl

/-- An engine enters FAULT, in the terms of the statements (R171, R189). -/
theorem State.enterFault_eq (s : State) (e : EngineId) (k : FaultKind) :
    ({ s with toPart := s.toPart.enterFault e k } : State)
      = { (s.withEngine e ((s.eng e).faulted k)).captured .engineFault with
          spl := { s.spl with port := disowned s.spl.port (.engine e) } } := by
  cases e <;> simp only [Part.enterFault, Part.disownAccess, disowned, beq_iff_eq] <;> rfl

theorem Part.modEng_modEng (p : Part) (e : EngineId) (f g : Engine → Engine) :
    (p.modEng e f).modEng e g = p.modEng e fun en => g (f en) := by
  cases e <;> rfl

/-- LOADING is entered beside the media that the record names (R167): a sheet is taken and its draw starts. -/
theorem Part.loadStart_draws {p : Part} {e : EngineId} (hm : (p.sensors e).media.val = (p.eng e).mediaKind) :
    let q := p.modEng e fun en => { en with state := .loading, prints := en.prints - 1, motion := some .draw }
    (p.loadStart e).1 = if (p.eng e).prints - 1 = Config.mediaLowAt then q.capture .mediaLow else q := by
  simp only [Part.loadStart, Part.sensors_modEng, Part.modEng_same, hm, ne_eq, not_true_eq_false, if_false,
    Part.modEng_modEng]

/-- LOADING is entered beside other media, with no item QUEUED behind the first (R167): the engine is in FAULT. -/
theorem Part.loadStart_mismatch {p : Part} {e : EngineId} (hm : (p.sensors e).media.val ≠ (p.eng e).mediaKind)
    (hq : (p.eng e).queue.filter p.isQueued = []) :
    (p.loadStart e).1 = p.enterFault e .mediaMismatch := by
  let q := p.modEng e fun en => { en with state := .loading }
  have noneQueued : (q.eng e).queue.filter q.isQueued = [] := by
    rw [Part.modEng_same, Part.modEng_isQueued]
    exact hq
  have fault : p.loadStart e = q.faultCore e .mediaMismatch false := by
    simp only [Part.loadStart, Part.sensors_modEng, Part.modEng_same, ne_eq, hm, not_false_eq_true, if_true, q]
  rw [fault, Part.faultCore_noneQueued noneQueued]
  cases e <;> rfl

/-- No copy begins on an engine that is not IDLE (R166). -/
theorem Part.beginCopy_busy {p : Part} {e : EngineId} (h : (p.eng e).state ≠ .idle) : p.beginCopy e = (p, false) := by
  unfold Part.beginCopy
  split
  next idle _ _ => exact absurd idle h
  next => rfl

/-- An IDLE engine with one QUEUED item alone in its queue begins its copy, in the terms of the statements (R166, R167). -/
theorem State.beginCopy_eq {s : State} {e : EngineId} {id : Fin 64} {it : Item} (hi : (s.eng e).state = .idle)
    (hm : s.svc.mode.dark = false) (hq : (s.eng e).queue = [id]) (hit : s.ord.items[id] = some it)
    (hs : it.state = .queued) : ({ s with toPart := (s.toPart.beginCopy e).1 } : State) = s.copyBegun e id it := by
  have queued : s.toPart.isQueued id = true := by rw [Part.isQueued, hit, Option.map_some, hs]; rfl
  let t := s.withItem id { it with state := .printing }
  have printing : s.toPart.modItem id (fun it => { it with state := .printing }) = t.toPart := Part.modItem_eq hit _
  have noneQueued : (t.eng e).queue.filter t.toPart.isQueued = [] := by
    have own : t.ord.items[id] = some { it with state := .printing } := Vector.getElem_set_self _
    rw [show t.eng e = s.eng e by cases e <;> rfl, hq, List.filter_cons_of_neg, List.filter_nil]
    rw [Part.isQueued, own]
    nofun
  have engine : t.eng e = s.eng e := by cases e <;> rfl
  by_cases hp : (s.eng e).prints = 0
  · have begun : (s.toPart.beginCopy e).1
        = (s.toPart.modEng e fun en => { en with state := .needsMedia }).capture .mediaOut := by
      simp only [Part.beginCopy, hi, hm, hq, hp, if_true]
    rw [begun, State.copyBegun, if_pos hp]
    exact congrArg (·.captured .mediaOut) (s.modEng_eq e fun en => { en with state := .needsMedia })
  have begun : (s.toPart.beginCopy e).1 = (t.toPart.loadStart e).1 := by
    simp only [Part.beginCopy, hi, hm, hq, if_neg hp, queued, if_true, printing]
  rw [begun, State.copyBegun, if_neg hp]
  by_cases hmedia : (s.toPart.sensors e).media.val = (s.eng e).mediaKind
  · have low : (t.eng e).prints - 1 = Config.mediaLowAt ↔ (s.eng e).prints = 21 := by
      rw [engine, Config.mediaLowAt]
      omega
    have drawn := t.modEng_eq e fun en => { en with state := .loading, prints := en.prints - 1, motion := some .draw }
    rw [Part.loadStart_draws (p := t.toPart) (engine ▸ hmedia), if_pos hmedia, ← engine]
    by_cases hl : (s.eng e).prints = 21
    · rw [if_pos (low.mpr hl), if_pos (engine ▸ hl)]
      exact congrArg (·.captured .mediaLow) drawn
    · rw [if_neg (mt low.mp hl), if_neg (engine ▸ hl)]
      exact drawn
  · rw [Part.loadStart_mismatch (p := t.toPart) (engine ▸ hmedia) noneQueued, if_neg hmedia, ← engine]
    exact t.enterFault_eq e .mediaMismatch

/-! ### The walk -/

/-- A walk with one entry in the release list, outside PARKED and WAKING (R86). -/
theorem Part.walk_one {p : Part} {x : ReleaseEntry} (hm : p.svc.mode.dark = false) (hr : p.ord.release = [x]) :
    p.walk = p.tryEntry x := by
  rw [Part.walk, if_neg (by rw [hm]; nofun), hr, List.foldl_cons, List.foldl_nil]

/-- The entry stays where its order does not let the item go or no engine may take it (R87). -/
theorem State.tryEntry_stays {s : State} {x : ReleaseEntry} {it : Item} {o : Order} (hit : s.ord.items[x.item] = some it)
    (ho : s.ord.orders[it.order] = some o) (h : ¬ o.letsItemGo it ∨ ∀ e, ¬ s.mayTake e it) :
    s.toPart.tryEntry x = s.toPart := by
  simp only [Part.tryEntry, hit, ho]
  by_cases hgo : o.letsGo it = true
  · rw [if_pos hgo, State.chooseEngine_none (h.resolve_left (not_not_intro ((o.letsGo_iff it).mp hgo)))]
  · rw [if_neg hgo]

/-- The item goes to the engine that takes it (R87). -/
theorem State.tryEntry_goes {s : State} {x : ReleaseEntry} {it : Item} {o : Order} {e : EngineId}
    (hit : s.ord.items[x.item] = some it) (ho : s.ord.orders[it.order] = some o) (hgo : o.letsItemGo it)
    (ht : s.takes e it) : s.toPart.tryEntry x = s.toPart.releaseTo x.item it e := by
  simp only [Part.tryEntry, hit, ho, if_pos ((o.letsGo_iff it).mpr hgo), State.chooseEngine_takes ht]

/-- An order once an item of its own that goes is debited (R96). -/
def Order.debited (o : Order) (it : Item) : Order :=
  { o with consumed := if it.debited then o.consumed else o.consumed + it.price }

/-- The debit of an item that goes, made only while its flag is clear (R96). -/
theorem State.debit_eq {s : State} {it : Item} {o : Order} (ho : s.ord.orders[it.order] = some o) :
    (if it.debited then s.toPart else s.toPart.modOrder it.order fun o => { o with consumed := o.consumed + it.price })
      = (s.withOrder it.order (o.debited it)).toPart := by
  by_cases hd : it.debited = true
  · rw [if_pos hd, Order.debited, if_pos hd]
    show s.toPart = { s.toPart with ord := { s.ord with orders := s.ord.orders.set it.order (some o) } }
    rw [← ho, set_self]
  · rw [if_neg hd, Order.debited, if_neg hd, Part.modOrder_eq ho]
    rfl

/-- The step of a walk that releases an item, in the terms of the statements (R87, R96, R166). -/
theorem State.releaseTo_eq {s : State} {x : ReleaseEntry} {it : Item} {o : Order} {e : EngineId}
    (hm : s.svc.mode.dark = false) (hr : s.ord.release = [x]) (hit : s.ord.items[x.item] = some it)
    (ho : s.ord.orders[it.order] = some o) (rests : (s.eng e).state = .idle → (s.eng e).queue = []) :
    ({ s with toPart := s.toPart.releaseTo x.item it e } : State) = s.released e x.item it o := by
  let queued : Item := { it with debited := true, state := .queued, engine := some e }
  let d := s.withOrder it.order (o.debited it)
  let t := d.withItem x.item queued
  let u := { t with ord := { t.ord with release := [] } }.withEngine e { s.eng e with queue := (s.eng e).queue ++ [x.item] }
  have gone : (d.ord.release.filter fun y => y.item != x.item) = [] := by
    rw [show d.ord.release = [x] from hr]
    simp
  let m : Part := { d.toPart with ord := { d.ord with release := [] } }
  have listed : s.toPart.releaseTo x.item it e = (u.toPart.beginCopy e).1 := by
    have moved : (m.modItem x.item fun it => { it with debited := true, state := .queued, engine := some e }).modEng e
        (fun en => { en with queue := en.queue ++ [x.item] }) = u.toPart := by
      rw [Part.modItem_eq (p := m) hit]
      cases e <;> rfl
    rw [← moved]
    simp only [Part.releaseTo, State.debit_eq ho, m, d] at gone ⊢
    rw [gone]
  have own : u.eng e = { s.eng e with queue := (s.eng e).queue ++ [x.item] } := by cases e <;> rfl
  rw [listed, show s.released e x.item it o = if (s.eng e).state = .idle then u.copyBegun e x.item queued else u from rfl]
  by_cases hi : (s.eng e).state = .idle
  · have mode : u.svc.mode.dark = false := by cases e <;> exact hm
    have item : u.ord.items[x.item] = some queued := by cases e <;> exact Vector.getElem_set_self _
    rw [if_pos hi, ← State.beginCopy_eq (s := u) (by rw [own]; exact hi) mode (by rw [own, rests hi]; rfl) item rfl]
    cases e <;> rfl
  · rw [if_neg hi, Part.beginCopy_busy (by rw [own]; exact hi)]
    cases e <;> rfl

end Sys2Proof.Machine
end

section
/-! PROOFS. ORDER_COMMIT and ORDER_RESUME (R79, R82): the order that waits, the one that settles (R99 to R102), and the walk
that follows (R86). -/

set_option Elab.async false

open Sys2Proof Sys2Proof.Machine

namespace Sys2Proof.Machine

/-! ### The requests -/

theorem Part.liveOrder_none {p : Part} {n : Nat} (h : p.orderIdx n = none) : p.liveOrder n = none := by
  simp only [Part.liveOrder, h]

section
variable {p : Part} {args : List Byte} {k : Fin 32} {o : Order} (hk : p.orderIdx (u16 args 0) = some k)
  (ho : p.ord.orders[k] = some o)
include hk ho

/-- ORDER_RESUME by the order's state (R82). -/
theorem Part.orderResume_halted (hs : o.state = .halted) (hc : o.cancel = false) :
    p.orderResume args = .done (p.modOrder k fun o => { o with state := .opened }) [] := by
  simp only [Part.orderResume, Part.liveOrder_eq hk ho, hs, hc, beq_self_eq_true, Bool.not_false, Bool.and_self, if_true]

theorem Part.orderResume_refused (h : ¬ (o.state = .halted ∧ o.cancel = false)) :
    p.orderResume args = .refuse p .wrongState := by
  simp only [Part.orderResume, Part.liveOrder_eq hk ho]
  exact if_neg (by simpa using h)

/-- ORDER_COMMIT of an order that is not OPEN or is cancelled (R79). -/
theorem Part.orderCommit_refused (h : o.state ≠ .opened ∨ o.cancel = true) : p.orderCommit args = .refuse p .wrongState := by
  simp only [Part.orderCommit, Part.liveOrder_eq hk ho]
  exact if_pos (by simpa using h)

end

/-- An OPEN order has become COMMITTED, and ORDER_FUNDED is captured when its funds reach the total (R79, R98). -/
def Part.committed (p : Part) (k : Fin 32) (o : Order) : Part :=
  { p with
    ord := { p.ord with orders := p.ord.orders.set k (some { o with state := .committed }) }
    svc := if o.total ≤ o.cashIn + o.cardAuth then p.svc.capture .orderFunded else p.svc }

theorem Part.orderCommit_opened {p : Part} {args : List Byte} {k : Fin 32} {o : Order}
    (hk : p.orderIdx (u16 args 0) = some k) (ho : p.ord.orders[k] = some o) (hs : o.state = .opened)
    (hc : o.cancel = false) : p.orderCommit args = .done ((p.committed k o).checkSettling k).walk [] := by
  have funds : (p.modOrder k fun o => { o with state := .committed }).fundedCheck k false = p.committed k o := by
    have own : (p.modOrder k fun o => { o with state := .committed }).orderFunded k
        = decide (o.total ≤ o.cashIn + o.cardAuth) := by
      rw [Part.orderFunded, Part.modOrder_eq ho, show (p.ord.orders.set k _)[k] = _ from Vector.getElem_set_self _]
      simp only [Order.isFunded, hc, beq_self_eq_true, Bool.not_false, Bool.true_and]
    rw [Part.fundedCheck, own, Part.modOrder_eq ho, Part.committed]
    by_cases hf : o.total ≤ o.cashIn + o.cardAuth
    · simp only [hf, decide_true, Bool.not_false, Bool.and_self, if_true]
      rfl
    · simp only [hf, decide_false, Bool.false_and, Bool.false_eq_true, if_false]
  simp only [Part.orderCommit, Part.liveOrder_eq hk ho, hs, hc, bne_self_eq_false, Bool.or_self, Bool.false_eq_true,
    if_false, funds]

/-- A COMMITTED order may settle when its items have ended and no authorization is pending (R99). -/
theorem Part.maySettle_committed (p : Part) (o : Order) : p.maySettle { o with state := .committed } = true
    ↔ (∀ id ∈ o.items, ∀ it, p.ord.items[id] = some it → it.state.terminal = true) ∧ o.cashless.state ≠ .pending := by
  have each (id : Fin 64) : (match p.ord.items[id] with | some it => it.state.terminal | none => true) = true
      ↔ ∀ it, p.ord.items[id] = some it → it.state.terminal = true := by
    cases p.ord.items[id] <;> simp
  simp only [Part.maySettle, beq_self_eq_true, Bool.true_or, Bool.true_and, Bool.and_eq_true, List.all_eq_true, bne_iff_ne]
  exact and_congr_left fun _ => forall₂_congr fun id _ => each id

/-! ### The settlement -/

/-- Only the numbers of the records tell which one a number names (R71). -/
theorem Part.SameNumbers.orderIdx {p q : Part} (h : p.SameNumbers q) (n : Nat) : q.orderIdx n = p.orderIdx n := by
  have named (v : Option Order) : (match v with | some o => o.number == n | none => false)
      = (v.map (·.number)).any (· == n) := by
    cases v <;> rfl
  unfold Part.orderIdx
  congr 1
  funext k
  exact (named _).trans ((congrArg (Option.any (· == n)) (h k)).trans (named _).symm)

/-- A record that keeps its number leaves every number where it is. -/
theorem Part.sameNumbers_set {p q : Part} {k : Fin 32} {o o' : Order} (ho : p.ord.orders[k] = some o)
    (hq : q.ord.orders = p.ord.orders.set k (some o')) (hn : o'.number = o.number) : p.SameNumbers q := by
  intro j
  rw [hq]
  by_cases hj : j = k
  · subst hj
    rw [show (p.ord.orders.set j (some o'))[j] = _ from Vector.getElem_set_self _, ho, Option.map_some, Option.map_some, hn]
  · rw [orders_set_ne _ _ hj]

/-- The card needs nothing where the cash covers what was consumed (R100). -/
theorem Order.cardNeed_eq_zero (o : Order) : o.cardNeed = 0 ↔ o.consumed = min o.cashIn o.consumed := by
  unfold Order.cardNeed Order.cashUsed
  omega

/-- The card operation that settles an order with a card amount (R100, R101). -/
def Order.settlementOp (o : Order) : CashlessOp :=
  if o.cardNeed = 0 then { kind := .release, ref := o.number, amount := 0 }
  else { kind := .capture, ref := o.number, amount := o.cardNeed }

/-- The operation in the terms of the statements. -/
theorem Order.settlementOp_eq (o : Order) :
    o.settlementOp = if o.consumed = min o.cashIn o.consumed then { kind := .release, ref := o.number, amount := 0 }
      else { kind := .capture, ref := o.number, amount := o.consumed - min o.cashIn o.consumed } := by
  simp only [Order.settlementOp, Order.cardNeed_eq_zero]
  rfl

theorem Order.settlementOp_ref (o : Order) : o.settlementOp.ref = o.number := by
  unfold Order.settlementOp
  split <;> rfl

/-- The part as an order enters SETTLING and loses the focus (R99, R100, R116). -/
def Part.unfocusing (p : Part) (k : Fin 32) (o : Order) : Part :=
  { p.entering k o with pay := { p.pay with focus := if p.pay.focus = some o.number then none else p.pay.focus } }

/-- An order settles: it loses the focus, and closes or hands its operation over (R99 to R102). -/
theorem Part.enterSettling_unfocused {p : Part} {k : Fin 32} {o : Order} (ho : p.ord.orders[k] = some o) :
    p.enterSettling k = if o.cardAuth = 0 then (p.unfocusing k o).closeOrder k (some 0)
      else (p.unfocusing k o).handOp o.settlementOp := by
  have entered : (p.modOrder k fun o => { o with state := .settling, change := some o.changeDue }).loseFocus o.number
      = p.unfocusing k o := by
    rw [Part.modOrder_eq ho, Part.loseFocus_eq]
    rfl
  simp only [Part.enterSettling, ho, entered, Order.settlementOp]
  by_cases hn : o.cardNeed = 0
  · rw [if_pos hn, if_pos hn]
  · rw [if_neg hn, if_neg hn]

/-- An operation that finds the line and every queue empty is sent at once (R101, R129). -/
theorem Part.handOp_sent {p : Part} {op : CashlessOp} {k : Fin 32} {o : Order} (hout : p.clc.outstanding = none)
    (hq : p.clc.queue = []) (hw : p.ord.waiting = []) (hl : p.clc.late = []) (hk : p.orderIdx op.ref = some k)
    (ho : p.ord.orders[k] = some o) :
    p.handOp op = { p with
      clc := { p.clc with outstanding := some { op := op, timer := none } }
      ord := { p.ord with orders := p.ord.orders.set k (some { o with cashless := { o.cashless with
        state := if op.kind = .capture then .capturing else .releasing } }) } } := by
  have room : p.clc.queue.length < Config.cashlessRoom := by rw [hq]; decide
  rw [Part.handOp, if_pos room]
  simp only [Part.markHanded, hk, Part.modOrder_eq ho, Part.joinOp, Part.pump, hout, hq, hw, hl, List.nil_append, beq_iff_eq]

/-- An operation waits beside a full queue (R101). -/
theorem Part.handOp_waits {p : Part} {op : CashlessOp} (h : 8 ≤ p.clc.queue.length) :
    p.handOp op = { p with ord := { p.ord with waiting := p.ord.waiting ++ [op] } } :=
  if_neg (c := p.clc.queue.length < Config.cashlessRoom) (Nat.not_lt.mpr h)

/-! ### What the waiting REPLY leaves aside -/

/-- Frames move at the drop of a binding whether a REPLY waits or not (R10, R11). -/
theorem State.framesUnbound_handler (s : State) (before : Cards) (o : Order) (handler : Handler) :
    State.framesUnbound { s with lnk := { s.lnk with handler := handler } } before o
      = { s.framesUnbound before o with lnk := { (s.framesUnbound before o).lnk with handler := handler } } := by
  unfold State.framesUnbound
  split
  · exact s.framesMoved_handler handler
  · rfl

/-- A copy begins, and an item is released, whatever the link does (R87, R166). -/
theorem State.copyBegun_lnk (s : State) (l : Link) (e : EngineId) (id : Fin 64) (it : Item) :
    State.copyBegun { s with lnk := l } e id it = { s.copyBegun e id it with lnk := l } := by
  have engine : ({ s with lnk := l } : State).eng e = s.eng e := by cases e <;> rfl
  have sensors : ({ s with lnk := l } : State).toPart.sensors e = s.toPart.sensors e := by cases e <;> rfl
  simp only [State.copyBegun, engine, sensors]
  by_cases hp : (s.eng e).prints = 0
  · rw [if_pos hp, if_pos hp]
    cases e <;> rfl
  rw [if_neg hp, if_neg hp]
  by_cases hm : (s.toPart.sensors e).media.val = (s.eng e).mediaKind
  · rw [if_pos hm, if_pos hm]
    by_cases hl : (s.eng e).prints = 21
    · rw [if_pos hl, if_pos hl]
      cases e <;> rfl
    · rw [if_neg hl, if_neg hl]
      cases e <;> rfl
  · rw [if_neg hm, if_neg hm]
    cases e <;> rfl

theorem State.released_lnk (s : State) (l : Link) (e : EngineId) (id : Fin 64) (it : Item) (o : Order) :
    State.released { s with lnk := l } e id it o = { s.released e id it o with lnk := l } := by
  have engine : ({ s with lnk := l } : State).eng e = s.eng e := by cases e <;> rfl
  simp only [State.released, engine]
  by_cases hi : (s.eng e).state = .idle
  · rw [if_pos hi, if_pos hi, ← State.copyBegun_lnk]
    cases e <;> rfl
  · rw [if_neg hi, if_neg hi]
    cases e <;> rfl

theorem State.released_lnk_eq (s : State) (e : EngineId) (id : Fin 64) (it : Item) (o : Order) :
    (s.released e id it o).lnk = s.lnk := by
  have same := congrArg (fun t : State => t.lnk) (s.released_lnk s.lnk e id it o)
  exact same

theorem State.framesUnbound_ord (s : State) (before : Cards) (o : Order) : (s.framesUnbound before o).ord = s.ord := by
  unfold State.framesUnbound State.framesMoved
  split
  · simp only
    split <;> rfl
  · rfl

/-! ### An order that settles at its commit -/

/-- An order without a card amount settles and closes at once, in the terms of the statements (R99, R100, R102). -/
theorem State.enterSettling_closes {s : State} {k : Fin 32} {o : Order} (ho : s.ord.orders[k] = some o)
    (hc : o.cardAuth = 0) (apart : s.slotApart o) :
    ({ s with toPart := s.toPart.enterSettling k } : State)
      = State.framesUnbound { s.withOrder k { o.entering.unbound with state := .closed, captured := some 0 } with
          svc := s.svc.capture .orderClosed
          csu := s.csu.orderUnbound o
          pay := { s.pay with
            kept := s.pay.kept + o.cashUsed, pool := s.pay.pool + o.changeDue
            focus := if s.pay.focus = some o.number then none else s.pay.focus } } s.csu o := by
  let w : State := { s with toPart := s.toPart.unfocusing k o }
  have own : w.ord.orders[k] = some o.entering := Vector.getElem_set_self _
  have gone : (if w.pay.focus = some o.number then none else w.pay.focus) = w.pay.focus := by
    simp only [w, Part.unfocusing]
    split <;> simp_all
  rw [Part.enterSettling_unfocused ho, if_pos hc]
  refine (State.closeOrder_eq (s := w) own rfl apart (some 0)).trans ?_
  rw [Part.closing, show o.entering.number = o.number from rfl, gone]
  simp only [w, Part.unfocusing, Part.entering, Vector.set_set]
  rfl

/-- An order with a card amount settles beside an empty line: its operation is sent (R100, R101, R129). -/
theorem State.enterSettling_sends {s : State} {k : Fin 32} {o : Order} (hk : s.toPart.orderIdx o.number = some k)
    (ho : s.ord.orders[k] = some o) (hc : 0 < o.cardAuth) (hout : s.clc.outstanding = none) (hq : s.clc.queue = [])
    (hw : s.ord.waiting = []) (hl : s.clc.late = []) :
    ({ s with toPart := s.toPart.enterSettling k } : State) = { s.withOrder k { o.entering with
        cashless := { o.cashless with
          state := if o.consumed = min o.cashIn o.consumed then .releasing else .capturing } } with
      pay := { s.pay with focus := if s.pay.focus = some o.number then none else s.pay.focus }
      clc := { s.clc with outstanding := some { op := o.settlementOp, timer := none } } } := by
  have found : (s.toPart.unfocusing k o).orderIdx o.settlementOp.ref = some k := by
    rw [Order.settlementOp_ref]
    exact ((Part.sameNumbers_set (o' := o.entering) ho rfl rfl).orderIdx _).trans hk
  have marked : (if o.settlementOp.kind = .capture then CashlessState.capturing else .releasing)
      = if o.consumed = min o.cashIn o.consumed then .releasing else .capturing := by
    rw [Order.settlementOp_eq]
    split <;> rfl
  rw [Part.enterSettling_unfocused ho, if_neg (Nat.ne_of_gt hc),
    Part.handOp_sent (p := s.toPart.unfocusing k o) hout hq hw hl found (Vector.getElem_set_self _), marked]
  simp only [Part.unfocusing, Part.entering, Vector.set_set]
  rfl

/-- An order with a card amount settles beside a full queue: its operation waits (R100, R101). -/
theorem State.enterSettling_waits {s : State} {k : Fin 32} {o : Order} (ho : s.ord.orders[k] = some o) (hc : 0 < o.cardAuth)
    (full : 8 ≤ s.clc.queue.length) :
    ({ s with toPart := s.toPart.enterSettling k } : State) = { s.withOrder k o.entering with
      ord := { (s.withOrder k o.entering).ord with waiting := s.ord.waiting ++ [o.settlementOp] }
      pay := { s.pay with focus := if s.pay.focus = some o.number then none else s.pay.focus } } := by
  rw [Part.enterSettling_unfocused ho, if_neg (Nat.ne_of_gt hc), Part.handOp_waits (p := s.toPart.unfocusing k o) full]
  rfl

/-! ### The commit as a request -/

section
variable {s : State} {tag : Nat} {args : List Byte} {rest : List CtrlEntry} {k : Fin 32} {o : Order}

/-- The state once the order is COMMITTED, the REPLY aside (R79). -/
def State.committing (s : State) (rest : List CtrlEntry) (k : Fin 32) (o : Order) : State :=
  { s with toPart := (s.toPart.dequeue rest).committed k o }

/-- The REPLY of a commit that has left the state `t` waits for its hand-over (R10). -/
def State.committedReply (t : State) (tag : Nat) : State :=
  { t with lnk := { t.lnk with handler := .serving { tag := tag, code := 0x31, status := .ok, result := [] } .plain } }

theorem State.released_committedReply (t : State) (tag : Nat) (e : EngineId) (id : Fin 64) (it : Item) (o : Order) :
    (t.released e id it o).committedReply tag = (t.committedReply tag).released e id it o := by
  rw [State.committedReply, State.released_lnk_eq, ← State.released_lnk]
  rfl

theorem State.committing_mode (s : State) : (s.committing rest k o).svc.mode = s.svc.mode := by
  simp only [State.committing, Part.committed]
  split <;> rfl

variable (h : s.Asks 0x31 tag args rest) (hl : args.length = 2) (hm : s.svc.mode.trading = true)
  (hk : s.toPart.orderIdx (u16 args 0) = some k) (ho : s.ord.orders[k] = some o) (hs : o.state = .opened)
  (hc : o.cancel = false)
include h hl hm hk ho hs hc

/-- What ORDER_COMMIT answers: the check for a settlement and the walk, and then the REPLY (R79). -/
theorem State.exec_orderCommit {t : State}
    (ht : { s.committing rest k o with toPart := ((s.committing rest k o).toPart.checkSettling k).walk } = t) :
    exec .orderCommit s = .next (t.committedReply tag) := by
  subst ht
  refine (State.serve_admitted h (Mode.serving_of_trading hm) (by simp [exactly, hl]) (admitLive_of_trading hm)).trans ?_
  rw [Part.orderCommit_opened (p := s.toPart.dequeue rest) hk ho hs hc]
  rfl

/-- The order settles at its commit, with no item in the release list (R86, R99). -/
theorem State.exec_orderCommit_settles (ended : ∀ id ∈ o.items, ∀ it, s.ord.items[id] = some it → it.state.terminal = true)
    (hp : o.cashless.state ≠ .pending) {t : State}
    (ht : { s.committing rest k o with toPart := (s.committing rest k o).toPart.enterSettling k } = t)
    (hr : t.ord.release = []) : exec .orderCommit s = .next (t.committedReply tag) := by
  refine State.exec_orderCommit h hl hm hk ho hs hc ?_
  subst ht
  rw [Part.checkSettling_enters (p := (s.committing rest k o).toPart) (Vector.getElem_set_self _)
    ((Part.maySettle_committed _ o).mpr ⟨ended, hp⟩), Part.walk_nil hr]

/-- The order does not settle at its commit: the walk alone follows (R79, R86). -/
theorem State.exec_orderCommit_walks
    (hw : (¬ ∀ id ∈ o.items, ∀ it, s.ord.items[id] = some it → it.state.terminal = true) ∨ o.cashless.state = .pending)
    {t : State} (ht : { s.committing rest k o with toPart := (s.committing rest k o).toPart.walk } = t) :
    exec .orderCommit s = .next (t.committedReply tag) := by
  have stays : (s.committing rest k o).toPart.checkSettling k = (s.committing rest k o).toPart := by
    refine Part.checkSettling_rests fun o' ho' => ?_
    obtain rfl : { o with state := .committed } = o' := Option.some.inj ((Vector.getElem_set_self _).symm.trans ho')
    rw [← Bool.not_eq_true, Part.maySettle_committed]
    exact fun ⟨ended, hp⟩ => hw.elim (fun h => h ended) hp
  refine State.exec_orderCommit h hl hm hk ho hs hc ?_
  rw [stays]
  exact ht

end

/-- Settles O40: the refusals, ORDER_RESUME, and the commit by what follows it: the walk over one entry, nothing, the close,
or the operation that is sent or waits. -/
theorem orderCommitSettlesOrWaits : Obligations.OrderCommitSettlesOrWaits := by
  unfold Obligations.OrderCommitSettlesOrWaits
  intro s tag args rest hl hm
  have serving := Mode.serving_of_trading hm
  have length : exactly 2 args.length = true := by simp [exactly, hl]
  have admitted := admitLive_of_trading hm
  refine ⟨fun hnone => ⟨fun h => ?_, fun h => ?_⟩, fun k o hk ho => ⟨fun h => ?_, fun h hno => ?_, ?_, ?_⟩⟩
  · refine State.serve_refuses h serving length admitted ?_
    simp only [Part.orderCommit, Part.liveOrder_none (p := s.toPart.dequeue rest) hnone]
  · refine State.serve_refuses h serving length admitted ?_
    simp only [Part.orderResume, Part.liveOrder_none (p := s.toPart.dequeue rest) hnone]
  · by_cases hh : o.state = .halted ∧ o.cancel = false
    · rw [if_pos hh]
      obtain ⟨halted, live⟩ := hh
      refine (State.serve_admitted h serving length admitted).trans ?_
      rw [Part.orderResume_halted (p := s.toPart.dequeue rest) hk ho halted live,
        Part.modOrder_eq (p := s.toPart.dequeue rest) ho]
      rfl
    · rw [if_neg hh]
      exact State.serve_refuses h serving length admitted (Part.orderResume_refused hk ho hh)
  · exact State.serve_refuses h serving length admitted (Part.orderCommit_refused hk ho hno)
  · rintro h hs hc x it hr hit rfl hsp hmem o' v t
    let u := s.committing rest it.order o
    have walks {t : State} (ht : { u with toPart := u.toPart.walk } = t) :
        exec .orderCommit s = .next (t.committedReply tag) :=
      State.exec_orderCommit_walks h hl hm hk ho hs hc
        (.inl fun ended => by simpa [hsp, ItemState.terminal] using ended _ hmem it hit) ht
    have awake : u.svc.mode.dark = false := (congrArg Mode.dark s.committing_mode).trans (Mode.serving_not_dark serving)
    have own : u.ord.orders[it.order] = some o' := Vector.getElem_set_self _
    have walk : u.toPart.walk = u.toPart.tryEntry x := Part.walk_one awake hr
    refine ⟨fun hstay => ?_, fun e hgo htakes idle => ?_⟩
    · exact walks (t := u) (by rw [walk, State.tryEntry_stays (s := u) hit own hstay])
    · have released := State.releaseTo_eq (s := u) awake hr hit own idle
      refine (walks (t := u.released e x.item it o') ?_).trans (congrArg _ (u.released_committedReply tag e x.item it o'))
      rw [walk, State.tryEntry_goes (s := u) hit own hgo htakes, released]
  · intro h hs hc hr ended used v t settled unfocused
    have focus : unfocused = { s.pay with focus := if s.pay.focus = some o.number then none else s.pay.focus } := by
      simp only [unfocused]
      split <;> rfl
    let o' := { o with state := .committed }
    let u := s.committing rest k o
    have own : u.ord.orders[k] = some o' := Vector.getElem_set_self _
    refine ⟨fun hw => ?_, fun he hp hauth apart => ?_, fun he hp hauth hout hq hw hlate => ?_, fun he hp hauth hfull => ?_⟩
    · exact State.exec_orderCommit_walks h hl hm hk ho hs hc hw (t := u) (by rw [Part.walk_nil (p := u.toPart) hr])
    · refine (State.exec_orderCommit_settles h hl hm hk ho hs hc he hp (State.enterSettling_closes own hauth apart)
        (by rw [State.framesUnbound_ord]; exact hr)).trans (congrArg _ ?_)
      rw [State.committedReply, ← State.framesUnbound_handler, focus]
      simp only [State.withOrder, State.committing, Part.committed, Vector.set_set]
      rfl
    · intro op
      have number : u.toPart.orderIdx o'.number = some k := by
        rw [Part.SameNumbers.orderIdx (p := s.toPart) (Part.sameNumbers_set (o' := o') ho rfl rfl)]
        exact (congrArg _ (Part.orderIdx_number hk ho)).trans hk
      refine (State.exec_orderCommit_settles h hl hm hk ho hs hc he hp
        (State.enterSettling_sends (s := u) number own hauth hout hq hw hlate) hr).trans (congrArg _ ?_)
      rw [focus, Order.settlementOp_eq]
      simp only [State.withOrder, u, State.committing, Part.committed, Vector.set_set]
      rfl
    · intro op
      refine (State.exec_orderCommit_settles h hl hm hk ho hs hc he hp
        (State.enterSettling_waits (s := u) own hauth hfull) hr).trans (congrArg _ ?_)
      rw [focus, Order.settlementOp_eq]
      simp only [State.withOrder, u, State.committing, Part.committed, Vector.set_set]
      rfl

end Sys2Proof.Machine
end

section
/-! PROOFS. SECTOR_READ (R53 to R55, R57): its checks in their order, the request that joins a read queue, and the turn. -/

set_option Elab.async false

open Sys2Proof Sys2Proof.Machine

namespace Sys2Proof.Machine

/-! ### The turn -/

/-- The turn that runs goes on, and the next one begins when none runs (R57). -/
theorem Part.beginTurn_or (p : Part) :
    p.beginTurn = { p with csu := { p.csu with turn := p.csu.turn.or p.csu.nextTurn } } := by
  rw [Part.beginTurn_eq]
  cases ht : p.csu.turn with
  | none => rfl
  | some v => rw [if_neg nofun, Option.some_or, ← ht]

/-- Wherever the search for the next turn begins, it comes to every slot (R57). -/
theorem Cards.mem_turnOrder (c : Cards) (i : Fin 4) : i ∈ ([1, 2, 3, 0] : List (Fin 4)).map fun d => c.lastServed + d := by
  have every : ∀ d : Fin 4, d ∈ ([1, 2, 3, 0] : List (Fin 4)) := by decide
  exact List.mem_map.mpr ⟨i - c.lastServed, every _, add_sub_cancel _ _⟩

/-- The only slot whose queue holds a request has the next turn (R57). -/
theorem Cards.nextTurn_only {c : Cards} {i : Fin 4} (holds : c.slots[i].queue ≠ [])
    (others : ∀ j : Fin 4, j ≠ i → c.slots[j].queue = []) : c.nextTurn = some { slot := i, count := 0 } := by
  obtain ⟨j, hj⟩ := Option.isSome_iff_exists.mp (List.find?_isSome (p := fun j : Fin 4 => c.slots[j].queue != []).mpr
    ⟨i, c.mem_turnOrder i, bne_iff_ne.mpr holds⟩)
  have waits : c.slots[j].queue ≠ [] := bne_iff_ne.mp (List.find?_some (p := fun j : Fin 4 => c.slots[j].queue != []) hj)
  obtain rfl : j = i := by
    by_contra hne
    exact waits (others j hne)
  rw [Cards.nextTurn, hj, Option.map_some]

/-! ### The request that joins its queue -/

/-- The request of SECTOR_READ for slot `i`, with the owner tag of R55: a preview's in READY, the order's in BOUND. -/
def Cards.joiningRead (c : Cards) (i : Fin 4) (tag first count : Nat) : ReadReq :=
  { uid := c.nextUid, tag := tag, first := first, count := count, next := first, produced := 0
    owner := if c.slots[i].state = .ready then 0xFFF0 + i.val else c.slots[i].bound.getD 0
    preview := decide (c.slots[i].state = .ready), cancelPending := false, retried := false }

/-- The slot with a request at the tail of its queue, charged to the allowance of a READY slot (R54). -/
def Slot.readJoined (x : Slot) (r : ReadReq) : Slot :=
  { x with queue := x.queue ++ [r], allowance := if x.state = .ready then x.allowance - r.count else x.allowance }

/-- The slots and the transfer path with a request in its queue, before a turn begins (R54). -/
def Cards.readJoined (c : Cards) (i : Fin 4) (r : ReadReq) : Cards :=
  { c with slots := c.slots.set i (c.slots[i].readJoined r), nextUid := c.nextUid + 1 }

theorem Cards.readJoined_slot (c : Cards) (i : Fin 4) (r : ReadReq) :
    (c.readJoined i r).slots[i] = c.slots[i].readJoined r := Vector.getElem_set_self _

theorem Cards.readJoined_slot_ne (c : Cards) {i j : Fin 4} (r : ReadReq) (h : j ≠ i) :
    (c.readJoined i r).slots[j] = c.slots[j] :=
  Vector.getElem_set_ne i.isLt j.isLt fun hv => h (Fin.ext hv.symm)

/-- A request that joins empty queues has the next turn (R57). -/
theorem Cards.nextTurn_readJoined {c : Cards} (empty : ∀ j : Fin 4, c.slots[j].queue = []) (i : Fin 4) (r : ReadReq) :
    (c.readJoined i r).nextTurn = some { slot := i, count := 0 } := by
  refine Cards.nextTurn_only ?_ fun j hj => ?_
  · rw [Cards.readJoined_slot]
    exact List.append_ne_nil_of_right_ne_nil _ (List.cons_ne_nil _ _)
  · rw [Cards.readJoined_slot_ne c r hj, empty j]

/-- A request accepted: it joins its queue, a turn begins when none runs, and the REPLY carries the owner tag and what is
left of the allowance (R54, R55, R57). -/
theorem Part.acceptRead_eq (p : Part) (i : Fin 4) (tag first count : Nat) :
    let r := p.csu.joiningRead i tag first count
    let c := p.csu.readJoined i r
    p.acceptRead i tag first count = .done { p with csu := { c with turn := c.turn.or c.nextTurn } }
      (le2 r.owner ++ le2 (p.csu.slots[i].readJoined r).allowance) := by
  intro r c
  have ready : (p.csu.slots[i].state == .ready) = decide (p.csu.slots[i].state = .ready) := rfl
  rw [← p.csu.readJoined_slot i r]
  simp only [Part.acceptRead, Part.beginTurn_or, ready, decide_eq_true_eq]
  rfl

/-! ### The checks in their order -/

section
variable {p : Part} {args : List Byte} (tag : Nat)

theorem Part.sectorRead_badArgument (h : 4 ≤ u8 args 0 ∨ u16 args 6 = 0 ∨ 256 < u16 args 6) :
    p.sectorRead tag args = .refuse p .badArgument := by
  by_cases hs : 4 ≤ u8 args 0
  · simp only [Part.sectorRead, slotArg_none hs]
  · have slot : slotArg (u8 args 0) = some ⟨u8 args 0, Nat.not_le.mp hs⟩ := slotArg_some rfl
    simp only [Part.sectorRead, slot, if_pos (h.resolve_left hs)]

variable {i : Fin 4} (hi : u8 args 0 = i.val) (hc : ¬ (u16 args 6 = 0 ∨ 256 < u16 args 6))
include hi hc

theorem Part.sectorRead_foreign (h : p.csu.slots[i].state = .foreign) :
    p.sectorRead tag args = .refuse p .cardForeign := by
  simp only [Part.sectorRead, slotArg_some hi, if_neg hc, h, beq_self_eq_true, if_true]

theorem Part.sectorRead_wrongState (hf : p.csu.slots[i].state ≠ .foreign) (hr : p.csu.slots[i].state ≠ .ready)
    (hb : p.csu.slots[i].state ≠ .bound) : p.sectorRead tag args = .refuse p .wrongState := by
  simp only [Part.sectorRead, slotArg_some hi, if_neg hc, beq_iff_eq, if_neg hf, bne_iff_ne.mpr hr, bne_iff_ne.mpr hb,
    Bool.and_self, if_true]

/-- The checks of R54 that are left for a card that may be read. -/
theorem Part.sectorRead_readable (h : p.csu.slots[i].state = .ready ∨ p.csu.slots[i].state = .bound) :
    p.sectorRead tag args =
      if (p.csu.slots[i].identity.map (·.capacity)).getD 0 < u32 args 2 + u16 args 6 then .refuse p .outOfRange
      else if 8 ≤ p.occupancy i then .refuse p .noRoom
      else if p.csu.slots[i].state = .ready ∧ p.csu.slots[i].allowance < u16 args 6 then .refuse p .allowanceSpent
      else p.acceptRead i tag (u32 args 2) (u16 args 6) := by
  have known : p.csu.slots[i].state ≠ .foreign := by rcases h with h | h <;> rw [h] <;> nofun
  have readable : ¬ (p.csu.slots[i].state ≠ .ready ∧ p.csu.slots[i].state ≠ .bound) := by tauto
  simp only [Part.sectorRead, slotArg_some hi, if_neg hc, beq_iff_eq, if_neg known, Bool.and_eq_true, bne_iff_ne,
    if_neg readable, decide_eq_true_eq]
  rfl

end

/-- Settles O32: the checks one after the other, and the request that joins its queue with the turn that then runs. -/
theorem sectorReadJoinsTheQueue : Obligations.SectorReadJoinsTheQueue := by
  unfold Obligations.SectorReadJoinsTheQueue
  intro s tag args rest h hl hm refused first count
  have length : exactly 8 args.length = true := by simp [exactly, hl]
  have serving := Mode.serving_of_trading hm
  have admitted := admitLive_of_trading hm
  have refuses {st : Status} (hrun : (s.toPart.dequeue rest).sectorRead tag args = .refuse (s.toPart.dequeue rest) st) :
      refused st := State.serve_refuses h serving length admitted hrun
  refine ⟨fun hbad => refuses (Part.sectorRead_badArgument tag hbad), fun i hi hlow hhigh => ?_⟩
  intro x capacity
  have hc : ¬ (count = 0 ∨ 256 < count) := by omega
  refine ⟨fun hf => refuses (Part.sectorRead_foreign tag hi hc hf),
    fun hf hr hb => refuses (Part.sectorRead_wrongState tag hi hc hf hr hb), fun hst => ?_⟩
  have checks := Part.sectorRead_readable (p := s.toPart.dequeue rest) tag hi hc hst
  refine ⟨fun hfar => refuses (checks.trans (if_pos hfar)), fun hfit hfull => ?_, fun hfit hroom hr hspent => ?_,
    fun hfit hroom hleft => ?_⟩
  · exact refuses (checks.trans ((if_neg (Nat.not_lt.mpr hfit)).trans (if_pos hfull)))
  · exact refuses (checks.trans ((if_neg (Nat.not_lt.mpr hfit)).trans ((if_neg (Nat.not_le.mpr hroom)).trans
      (if_pos ⟨hr, hspent⟩))))
  · intro owner left r
    have accepts : (s.toPart.dequeue rest).sectorRead tag args = _ :=
      checks.trans ((if_neg (Nat.not_lt.mpr hfit)).trans ((if_neg (Nat.not_le.mpr hroom)).trans
        ((if_neg fun ⟨hr, hspent⟩ => Nat.not_lt.mpr (hleft hr) hspent).trans (Part.acceptRead_eq ..))))
    refine ⟨_, (State.serve_admitted h serving length admitted).trans (by rw [accepts]), rfl, fun v hv => ?_,
      fun hnone hempty => ?_⟩
    · exact congrArg (Option.or · _) hv
    · exact (congrArg (Option.or · _) hnone).trans (Cards.nextTurn_readJoined hempty i r)

end Sys2Proof.Machine
end

section
/-! PROOFS. What the settlement of an order leaves as it is (R46, R99 to R102, R129): the items, the release list, the bands,
the spool and the engines, and of each order the sums that its items make. -/

set_option Elab.async false

open Sys2Proof Sys2Proof.Machine

namespace Sys2Proof.Machine

/-! ### What is left aside -/

/-- The records that hold the items and their bytes: item entries, release list, raster intake, spool and engines. -/
structure Work where
  items : Vector (Option Item) 64
  release : List ReleaseEntry
  rin : RasterIntake
  spl : Spool
  engA : Engine
  engB : Engine

def Part.work (p : Part) : Work :=
  { items := p.ord.items, release := p.ord.release, rin := p.rin, spl := p.spl, engA := p.engA, engB := p.engB }

/-- The fields of an order that neither its binding nor its card operation touches. -/
structure Account where
  number : Nat
  state : OrderState
  items : List (Fin 64)
  total : Nat
  cashIn : Nat
  cardAuth : Nat
  consumed : Nat
  cancel : Bool

def Order.account (o : Order) : Account :=
  { number := o.number, state := o.state, items := o.items, total := o.total, cashIn := o.cashIn, cardAuth := o.cardAuth
    consumed := o.consumed, cancel := o.cancel }

/-- The work of a part and the accounts of its orders. -/
def Part.aside (p : Part) : Work × (Fin 32 → Option Account) := (p.work, fun k => (p.ord.orders[k]).map Order.account)

theorem Part.work_of_aside {p q : Part} (h : p.aside = q.aside) : p.work = q.work := congrArg Prod.fst h

theorem Part.account_of_aside {p q : Part} (h : p.aside = q.aside) (k : Fin 32) :
    (p.ord.orders[k]).map Order.account = (q.ord.orders[k]).map Order.account := congrFun (congrArg Prod.snd h) k

/-- A change of an order that keeps its account. -/
theorem Part.modOrder_aside (p : Part) (k : Fin 32) {f : Order → Order} (h : ∀ o, (f o).account = o.account) :
    (p.modOrder k f).aside = p.aside := by
  refine Prod.ext rfl (funext fun j => ?_)
  show ((p.ord.orders.set k _)[j]).map Order.account = _
  by_cases hj : j = k
  · subst hj
    rw [show (p.ord.orders.set j _)[j] = _ from Vector.getElem_set_self _, Option.map_map]
    exact congrArg (Option.map · _) (funext h)
  · rw [orders_set_ne _ _ hj]
    rfl

theorem foldl_aside {α : Type} {f : Part → α → Part} (h : ∀ p x, (f p x).aside = p.aside) (l : List α) (p : Part) :
    (l.foldl f p).aside = p.aside := by
  induction l generalizing p with
  | nil => rfl
  | cons x l ih => rw [List.foldl_cons, ih, h]

/-! ### The drop of a binding -/

theorem Part.kick_aside (p : Part) : p.kick.aside = p.aside := by
  unfold Part.kick
  split
  · rfl
  · split
    · rfl
    · split <;> rfl

theorem Part.feed_aside (p : Part) : p.feed.aside = p.aside := by
  rw [Part.feed, Part.refill_eq]
  show p.refill.kick.aside = p.aside
  rw [Part.kick_aside, Part.refill_eq]
  rfl

theorem Part.endRead_aside (p : Part) (i : Fin 4) (o : ReadOutcome) (r : ReadReq) : (p.endRead i o r).aside = p.aside := by
  rw [Part.endRead_eq]
  rfl

theorem Part.endAllReads_aside (p : Part) (i : Fin 4) (o : ReadOutcome) : (p.endAllReads i o).aside = p.aside := by
  rw [Part.endAllReads, Part.feed_aside, Part.endTurn_beginTurn]
  exact foldl_aside (fun p r => p.endRead_aside i o r) _ p

theorem Part.cancelReads_aside (p : Part) (i : Fin 4) : (p.cancelReads i).aside = p.aside := by
  unfold Part.cancelReads
  split
  · dsimp only
    rw [Part.feed_aside, foldl_aside fun p r => p.endRead_aside i .cancelled r]
    rfl
  · exact p.endAllReads_aside i .cancelled

theorem Part.releaseSlot_aside (p : Part) (i : Fin 4) : (p.releaseSlot i).aside = p.aside := by
  simp only [Part.releaseSlot]
  split
  · rw [Part.cancelReads_aside]
    rfl
  · rfl

theorem Part.dropBinding_aside (p : Part) (k : Fin 32) : (p.dropBinding k).aside = p.aside := by
  unfold Part.dropBinding
  split
  · split
    · rw [Part.releaseSlot_aside]
      exact p.modOrder_aside k fun _ => rfl
    · rfl
  · rfl

/-! ### The card operation -/

theorem Part.loseFocus_aside (p : Part) (n : Nat) : (p.loseFocus n).aside = p.aside := by
  rw [Part.loseFocus_eq]
  rfl

theorem Part.markHanded_aside (p : Part) (op : CashlessOp) : (p.markHanded op).aside = p.aside := by
  unfold Part.markHanded
  split
  · exact p.modOrder_aside _ fun _ => rfl
  · rfl

theorem Part.pump_aside (p : Part) : p.pump.aside = p.aside := by
  unfold Part.pump
  split
  · dsimp only
    split
    · rw [Part.markHanded_aside]
      rfl
    · rfl
    · rfl
  · rfl

theorem Part.handOp_aside (p : Part) (op : CashlessOp) : (p.handOp op).aside = p.aside := by
  unfold Part.handOp
  split
  · rw [Part.joinOp, Part.pump_aside]
    exact p.markHanded_aside op
  · rfl

/-! ### The settlement -/

/-- An order with an item at work does not settle (R99). -/
theorem Part.maySettle_working {p : Part} {o : Order} {id : Fin 64} {it : Item} (hid : id ∈ o.items)
    (hit : p.ord.items[id] = some it) (hw : it.state.terminal = false) : p.maySettle o = false := by
  have all : (o.items.all fun id => match p.ord.items[id] with | some it => it.state.terminal | none => true) = false :=
    List.all_eq_false.mpr ⟨id, hid, by simp only [hit, hw]; nofun⟩
  exact Bool.and_eq_false_iff.mpr (.inl (Bool.and_eq_false_iff.mpr (.inr all)))

/-- An OPEN order without a cancel does not settle (R99). -/
theorem Part.maySettle_opened (p : Part) {o : Order} (hs : o.state = .opened) (hc : o.cancel = false) :
    p.maySettle o = false := by
  simp only [Part.maySettle, hs, hc, Bool.false_and, Bool.or_false]
  rfl


theorem Part.capture_work (p : Part) (k : CaptureKind) : (p.capture k).work = p.work := rfl

/-- A SETTLING order closes, but for the steps that come after its record stands CLOSED (R102). -/
theorem Part.closeOrder_settling {p : Part} {k : Fin 32} {o : Order} (ho : p.ord.orders[k] = some o)
    (hs : o.state = .settling) (captured : Option Nat) :
    p.closeOrder k captured = (({ p with
      ord := { p.ord with orders := p.ord.orders.set k (some { o with state := .closed, captured := captured }) }
      pay := { p.pay with kept := p.pay.kept + o.cashUsed, pool := p.pay.pool + o.changeDue } }.loseFocus
        o.number).capture .orderClosed).dropBinding k := by
  simp only [Part.closeOrder, ho, hs, beq_self_eq_true, if_true, Part.modOrder, Option.map_some]

theorem Part.closeOrder_work (p : Part) (k : Fin 32) (captured : Option Nat) : (p.closeOrder k captured).work = p.work := by
  unfold Part.closeOrder
  split
  · split
    · dsimp only
      rw [Part.work_of_aside (Part.dropBinding_aside _ k), Part.capture_work, Part.work_of_aside (Part.loseFocus_aside _ _)]
      rfl
    · rfl
  · rfl

theorem Part.enterSettling_work (p : Part) (k : Fin 32) : (p.enterSettling k).work = p.work := by
  cases ho : p.ord.orders[k] with
  | none => simp only [Part.enterSettling, ho]
  | some o =>
    rw [Part.enterSettling_unfocused ho]
    split
    · exact Part.closeOrder_work ..
    · rw [Part.work_of_aside (Part.handOp_aside ..)]
      rfl

theorem Part.checkSettling_work (p : Part) (k : Fin 32) : (p.checkSettling k).work = p.work := by
  unfold Part.checkSettling
  split
  · split
    · exact p.enterSettling_work k
    · rfl
  · rfl

/-- An order that settles is SETTLING, or CLOSED at once, with the account that it had (R99, R102). -/
theorem Part.enterSettling_account {p : Part} {k : Fin 32} {o : Order} (ho : p.ord.orders[k] = some o) :
    ∃ o', (p.enterSettling k).ord.orders[k] = some o' ∧ (o'.state = .settling ∨ o'.state = .closed)
      ∧ o'.account = { o.account with state := o'.state } := by
  have of {q r : Part} {x : Order} (same : q.aside = r.aside) (own : r.ord.orders[k] = some x)
      (hx : x.state = .settling ∨ x.state = .closed) (hacc : x.account = { o.account with state := x.state }) :
      ∃ o', q.ord.orders[k] = some o' ∧ (o'.state = .settling ∨ o'.state = .closed)
        ∧ o'.account = { o.account with state := o'.state } := by
    have found := Part.account_of_aside same k
    rw [own, Option.map_some] at found
    obtain ⟨o', ho', account⟩ := Option.map_eq_some_iff.mp found
    have state : o'.state = x.state := congrArg Account.state account
    exact ⟨o', ho', state ▸ hx, account.trans (state ▸ hacc)⟩
  rw [Part.enterSettling_unfocused ho]
  have own : (p.unfocusing k o).ord.orders[k] = some o.entering := Vector.getElem_set_self _
  split
  · let closed : Order := { o.entering with state := .closed, captured := some 0 }
    rw [Part.closeOrder_settling own rfl]
    exact of (x := closed) ((Part.dropBinding_aside _ k).trans (Part.loseFocus_aside _ _)) (Vector.getElem_set_self _)
      (.inr rfl) rfl
  · exact of (Part.handOp_aside _ _) own (.inl rfl) rfl

end Sys2Proof.Machine
end

section
/-! PROOFS. The withdrawal of an item (R78, R97, R104, R143, R144, R158): what becomes of its bands, and the whole of it. -/

set_option Elab.async false

open Sys2Proof Sys2Proof.Machine

namespace Sys2Proof.Machine

/-! ### Bands -/

/-- An item receives bands (R142). -/
def Part.receives (p : Part) (id : Fin 64) : Bool := (p.rin.intake[id]).any (·.receiving)

/-- The band in conversion belongs to an item of `l` that receives (R144). -/
def Part.bandStops (p : Part) (l : List (Fin 64)) : Bool := p.rin.conv.any fun b => b.item ∈ l && p.receives b.item

/-- A queued band names an item of `l` that receives (R144). -/
def Part.bandNamed (p : Part) (l : List (Fin 64)) (band : List Byte) : Bool :=
  l.any fun id => p.receives id && bandNames id band

/-- A kind is captured when its event happens (R15). -/
def Service.captureIf (v : Service) (k : CaptureKind) (happens : Bool) : Service := if happens then v.capture k else v

theorem Service.captureIf_true {v : Service} {k : CaptureKind} {b : Bool} (h : b = true) : v.captureIf k b = v.capture k :=
  if_pos h

theorem Service.captureIf_false {v : Service} {k : CaptureKind} {b : Bool} (h : ¬ b = true) : v.captureIf k b = v := if_neg h

/-- The queue without the bands of an item, and BAND_DISCARD when there was one (R143). -/
theorem Part.dropBands_eq (p : Part) (id : Fin 64) : p.dropBands id = { p with
    rin := { p.rin with queue := p.rin.queue.filter fun b => !bandNames id b }
    svc := p.svc.captureIf .bandDiscard (p.rin.queue.any (bandNames id)) } := by
  unfold Part.dropBands Service.captureIf
  cases h : p.rin.queue.any (bandNames id) with
  | true => rfl
  | false =>
    have kept : p.rin.queue.filter (fun b => !bandNames id b) = p.rin.queue :=
      List.filter_eq_self.mpr fun b hb => by rw [List.any_eq_false] at h; simpa using h b hb
    simp only [Bool.false_eq_true, if_false, kept]

theorem Part.bandNamed_one (p : Part) (id : Fin 64) (band : List Byte) :
    p.bandNamed [id] band = (p.receives id && bandNames id band) := by
  simp only [Part.bandNamed, List.any_cons, List.any_nil, Bool.or_false]

theorem Part.bandStops_one (p : Part) (id : Fin 64) :
    p.bandStops [id] = (p.receives id && p.rin.conv.any fun b => b.item = id) := by
  cases hb : p.rin.conv with
  | none => simp only [Part.bandStops, hb, Option.any_none, Bool.and_false]
  | some b =>
    by_cases he : b.item = id
    · subst he
      simp only [Part.bandStops, hb, Option.any_some, List.mem_singleton, decide_true, Bool.true_and, Bool.and_true]
    · simp only [Part.bandStops, hb, Option.any_some, List.mem_singleton, he, decide_false, Bool.false_and, Bool.and_false]

/-- The part once an item no longer receives (R144): its band is abandoned and its queued bands are dropped. -/
def Part.intakeStopped (p : Part) (id : Fin 64) : Part :=
  { p with
    rin := { p.rin with
      intake := p.rin.intake.set id ((p.rin.intake[id]).map Intake.idle)
      conv := if p.bandStops [id] then none else p.rin.conv
      queue := p.rin.queue.filter fun b => !p.bandNamed [id] b }
    spl := { p.spl with port := if p.bandStops [id] then disowned p.spl.port .intake else p.spl.port }
    svc := p.svc.captureIf .bandDiscard (p.rin.queue.any (p.bandNamed [id])) }

/-- An item that does not receive leaves all as it is (R144). -/
theorem Part.intakeStopped_rests {p : Part} {id : Fin 64} (h : p.receives id = false) : p.intakeStopped id = p := by
  have kept : (p.rin.intake[id]).map Intake.idle = p.rin.intake[id] := by
    cases hx : p.rin.intake[id] with
    | none => rfl
    | some x =>
      have hrec : x.receiving = false := by simpa only [Part.receives, hx, Option.any_some] using h
      rw [Option.map_some, Intake.idle, ← hrec]
  have named : p.bandNamed [id] = fun _ => false := funext fun b => by rw [Part.bandNamed_one, h, Bool.false_and]
  have none_named : p.rin.queue.any (fun _ => false) = false := List.any_eq_false.mpr fun _ _ => nofun
  simp only [Part.intakeStopped, kept, set_self, Part.bandStops_one, named, h, Bool.false_and, Bool.not_false, none_named,
    Bool.false_eq_true, if_false, Service.captureIf, List.filter_true]

/-- The stop of an item's receiving (R144). -/
theorem Part.stopReceiving_eq (p : Part) (id : Fin 64) : p.stopReceiving id = p.intakeStopped id := by
  unfold Part.stopReceiving
  cases hx : p.rin.intake[id] with
  | none => exact (Part.intakeStopped_rests (by simp only [Part.receives, hx, Option.any_none])).symm
  | some x =>
    have own : p.receives id = x.receiving := by simp only [Part.receives, hx, Option.any_some]
    cases hr : x.receiving with
    | false =>
      rw [hr] at own
      simp only [hr, Bool.false_eq_true, if_false, Part.intakeStopped_rests own]
    | true =>
      rw [hr] at own
      have named : p.bandNamed [id] = bandNames id := funext fun b => by rw [Part.bandNamed_one, own, Bool.true_and]
      simp only [hr, if_true, Part.intakeStopped, Part.dropBands_eq, hx, Option.map_some, named, Part.bandStops_one, own,
        Bool.true_and]
      cases hb : p.rin.conv with
      | none => simp only [Part.setIntake, hb, Option.any_none, Bool.false_eq_true, if_false]; rfl
      | some b =>
        by_cases he : b.item = id
        · simp only [Part.setIntake, hb, he, Option.any_some, decide_true, if_true, disowned, beq_iff_eq,
            Part.abandonBand, Part.disownAccess]
          rfl
        · simp only [Part.setIntake, hb, he, Option.any_some, decide_false, Bool.false_eq_true, if_false]
          rfl

/-! ### The withdrawal -/

/-- A withdrawn item (R78, R97, R104). -/
def Item.withdrawn (it : Item) (reason : Option FailReason) : Item :=
  { it with state := .withdrawn, reason := reason, engine := none, debited := false }

/-- The engine without an item in its queue (R78). -/
def Engine.without (en : Engine) (id : Fin 64) : Engine := { en with queue := en.queue.filter (· != id) }

theorem Region.letGo_eq (g : Region) (id : Fin 64) :
    g.letGo id = if g.holder = some id then { g with holder := none } else g := by
  simp only [Region.letGo, beq_iff_eq]

/-- The part once an item is withdrawn (R78, R97, R104, R144, R158). -/
def Part.withdrawn (p : Part) (id : Fin 64) (it : Item) (reason : Option FailReason) : Part :=
  { p.intakeStopped id with
    ord := { p.ord with
      items := p.ord.items.set id (some (it.withdrawn reason))
      orders := p.ord.orders.set it.order ((p.ord.orders[it.order]).map it.resetCharge)
      release := p.ord.release.filter fun e => e.item != id }
    engA := p.engA.without id
    engB := p.engB.without id
    spl := { (p.intakeStopped id).spl with
      regions := p.spl.regions.set it.region (p.spl.regions[it.region].letGo id) } }

/-- A reversal (R97): the debit flag is clear, and the order has what was debited but for the copies delivered. -/
theorem Part.reverse_eq {p : Part} {id : Fin 64} {it : Item} (hit : p.ord.items[id] = some it) :
    p.reverse id = { p with ord := { p.ord with
      items := p.ord.items.set id (some { it with debited := false })
      orders := p.ord.orders.set it.order
        ((p.ord.orders[it.order]).map fun o => { o with consumed := o.consumed - it.reversal }) } } := by
  cases hd : it.debited with
  | true => simp only [Part.reverse, hit, hd, if_true, Part.modOrder, Part.modItem, Option.map_some, Item.reversal]
  | false =>
    have order : (p.ord.orders[it.order]).map (fun o => { o with consumed := o.consumed - it.reversal })
        = p.ord.orders[it.order] := by
      cases p.ord.orders[it.order] with
      | none => rfl
      | some o => simp only [Option.map_some, Item.reversal, hd, Bool.false_eq_true, if_false, Nat.sub_zero]
    have item : ({ it with debited := false } : Item) = it := by rw [← hd]
    have kept : p.ord.items.set id (some it) = p.ord.items := by rw [← hit, set_self]
    simp only [Part.reverse, hit, hd, Bool.false_eq_true, if_false, order, item, kept, set_self]

/-- The withdrawal of an item in use, field by field. -/
theorem Part.withdrawItem_eq {p : Part} {id : Fin 64} {it : Item} (hit : p.ord.items[id] = some it)
    (reason : Option FailReason) : p.withdrawItem id reason = p.withdrawn id it reason := by
  have own (it' : Item) : (p.ord.items.set id (some it'))[id] = some it' := Vector.getElem_set_self _
  have order (o : Option Order) : (p.ord.orders.set it.order o)[it.order] = o := Vector.getElem_set_self _
  simp only [Part.withdrawItem, hit, Part.stopReceiving_eq, Part.reverse_eq hit, Part.leaveQueues, Part.modItem,
    Part.modOrder, Part.modEng, own, order, Option.map_some, Option.map_map, Vector.set_set, Part.clearHolder, Part.modRegion]
  rfl

end Sys2Proof.Machine
end

section
/-! PROOFS. ITEM_ADD (R69, R70, R73, R76, R77, R142, R157): its checks in their order, and the new item entry. -/

set_option Elab.async false

open Sys2Proof Sys2Proof.Machine

namespace Sys2Proof.Machine

/-! ### The arguments -/

theorem regionArg_none {n : Nat} (h : 16 ≤ n) : regionArg n = none := dif_neg (Nat.not_lt.mpr h)

theorem regionArg_some {n : Nat} {r : Fin 16} (h : n = r.val) : regionArg n = some r := by
  subst h
  exact dif_pos r.isLt

/-- Copies, width and length that check 6 of R76 lets pass. -/
def rasterFits (copies w l : Nat) : Prop :=
  1 ≤ copies ∧ copies ≤ 99 ∧ w % 2 = 0 ∧ 2 ≤ w ∧ w ≤ 1920 ∧ 1 ≤ l ∧ l ≤ 2400

theorem rasterOk_iff (copies w l : Nat) : rasterOk copies w l = true ↔ rasterFits copies w l := by
  simp only [rasterOk, Bool.and_eq_true, decide_eq_true_eq, and_assoc, rasterFits]

/-! ### The item IDs and the regions -/

theorem Part.freeItem_eq_none {p : Part} (h : ∀ id : Fin 64, p.ord.items[id] ≠ none) : p.freeItem = none := by
  rw [Part.freeItem, ← Fin.find?_eq_find?_finRange, Fin.find?_eq_none_iff]
  exact fun id => Option.isNone_eq_false_iff.mpr (Option.isSome_iff_ne_none.mpr (h id))

theorem Part.freeItem_eq_some {p : Part} {id : Fin 64} (hid : p.ord.items[id] = none)
    (lowest : ∀ j : Fin 64, j < id → p.ord.items[j] ≠ none) : p.freeItem = some id := by
  rw [Part.freeItem, ← Fin.find?_eq_find?_finRange, Fin.find?_eq_some_iff]
  exact ⟨by rw [hid]; rfl, fun j hj => Option.isNone_eq_false_iff.mpr (Option.isSome_iff_ne_none.mpr (lowest j hj))⟩

/-- Check 7 of R76 for a region index. -/
theorem Part.regionFor_region (p : Part) {n : Nat} {r : Fin 16} (h : n = r.val) (w l : Nat) :
    p.regionFor n w l =
      if p.spl.regions[r].valid = false then .error .noRoom
      else if p.spl.regions[r].holder ≠ none then .error .inUse
      else if p.spl.regions[r].size * Config.mib / 4 < w * l then .error .noRoom
      else .ok r := by
  simp only [Part.regionFor, regionArg_some h, Bool.not_eq_true', Option.isSome_iff_ne_none]

theorem Part.regionFor_noRegion (p : Part) {n : Nat} (h : 16 ≤ n) (w l : Nat) : p.regionFor n w l = .error .badArgument := by
  simp only [Part.regionFor, regionArg_none h]

/-! ### The checks in their order -/

theorem Part.itemAdd_unknown {p : Part} {args : List Byte} (h : p.orderIdx (u16 args 0) = none) :
    p.itemAdd args = .refuse p .badArgument := by
  simp only [Part.itemAdd, Part.liveOrder_none h]

/-- The row that the product code of the arguments names (R69). -/
def Part.addedRow (p : Part) (args : List Byte) : ProductRow := p.ord.products[productRow p.ord.priceKey (u16 args 2)]

section
variable {p : Part} {args : List Byte} {k : Fin 32} {o : Order} (hk : p.orderIdx (u16 args 0) = some k)
  (ho : p.ord.orders[k] = some o)
include hk ho

theorem Part.itemAdd_wrongState (h : o.state ≠ .opened ∨ o.cancel = true) : p.itemAdd args = .refuse p .wrongState := by
  simp only [Part.itemAdd, Part.liveOrder_eq hk ho]
  exact if_pos (by simpa using h)

variable (hs : o.state = .opened) (hc : o.cancel = false)
include hs hc

theorem Part.itemAdd_full (h : 16 ≤ o.items.length ∨ ∀ id : Fin 64, p.ord.items[id] ≠ none) :
    p.itemAdd args = .refuse p .noRoom := by
  simp only [Part.itemAdd, Part.liveOrder_eq hk ho, hs, hc, bne_self_eq_false, Bool.or_self, Bool.false_eq_true, if_false]
  by_cases hn : 16 ≤ o.items.length
  · exact if_pos hn
  · rw [if_neg (c := Config.orderItemRoom ≤ _) hn, Part.freeItem_eq_none (h.resolve_left hn)]

/-- The checks that are left once the order and the item ID have passed (R76). -/
theorem Part.itemAdd_free (hn : o.items.length < 16) {id : Fin 64} (free : p.freeItem = some id) : p.itemAdd args =
    if 4095 < u16 args 2 then .refuse p .badArgument
    else if (p.addedRow args).valid = false then .refuse p .noProduct
    else if rasterOk (u8 args 4) (u16 args 6) (u16 args 8) = false then .refuse p .badArgument
    else
      match p.regionFor (u8 args 5) (u16 args 6) (u16 args 8) with
      | .error st => .refuse p st
      | .ok r =>
        if 9999999 < o.total + (p.addedRow args).itemPrice (u8 args 4) then .refuse p .amountLimit
        else p.addItem k o id (p.addedRow args) (u16 args 2) (u8 args 4) (u16 args 6) (u16 args 8) r := by
  have room : ¬ Config.orderItemRoom ≤ o.items.length := Nat.not_le.mpr hn
  simp only [Part.itemAdd, Part.liveOrder_eq hk ho, hs, hc, bne_self_eq_false, Bool.or_self, Bool.false_eq_true, if_false,
    if_neg room, free, Bool.not_eq_true']
  rfl

end

/-! ### The new entry -/

/-- The item that an accepted ITEM_ADD makes (R73, R77). -/
def Item.added (k : Fin 32) (sequence : Nat) (row : ProductRow) (code copies w l : Nat) (r : Fin 16) (f : Finish)
    (tone : Fin 4) : Item :=
  { order := k, sequence := sequence, code := code, price := row.itemPrice copies, maskA := row.mask.getLsbD 0
    maskB := row.mask.getLsbD 1, media := row.media, finish := f, tone := tone, copies := copies, copiesDone := 0, width := w
    length := l, region := r, received := 0, state := .defined, debited := false, reprintUsed := false, engine := none
    reason := none }

/-- An item of a row of the product table joins its order, holds its region and starts to receive (R77, R142, R157). -/
theorem Part.addItem_eq {p : Part} {k : Fin 32} {o : Order} (ho : p.ord.orders[k] = some o) (id : Fin 64) {row : ProductRow}
    {f : Finish} {tone : Fin 4} (hf : finishArg row.finish = some f) (ht : row.tone = tone.val) (code copies w l : Nat)
    (r : Fin 16) :
    p.addItem k o id row code copies w l r = .done { p with
      ord := { p.ord with
        items := p.ord.items.set id (some (Item.added k p.ord.admission row code copies w l r f tone))
        admission := (p.ord.admission + 1) % 4294967296
        orders := p.ord.orders.set k (some { o with items := o.items ++ [id], total := o.total + row.itemPrice copies }) }
      spl := { p.spl with regions := p.spl.regions.set r { p.spl.regions[r] with holder := some id } }
      rin := { p.rin with intake := p.rin.intake.set id (some { segments := [], receiving := true }) } }
      (byte id.val :: (le4 (row.itemPrice copies) ++ le4 (o.total + row.itemPrice copies))) := by
  have htone : Fin.ofNat 4 row.tone = tone := by rw [ht, Fin.ofNat_val_eq_self]
  simp only [Part.addItem, Part.modOrder, ho, hf, htone, Option.map_some, Option.getD_some]
  rfl

/-- Settles O38: the checks one after the other in the order of R76, and the entry of the item that passes them. -/
theorem itemAddFillsAnEntry : Obligations.ItemAddFillsAnEntry := by
  unfold Obligations.ItemAddFillsAnEntry
  intro s tag args rest h hl hm refused code copies w l row price raster
  have length : exactly 10 args.length = true := by simp [exactly, hl]
  have serving : s.svc.mode.serving = true := by rw [hm]; rfl
  have admitted : admitNew s.svc.mode = none := by rw [hm]; rfl
  let p := s.toPart.dequeue rest
  have refuses {st : Status} (hrun : p.itemAdd args = .refuse p st) : refused st :=
    State.serve_refuses h serving length admitted hrun
  refine ⟨fun hn => refuses (Part.itemAdd_unknown hn), fun k o hk ho => ⟨fun hno => refuses
    (Part.itemAdd_wrongState hk ho hno), fun hs hc => ⟨fun full => refuses (Part.itemAdd_full hk ho hs hc full), ?_⟩⟩⟩
  intro id hn hid lowest
  have checks := Part.itemAdd_free (p := p) hk ho hs hc hn (Part.freeItem_eq_some hid lowest)
  refine ⟨fun hcode => refuses (checks.trans (if_pos hcode)), fun hcode hv => ?_, fun hcode hv hbad => ?_, ?_⟩
  · exact refuses (checks.trans ((if_neg (Nat.not_lt.mpr hcode)).trans (if_pos hv)))
  · have known := checks.trans ((if_neg (Nat.not_lt.mpr hcode)).trans (if_neg (ne_false_of_eq_true hv)))
    refine refuses (known.trans ?_)
    by_cases hr : raster
    · rw [if_neg (ne_false_of_eq_true ((rasterOk_iff ..).mpr hr)),
        Part.regionFor_noRegion p (hbad.resolve_left (not_not_intro hr))]
    · exact if_pos (Bool.eq_false_iff.mpr fun hok => hr ((rasterOk_iff ..).mp hok))
  intro r hcode hv hr hreg g
  have fits := checks.trans ((if_neg (Nat.not_lt.mpr hcode)).trans ((if_neg (ne_false_of_eq_true hv)).trans
    (if_neg (ne_false_of_eq_true ((rasterOk_iff ..).mpr hr)))))
  have region := p.regionFor_region hreg (u16 args 6) (u16 args 8)
  refine ⟨fun hg => ?_, fun hg hh => ?_, fun hg hh hsmall => ?_, fun hg hh hroom => ?_⟩
  · rw [region.trans (if_pos hg)] at fits
    exact refuses fits
  · rw [region.trans ((if_neg (ne_false_of_eq_true hg)).trans (if_pos hh))] at fits
    exact refuses fits
  · rw [region.trans ((if_neg (ne_false_of_eq_true hg)).trans ((if_neg (not_not_intro hh)).trans (if_pos hsmall)))] at fits
    exact refuses fits
  · rw [region.trans ((if_neg (ne_false_of_eq_true hg)).trans ((if_neg (not_not_intro hh)).trans
      (if_neg (Nat.not_lt.mpr hroom))))] at fits
    refine ⟨fun hlimit => refuses (fits.trans (if_pos hlimit)), fun f tone hlow hf ht => ?_⟩
    intro t
    have added := fits.trans ((if_neg (Nat.not_lt.mpr hlow)).trans (Part.addItem_eq (p := p) ho id hf ht code copies w l r))
    exact (State.serve_admitted h serving length admitted).trans (by rw [added]; rfl)

end Sys2Proof.Machine
end

section
/-! PROOFS. ITEM_WITHDRAW (R78, R97, R98, R142, R144): its refusals, and the item that is taken back. -/

set_option Elab.async false

open Sys2Proof Sys2Proof.Machine

namespace Sys2Proof.Machine

/-! ### The withdrawal of an item with its walk -/

/-- The funds reach the total at a withdrawal and did not before (R98). -/
theorem Order.resetCharge_funded_iff {o : Order} {it : Item} (hc : o.cancel = false) :
    ((it.resetCharge o).isFunded && !o.isFunded) = true ↔ o.state = .committed ∧ o.cashIn + o.cardAuth < o.total
      ∧ o.total - it.price ≤ o.cashIn + o.cardAuth := by
  simp only [Order.isFunded, Item.resetCharge, hc, Bool.not_false, Bool.and_true, Bool.and_eq_true, Bool.not_eq_true',
    Bool.and_eq_false_iff, beq_iff_eq, decide_eq_true_eq, decide_eq_false_iff_not, Nat.not_le, beq_eq_false_iff_ne]
  tauto

section
variable {p : Part} {id : Fin 64} {it : Item} {o : Order} (ho : p.ord.orders[it.order] = some o)
include ho

theorem Part.withdrawn_order (reason : Option FailReason) :
    (p.withdrawn id it reason).ord.orders[it.order] = some (it.resetCharge o) := by
  refine (Vector.getElem_set_self _).trans ?_
  rw [ho, Option.map_some]

/-- A withdrawal and its check for ORDER_FUNDED; no other item waits in the release list, so the walk moves none (R78, R86,
R98). -/
theorem Part.withdrawWithWalk_alone (hit : p.ord.items[id] = some it) (alone : ∀ e ∈ p.ord.release, e.item = id) :
    p.withdrawWithWalk id = { p.withdrawn id it none with
      svc := (p.withdrawn id it none).svc.captureIf .orderFunded ((it.resetCharge o).isFunded && !o.isFunded) } := by
  have before : p.orderFunded it.order = o.isFunded := by rw [Part.orderFunded, ho]
  have after : (p.withdrawn id it none).orderFunded it.order = (it.resetCharge o).isFunded := by
    rw [Part.orderFunded, Part.withdrawn_order ho]
  have checked : (p.withdrawn id it none).fundedCheck it.order o.isFunded = { p.withdrawn id it none with
      svc := (p.withdrawn id it none).svc.captureIf .orderFunded ((it.resetCharge o).isFunded && !o.isFunded) } := by
    rw [Part.fundedCheck, after, Service.captureIf]
    split <;> rfl
  have empty : (p.withdrawn id it none).ord.release = [] :=
    List.filter_eq_nil_iff.mpr fun e he => by rw [alone e he, bne_self_eq_false]; nofun
  simp only [Part.withdrawWithWalk, hit, before, Part.withdrawItem_eq hit, checked]
  rw [Part.walk_nil (by exact empty), ite_self]

/-- The order does not settle when another item is at work, or while it is OPEN (R99). -/
theorem Part.checkSettling_withdrawn {q : Part} (hc : o.cancel = false)
    (hw : o.state = .opened ∨ (o.state = .committed ∧ ∃ j ∈ o.items, j ≠ id ∧ ∃ other, p.ord.items[j] = some other
      ∧ other.state.terminal = false)) (hq : q.ord = (p.withdrawn id it none).ord) :
    q.checkSettling it.order = q := by
  refine Part.checkSettling_rests fun o' ho' => ?_
  obtain rfl : it.resetCharge o = o' := by
    rw [hq, Part.withdrawn_order ho] at ho'
    exact Option.some.inj ho'
  obtain hs | ⟨-, j, hj, hne, other, hother, working⟩ := hw
  · exact Part.maySettle_opened _ hs hc
  · refine Part.maySettle_working (id := j) (it := other) hj ?_ working
    rw [hq]
    exact (orders_set_ne _ _ hne).trans hother

end

/-! ### The request -/

theorem itemArg_none {n : Nat} (h : 64 ≤ n) : itemArg n = none := dif_neg (Nat.not_lt.mpr h)

theorem itemArg_some {n : Nat} {id : Fin 64} (h : n = id.val) : itemArg n = some id := by
  subst h
  exact dif_pos id.isLt

section
variable {p : Part} {args : List Byte}

theorem Part.itemWithdraw_noItem (h : 64 ≤ u8 args 0) : p.itemWithdraw args = .refuse p .badArgument := by
  simp only [Part.itemWithdraw, itemArg_none h]

variable {id : Fin 64} (hid : u8 args 0 = id.val)
include hid

theorem Part.itemWithdraw_free (h : p.ord.items[id] = none) : p.itemWithdraw args = .refuse p .badArgument := by
  simp only [Part.itemWithdraw, itemArg_some hid, h]

variable {it : Item} (hit : p.ord.items[id] = some it)
include hit

theorem Part.itemWithdraw_printing (h : it.state = .printing) : p.itemWithdraw args = .refuse p .busy := by
  simp only [Part.itemWithdraw, itemArg_some hid, hit, h]

theorem Part.itemWithdraw_ended (h : it.state = .done ∨ it.state = .failed ∨ it.state = .withdrawn) :
    p.itemWithdraw args = .refuse p .wrongState := by
  rcases h with h | h | h <;> simp only [Part.itemWithdraw, itemArg_some hid, hit, h]

theorem Part.itemWithdraw_waiting
    (h : it.state = .defined ∨ it.state = .receiving ∨ it.state = .spooled ∨ it.state = .queued) :
    let q := (p.withdrawWithWalk id).checkSettling it.order
    p.itemWithdraw args = .done q (le4 (q.totalOf it.order) ++ le4 it.reversal) := by
  rcases h with h | h | h | h <;> simp only [Part.itemWithdraw, itemArg_some hid, hit, h]

end

/-- The band in conversion is the item's own, and it receives (R144). -/
theorem Part.bandStops_iff {p : Part} {id : Fin 64} {x : Intake} (hx : p.rin.intake[id] = some x) :
    p.bandStops [id] = true ↔ x.receiving = true ∧ ∃ b, p.rin.conv = some b ∧ b.item = id := by
  simp only [Part.bandStops_one, Part.receives, hx, Option.any_some, Bool.and_eq_true, Option.any_eq_true, decide_eq_true_eq]

/-- A queued band names the item, and it receives (R144). -/
theorem Part.bandNamed_iff {p : Part} {id : Fin 64} {x : Intake} (hx : p.rin.intake[id] = some x) :
    p.rin.queue.any (p.bandNamed [id]) = true ↔ x.receiving = true ∧ ∃ b ∈ p.rin.queue, bandNames id b = true := by
  simp only [List.any_eq_true, Part.bandNamed_one, Part.receives, hx, Option.any_some, Bool.and_eq_true]
  tauto

/-- Settles O39: the refusals by the item's state, and the withdrawal, after which neither a walk nor a settlement moves
anything. -/
theorem itemWithdrawTakesTheItemBack : Obligations.ItemWithdrawTakesTheItemBack := by
  unfold Obligations.ItemWithdrawTakesTheItemBack
  intro s tag arg rest h hm refused
  have serving := Mode.serving_of_trading hm
  have admitted := admitLive_of_trading hm
  let p := s.toPart.dequeue rest
  have refuses {st : Status} (hrun : p.itemWithdraw [arg] = .refuse p st) : refused st :=
    State.serve_refuses h serving rfl admitted hrun
  refine ⟨fun hbig => refuses (Part.itemWithdraw_noItem hbig), fun id (hid : u8 [arg] 0 = id.val) => ⟨fun hfree => refuses
    (Part.itemWithdraw_free hid hfree), fun it hit => ⟨fun hst => refuses (Part.itemWithdraw_printing hid hit hst),
      fun hst => refuses (Part.itemWithdraw_ended hid hit hst), ?_⟩⟩⟩
  intro o x hst ho hx hc hw alone back o' t stopped dropped funded
  have taken := Part.withdrawWithWalk_alone (p := p) ho hit alone
  have settles := Part.checkSettling_withdrawn (p := p) ho (q := p.withdrawWithWalk id) hc hw (by rw [taken])
  have total : (p.withdrawWithWalk id).totalOf it.order = o.total - it.price := by
    rw [Part.totalOf, taken, show (Part.ord _).orders[it.order] = _ from Part.withdrawn_order (p := p) ho none]
    rfl
  have answer : p.itemWithdraw [arg] = .done (p.withdrawWithWalk id) (le4 (o.total - it.price) ++ le4 it.reversal) := by
    rw [Part.itemWithdraw_waiting (p := p) hid hit hst, settles, total]
  have empty : (p.ord.release.filter fun e => e.item != id) = [] :=
    List.filter_eq_nil_iff.mpr fun e he => by rw [alone e he, bne_self_eq_false]; nofun
  have hx' : p.rin.intake[id] = some x := hx
  have stops := Part.bandStops_iff hx'
  have drops := Part.bandNamed_iff hx'
  have funds : ((it.resetCharge o).isFunded && !o.isFunded) = true ↔ funded := Order.resetCharge_funded_iff hc
  have record : (p.ord.orders[it.order]).map it.resetCharge = some o' := by
    rw [show p.ord.orders[it.order] = some o from ho]
    rfl
  refine ⟨_, (State.serve_admitted h serving rfl admitted).trans (by rw [answer, taken]), ?_, fun hs => ⟨?_, ?_⟩,
    fun hs => ⟨?_, ?_⟩, ?_, fun hd hf => ?_, fun hd hf => ?_, fun hd hf => ?_, fun hd hf => ?_⟩
  · rw [Part.withdrawn, empty, record, Region.letGo_eq, Part.intakeStopped, hx']
    rfl
  · exact if_pos (stops.mpr hs)
  · exact if_pos (stops.mpr hs)
  · exact if_neg (mt stops.mp hs)
  · exact if_neg (mt stops.mp hs)
  · exact List.filter_congr fun b _ => by rw [Part.bandNamed_one, Part.receives, hx']; rfl
  · exact (Service.captureIf_false (mt funds.mp hf)).trans (Service.captureIf_false (mt drops.mp hd))
  · exact (Service.captureIf_false (mt funds.mp hf)).trans (Service.captureIf_true (drops.mpr hd))
  · exact (Service.captureIf_true (funds.mpr hf)).trans (congrArg (·.capture .orderFunded)
      (Service.captureIf_false (mt drops.mp hd)))
  · exact (Service.captureIf_true (funds.mpr hf)).trans (congrArg (·.capture .orderFunded)
      (Service.captureIf_true (drops.mpr hd)))

end Sys2Proof.Machine
end

section
/-! PROOFS. ORDER_READ and ORDER_RELEASE (R83, R84, R142): the bytes of a record (13.2, R191), and the entries
that are freed. -/

set_option Elab.async false

open Sys2Proof Sys2Proof.Machine

namespace Sys2Proof.Machine

/-! ### The bytes of a record -/

theorem Funding.code_eq (x : Funding) : x.code = byte (([.prepay, .perItem] : List Funding).idxOf x) := by
  cases x <;> rfl

theorem CashlessState.code_eq (x : CashlessState) : x.code
    = byte (([.none, .pending, .approved, .declined, .timedOut, .capturing, .captured, .releasing, .released, .unconfirmed]
      : List CashlessState).idxOf x) := by
  cases x <;> rfl

theorem ItemState.code_eq (x : ItemState) : x.code
    = byte (([.defined, .receiving, .spooled, .queued, .printing, .done, .failed, .withdrawn] : List ItemState).idxOf x) := by
  cases x <;> rfl

theorem optByte_engine (x : Option EngineId) :
    optByte (x.map engineCode) = (x.map fun e => byte (([.A, .B] : List EngineId).idxOf e)).getD 0xFF := by
  rcases x with _ | x
  · rfl
  · cases x <;> rfl

theorem optByte_reason (x : Option FailReason) : optByte (x.map FailReason.code)
    = (x.map fun r => byte (([.engineFaultTwice, .pathReset] : List FailReason).idxOf r)).getD 0xFF := by
  rcases x with _ | x
  · rfl
  · cases x <;> rfl

theorem optByte_slot (x : Option (Fin 4)) : optByte (x.map (·.val)) = (x.map fun i => byte i.val).getD 0xFF := by
  cases x <;> rfl

/-- An absent amount is all ones (R191). -/
theorem optAmount_eq (x : Option Nat) : optAmount x = (x.map le4).getD [0xFF, 0xFF, 0xFF, 0xFF] := by cases x <;> rfl

/-- An absent identity is eight bytes of 0 (R191). -/
theorem optIdentity_card (x : Option Identity) :
    optIdentity x = (x.map fun c => le4 c.serial ++ le4 c.capacity).getD [0, 0, 0, 0, 0, 0, 0, 0] := by cases x <;> rfl

/-- An absent decline reason is all ones (R191). -/
theorem le2_reason (x : Option Nat) : le2 (x.getD 0xFFFF) = (x.map le2).getD [0xFF, 0xFF] := by cases x <;> rfl

/-- The record of an order, and then each of its items that is in use (R83). -/
theorem Part.orderRecord_entries (p : Part) (o : Order) : p.orderRecord o
    = o.header ++ o.items.flatMap fun id => ((p.ord.items[id]).map fun it => it.summary id).getD [] := by
  unfold Part.orderRecord
  congr 2
  funext id
  cases p.ord.items[id] <;> rfl

/-- The result of ORDER_READ in the terms of the statement (13.2). -/
theorem State.orderRecord_eq (s : State) (o : Order) : s.toPart.orderRecord o = recordBytes s o := by
  simp only [Part.orderRecord_entries, Order.header, Item.summary, OrderState.code_eq, Funding.code_eq,
    CashlessState.code_eq, ItemState.code_eq, optByte_slot, optIdentity_card, optAmount_eq, le2_reason, optByte_engine,
    optByte_reason]
  rfl

theorem optIdentity_length (x : Option Identity) : (optIdentity x).length = 8 := by cases x <;> rfl

theorem optAmount_length (x : Option Nat) : (optAmount x).length = 4 := by cases x <;> rfl

theorem Order.header_length (o : Order) : o.header.length = 50 := by
  simp only [Order.header, List.length_append, le2_length, le4_length, optIdentity_length, optAmount_length,
    List.length_cons, List.length_nil]

/-- A record takes 50 bytes and 14 for each of its items that is in use (13.2). -/
theorem State.recordBytes_length {s : State} {o : Order} (h : ∀ id ∈ o.items, s.ord.items[id] ≠ none) :
    (recordBytes s o).length = 50 + 14 * o.items.length := by
  have each : ∀ id ∈ o.items, (((s.ord.items[id]).map fun it => it.summary id).getD []).length = 14 := by
    intro id hid
    obtain ⟨it, hit⟩ := Option.ne_none_iff_exists'.mp (h id hid)
    rw [hit]
    rfl
  rw [← State.orderRecord_eq, Part.orderRecord_entries, List.length_append, Order.header_length, List.length_flatMap,
    List.map_congr_left each, List.map_const', List.sum_replicate, smul_eq_mul, Nat.mul_comm]

/-! ### The entries that are freed -/

/-- The item entries of `l` and their intake records are free, and all else is as it was (R73, R142). -/
structure Part.Frees (p : Part) (l : List (Fin 64)) (q : Part) : Prop where
  rest : q = { p with ord := { p.ord with items := q.ord.items }, rin := { p.rin with intake := q.rin.intake } }
  items : ∀ id : Fin 64, q.ord.items[id] = if id ∈ l then none else p.ord.items[id]
  intake : ∀ id : Fin 64, q.rin.intake[id] = if id ∈ l then none else p.rin.intake[id]

/-- One entry after the other is freed (R84). -/
theorem Part.foldl_freeItemEntry (p : Part) (l : List (Fin 64)) : p.Frees l (l.foldl Part.freeItemEntry p) := by
  have freed {α : Type} (v : Vector (Option α) 64) (j id : Fin 64) (l : List (Fin 64)) :
      (if id ∈ l then none else (v.set j none)[id]) = if id ∈ j :: l then none else v[id] := by
    by_cases hj : id = j
    · subst hj
      rw [show (v.set id none)[id] = none from Vector.getElem_set_self _, ite_self, if_pos (List.mem_cons_self ..)]
    · simp only [orders_set_ne v _ hj, List.mem_cons, hj, false_or]
  induction l generalizing p with
  | nil => exact ⟨rfl, fun _ => (if_neg List.not_mem_nil).symm, fun _ => (if_neg List.not_mem_nil).symm⟩
  | cons j l ih =>
    obtain ⟨rest, items, intake⟩ := ih (p.freeItemEntry j)
    rw [List.foldl_cons]
    refine ⟨?_, fun id => (items id).trans (freed _ _ _ _), fun id => (intake id).trans (freed _ _ _ _)⟩
    rw [rest]
    rfl

/-! ### The requests -/

section
variable {p : Part} {args : List Byte}

theorem Part.orderRead_unknown (hn : p.orderIdx (u16 args 0) = none) : p.orderRead args = .refuse p .badArgument := by
  simp only [Part.orderRead, Part.liveOrder_none hn]

theorem Part.orderRelease_unknown (hn : p.orderIdx (u16 args 0) = none) :
    p.orderRelease args = .refuse p .badArgument := by
  simp only [Part.orderRelease, Part.liveOrder_none hn]

variable {k : Fin 32} {o : Order} (hk : p.orderIdx (u16 args 0) = some k) (ho : p.ord.orders[k] = some o)
include hk ho

theorem Part.orderRead_known : p.orderRead args = .done p (p.orderRecord o) := by
  simp only [Part.orderRead, Part.liveOrder_eq hk ho]

theorem Part.orderRelease_open (hs : o.state ≠ .closed) : p.orderRelease args = .refuse p .wrongState := by
  simp only [Part.orderRelease, Part.liveOrder_eq hk ho, beq_iff_eq, if_neg hs]

theorem Part.orderRelease_closed (hs : o.state = .closed) :
    let q := o.items.foldl Part.freeItemEntry p
    p.orderRelease args
      = .done { q with ord := { q.ord with orders := q.ord.orders.set k none } } (p.orderRecord o) := by
  simp only [Part.orderRelease, Part.liveOrder_eq hk ho, beq_iff_eq, if_pos hs]

end

/-- Settles O42: the refusals, the record in bytes, and the walk that frees the items of a CLOSED order. -/
theorem orderReadAndRelease : Obligations.OrderReadAndRelease := by
  unfold Obligations.OrderReadAndRelease
  intro s tag args rest hl hm
  have serving := Mode.serving_of_trading hm
  have length : exactly 2 args.length = true := by simp [exactly, hl]
  have admitted := admitLive_of_trading hm
  refine ⟨fun hn => ⟨fun h => ?_, fun h => ?_⟩, fun k o hk ho => ⟨fun h => ?_, State.recordBytes_length, fun h hs => ?_,
    fun h hs => ?_⟩⟩
  · exact State.serve_refuses h serving length admitted (Part.orderRead_unknown hn)
  · exact State.serve_refuses h serving length admitted (Part.orderRelease_unknown hn)
  · refine (State.serve_admitted h serving length admitted).trans ?_
    rw [Part.orderRead_known (p := s.toPart.dequeue rest) hk ho, ← State.orderRecord_eq]
    rfl
  · exact State.serve_refuses h serving length admitted (Part.orderRelease_open hk ho hs)
  · obtain ⟨frame, items, intake⟩ := (s.toPart.dequeue rest).foldl_freeItemEntry o.items
    refine ⟨_, (State.serve_admitted h serving length admitted).trans
      (by rw [Part.orderRelease_closed (p := s.toPart.dequeue rest) hk ho hs]), ?_, fun id => ⟨items id, intake id⟩⟩
    rw [← State.orderRecord_eq]
    generalize o.items.foldl Part.freeItemEntry (s.toPart.dequeue rest) = q at frame
    rw [frame]
    rfl

end Sys2Proof.Machine
end

section
/-! PROOFS. The withdrawals of a cancelled order one after the other (R80, R81, R97, R104, R144). -/

set_option Elab.async false

open Sys2Proof Sys2Proof.Machine

namespace Sys2Proof.Machine

/-! ### Walks that move nothing -/

/-- A walk none of whose entries goes leaves all as it is (R86, R87). -/
theorem Part.walk_stays {p : Part} (h : ∀ x ∈ p.ord.release, p.tryEntry x = p) : p.walk = p := by
  have each : ∀ l : List ReleaseEntry, (∀ x ∈ l, p.tryEntry x = p) → l.foldl Part.tryEntry p = p := by
    intro l hl
    induction l with
    | nil => rfl
    | cons x l ih => rw [List.foldl_cons, hl x (List.mem_cons_self ..), ih fun y hy => hl y (List.mem_cons_of_mem _ hy)]
  rw [Part.walk, each _ h, ite_self]

/-- An item of a cancelled order does not go (R87 step 1). -/
theorem Part.tryEntry_cancelled {p : Part} {x : ReleaseEntry} {k : Fin 32} {o : Order} (ho : p.ord.orders[k] = some o)
    (hc : o.cancel = true) (hx : ∀ it, p.ord.items[x.item] = some it → it.order = k) : p.tryEntry x = p := by
  unfold Part.tryEntry
  cases hit : p.ord.items[x.item] with
  | none => rfl
  | some it =>
    have stays : o.letsGo it = false := by simp only [Order.letsGo, hc, Bool.not_true, Bool.and_false, Bool.false_and]
    simp only [hx it hit, ho, stays, Bool.false_eq_true, if_false]

/-- A withdrawal from a cancelled order whose items alone wait in the release list: neither ORDER_FUNDED nor a walk comes of
it (R81, R98). -/
theorem Part.withdrawWithWalk_cancelled {p : Part} {id : Fin 64} {it : Item} {o : Order} (hit : p.ord.items[id] = some it)
    (ho : p.ord.orders[it.order] = some o) (hc : o.cancel = true)
    (listed : ∀ e ∈ p.ord.release, ∀ w, p.ord.items[e.item] = some w → w.order = it.order) :
    p.withdrawWithWalk id = p.withdrawn id it none := by
  let q := p.withdrawn id it none
  have record : q.ord.orders[it.order] = some (it.resetCharge o) := Part.withdrawn_order ho none
  have unfunded : q.orderFunded it.order = false := by
    rw [Part.orderFunded, record]
    simp only [Order.isFunded, Item.resetCharge, hc, Bool.not_true, Bool.and_false, Bool.false_and]
  have stays : q.walk = q := by
    refine Part.walk_stays fun x hx => Part.tryEntry_cancelled record hc fun w hw => ?_
    obtain ⟨hlist, hne⟩ := List.mem_filter.mp hx
    exact listed x hlist w ((orders_set_ne _ _ (bne_iff_ne.mp hne)).symm.trans hw)
  simp only [Part.withdrawWithWalk, hit, Part.withdrawItem_eq hit, Part.fundedCheck, show q.orderFunded it.order = false
    from unfunded, Bool.false_and, Bool.false_eq_true, if_false, show q.walk = q from stays, ite_self, q]

/-! ### What several withdrawals sum to -/

theorem set_getElem {α : Type} {n : Nat} (v : Vector α n) (i j : Fin n) (x : α) :
    (v.set i x)[j] = if j = i then x else v[j] := by
  by_cases h : j = i
  · subst h
    rw [if_pos rfl]
    exact Vector.getElem_set_self _
  · rw [if_neg h, orders_set_ne v x h]

/-- The sum over the items of a list. -/
def Part.itemSum (p : Part) (l : List (Fin 64)) (f : Item → Nat) : Nat :=
  (l.map fun id => ((p.ord.items[id]).map f).getD 0).sum

theorem Part.itemSum_snoc {p : Part} {id : Fin 64} {it : Item} (hit : p.ord.items[id] = some it) (l : List (Fin 64))
    (f : Item → Nat) : p.itemSum (l ++ [id]) f = p.itemSum l f + f it := by
  simp only [Part.itemSum, List.map_append, List.map_cons, List.map_nil, List.sum_append, hit, Option.map_some,
    Option.getD_some, List.sum_cons, List.sum_nil, Nat.add_zero]

/-- An order once the items of a list are withdrawn from it (R97). -/
def Part.orderCharged (p : Part) (l : List (Fin 64)) (o : Order) : Order :=
  { o with total := o.total - p.itemSum l (·.price), consumed := o.consumed - p.itemSum l (·.reversal) }

/-- An engine without the items of a list in its queue. -/
def Engine.withoutAll (en : Engine) (l : List (Fin 64)) : Engine := { en with queue := en.queue.filter fun id => id ∉ l }

/-- A region is held by an item of a list that has it (R157). -/
def Part.letsGoOf (p : Part) (l : List (Fin 64)) (r : Fin 16) : Bool :=
  l.any fun id => decide (p.spl.regions[r].holder = some id) && (p.ord.items[id]).any fun it => it.region == r

/-- A region without a holder. -/
def Region.unheld (g : Region) : Region := { g with holder := none }

/-- The items of `l`, all of the order `o` at `k`, have been withdrawn one after the other. -/
structure Part.Withdraws (p : Part) (k : Fin 32) (o : Order) (l : List (Fin 64)) (q : Part) : Prop where
  rest : q = { p with
    ord := q.ord, engA := p.engA.withoutAll l, engB := p.engB.withoutAll l, rin := q.rin, spl := q.spl
    svc := p.svc.captureIf .bandDiscard (p.rin.queue.any (p.bandNamed l)) }
  ord : q.ord = { p.ord with
    items := q.ord.items, orders := p.ord.orders.set k (some (p.orderCharged l o))
    release := p.ord.release.filter fun e => e.item ∉ l }
  rin : q.rin = { p.rin with
    intake := q.rin.intake, conv := if p.bandStops l then none else p.rin.conv
    queue := p.rin.queue.filter fun b => !p.bandNamed l b }
  spl : q.spl = { p.spl with
    regions := q.spl.regions, port := if p.bandStops l then disowned p.spl.port .intake else p.spl.port }
  items : ∀ id : Fin 64, q.ord.items[id]
    = if id ∈ l then (p.ord.items[id]).map (·.withdrawn none) else p.ord.items[id]
  regions : ∀ r : Fin 16, q.spl.regions[r] = if p.letsGoOf l r then p.spl.regions[r].unheld else p.spl.regions[r]
  intake : ∀ id : Fin 64, q.rin.intake[id] = if id ∈ l then (p.rin.intake[id]).map Intake.idle else p.rin.intake[id]

theorem Engine.withoutAll_nil (en : Engine) : en.withoutAll [] = en := by
  simp only [Engine.withoutAll, List.not_mem_nil, not_false_eq_true, decide_true, List.filter_true]

theorem Engine.withoutAll_snoc (en : Engine) (l : List (Fin 64)) (id : Fin 64) :
    (en.withoutAll l).without id = en.withoutAll (l ++ [id]) := by
  simp only [Engine.withoutAll, Engine.without, List.filter_filter]
  congr 1
  refine List.filter_congr fun x _ => ?_
  by_cases h : x = id <;> simp [h]

theorem Part.bandStops_nil (p : Part) : p.bandStops [] = false := by
  cases hb : p.rin.conv <;> simp [Part.bandStops, hb]

theorem Part.bandStops_snoc (p : Part) (l : List (Fin 64)) (id : Fin 64) :
    p.bandStops (l ++ [id]) = (p.bandStops l || p.bandStops [id]) := by
  cases hb : p.rin.conv with
  | none => simp only [Part.bandStops, hb, Option.any_none, Bool.or_self]
  | some b => simp only [Part.bandStops, hb, Option.any_some, List.mem_append, Bool.decide_or, Bool.and_or_distrib_right]

theorem Part.bandNamed_snoc (p : Part) (l : List (Fin 64)) (id : Fin 64) (band : List Byte) :
    p.bandNamed (l ++ [id]) band = (p.bandNamed l band || p.bandNamed [id] band) := by
  rw [Part.bandNamed, List.any_append]
  rfl

/-- A kind captured twice is captured (R15, R17). -/
theorem Service.captureIf_captureIf (v : Service) (k : CaptureKind) (a b : Bool) :
    (v.captureIf k a).captureIf k b = v.captureIf k (a || b) := by
  have twice : (v.capture k).capture k = v.capture k := by
    obtain ⟨_, _, _, _, _, _, set, _, snapshot, again⟩ := v
    cases snapshot with
    | none => simp only [Service.capture, BitVec.or_assoc, BitVec.or_self]
    | some sn =>
      simp only [Service.capture, BitVec.or_assoc, BitVec.or_self]
      by_cases h : sn.has k = true
      · simp only [if_pos h, BitVec.or_assoc, BitVec.or_self]
      · simp only [if_neg h]
  cases a <;> cases b
  · rfl
  · rfl
  · rfl
  · exact twice

theorem any_filter_or {α : Type} (l : List α) (f g : α → Bool) :
    (l.any f || (l.filter fun x => !f x).any g) = l.any fun x => f x || g x := by
  induction l with
  | nil => rfl
  | cons x l ih =>
    cases hf : f x <;> simp [hf, ← ih, Bool.or_left_comm]

/-- Nothing is withdrawn yet. -/
theorem Part.Withdraws.nil {p : Part} {k : Fin 32} {o : Order} (ho : p.ord.orders[k] = some o) : p.Withdraws k o [] p := by
  have order : p.ord.orders.set k (some (p.orderCharged [] o)) = p.ord.orders := by
    rw [show p.orderCharged [] o = o from rfl, ← ho, set_self]
  have named : p.bandNamed [] = fun _ => false := rfl
  have none_named : p.rin.queue.any (fun _ => false) = false := List.any_eq_false.mpr fun _ _ => nofun
  refine ⟨?_, ?_, ?_, ?_, fun _ => (if_neg List.not_mem_nil).symm, fun _ => rfl, fun _ => (if_neg List.not_mem_nil).symm⟩
  · simp only [Engine.withoutAll_nil, named, none_named, Service.captureIf, Bool.false_eq_true, if_false]
  · simp only [order, List.not_mem_nil, not_false_eq_true, decide_true, List.filter_true]
  · simp only [Part.bandStops_nil, Bool.false_eq_true, if_false, named, Bool.not_false, List.filter_true]
  · simp only [Part.bandStops_nil, Bool.false_eq_true, if_false]

/-! ### One more withdrawal -/

section
variable {p q : Part} {k : Fin 32} {o : Order} {l : List (Fin 64)} (w : p.Withdraws k o l q) {id : Fin 64} {it : Item}
  (fresh : id ∉ l)
include w fresh

theorem Part.Withdraws.receives_fresh : q.receives id = p.receives id := by
  rw [Part.receives, Part.receives, w.intake, if_neg fresh]

theorem Part.Withdraws.bandNamed_fresh : q.bandNamed [id] = p.bandNamed [id] :=
  funext fun b => by rw [Part.bandNamed_one, Part.bandNamed_one, w.receives_fresh fresh]

/-- The band in conversion is abandoned at most once. -/
theorem Part.Withdraws.bandStops_fresh : q.bandStops [id] = (!p.bandStops l && p.bandStops [id]) := by
  have conv : q.rin.conv = if p.bandStops l then none else p.rin.conv := congrArg RasterIntake.conv w.rin
  rw [Part.bandStops_one, Part.bandStops_one, w.receives_fresh fresh, conv]
  cases p.bandStops l
  · rfl
  · exact Bool.and_false _

theorem Part.Withdraws.rin_snoc : (q.withdrawn id it none).rin = { p.rin with
    intake := (q.withdrawn id it none).rin.intake, conv := if p.bandStops (l ++ [id]) then none else p.rin.conv
    queue := p.rin.queue.filter fun b => !p.bandNamed (l ++ [id]) b } := by
  have band : (if q.bandStops [id] then none else q.rin.conv)
      = if p.bandStops (l ++ [id]) then none else p.rin.conv := by
    rw [w.bandStops_fresh fresh, congrArg RasterIntake.conv w.rin, Part.bandStops_snoc]
    cases p.bandStops l <;> simp
  have bands : (q.rin.queue.filter fun b => !q.bandNamed [id] b)
      = p.rin.queue.filter fun b => !p.bandNamed (l ++ [id]) b := by
    rw [congrArg RasterIntake.queue w.rin, w.bandNamed_fresh fresh, List.filter_filter]
    refine List.filter_congr fun b _ => ?_
    rw [Part.bandNamed_snoc, Bool.not_or, Bool.and_comm]
  rw [← band, ← bands]
  exact congrArg (fun x : RasterIntake => { x with
    intake := (q.withdrawn id it none).rin.intake, conv := (q.withdrawn id it none).rin.conv
    queue := (q.withdrawn id it none).rin.queue }) w.rin

theorem Part.Withdraws.spl_snoc : (q.withdrawn id it none).spl = { p.spl with
    regions := (q.withdrawn id it none).spl.regions
    port := if p.bandStops (l ++ [id]) then disowned p.spl.port .intake else p.spl.port } := by
  have access : (if q.bandStops [id] then disowned q.spl.port .intake else q.spl.port)
      = if p.bandStops (l ++ [id]) then disowned p.spl.port .intake else p.spl.port := by
    rw [w.bandStops_fresh fresh, congrArg Spool.port w.spl, Part.bandStops_snoc]
    cases p.bandStops l <;> simp
  rw [← access]
  exact congrArg (fun x : Spool => { x with
    regions := (q.withdrawn id it none).spl.regions, port := (q.withdrawn id it none).spl.port }) w.spl

theorem Part.Withdraws.svc_snoc : (q.withdrawn id it none).svc
    = p.svc.captureIf .bandDiscard (p.rin.queue.any (p.bandNamed (l ++ [id]))) := by
  show q.svc.captureIf .bandDiscard (q.rin.queue.any (q.bandNamed [id])) = _
  rw [congrArg Part.svc w.rest, Service.captureIf_captureIf, congrArg RasterIntake.queue w.rin, w.bandNamed_fresh fresh,
    any_filter_or]
  congr 2
  exact funext fun b => (p.bandNamed_snoc l id b).symm

theorem Part.Withdraws.rest_snoc : q.withdrawn id it none = { p with
    ord := (q.withdrawn id it none).ord, rin := (q.withdrawn id it none).rin, spl := (q.withdrawn id it none).spl
    engA := p.engA.withoutAll (l ++ [id]), engB := p.engB.withoutAll (l ++ [id])
    svc := p.svc.captureIf .bandDiscard (p.rin.queue.any (p.bandNamed (l ++ [id]))) } := by
  have engA : q.engA.without id = p.engA.withoutAll (l ++ [id]) := by
    rw [congrArg Part.engA w.rest, Engine.withoutAll_snoc]
  have engB : q.engB.without id = p.engB.withoutAll (l ++ [id]) := by
    rw [congrArg Part.engB w.rest, Engine.withoutAll_snoc]
  rw [← w.svc_snoc fresh (it := it), ← engA, ← engB]
  exact congrArg (fun x : Part => { x with
    ord := (q.withdrawn id it none).ord, engA := q.engA.without id, engB := q.engB.without id
    rin := (q.withdrawn id it none).rin, spl := (q.withdrawn id it none).spl
    svc := (q.withdrawn id it none).svc }) w.rest

end

section
variable {p q : Part} {o : Order} {l : List (Fin 64)} {id : Fin 64} {it : Item} (w : p.Withdraws it.order o l q)
  (hit : p.ord.items[id] = some it)
include w hit

theorem Part.Withdraws.ord_snoc : (q.withdrawn id it none).ord = { p.ord with
    items := (q.withdrawn id it none).ord.items
    orders := p.ord.orders.set it.order (some (p.orderCharged (l ++ [id]) o))
    release := p.ord.release.filter fun e => e.item ∉ l ++ [id] } := by
  have order : q.ord.orders.set it.order ((q.ord.orders[it.order]).map it.resetCharge)
      = p.ord.orders.set it.order (some (p.orderCharged (l ++ [id]) o)) := by
    rw [congrArg OrderTable.orders w.ord, show (p.ord.orders.set it.order _)[it.order] = _ from Vector.getElem_set_self _,
      Vector.set_set, Option.map_some]
    simp only [Item.resetCharge, Part.orderCharged, Part.itemSum_snoc hit, Nat.sub_sub]
  have list : (q.ord.release.filter fun e => e.item != id) = p.ord.release.filter fun e => e.item ∉ l ++ [id] := by
    rw [congrArg OrderTable.release w.ord, List.filter_filter]
    refine List.filter_congr fun e _ => ?_
    by_cases h : e.item = id <;> simp [h]
  rw [← order, ← list]
  exact congrArg (fun x : OrderTable => { x with
    items := (q.withdrawn id it none).ord.items, orders := (q.withdrawn id it none).ord.orders
    release := (q.withdrawn id it none).ord.release }) w.ord

theorem Part.Withdraws.regions_snoc (r : Fin 16) : (q.withdrawn id it none).spl.regions[r]
    = if p.letsGoOf (l ++ [id]) r then p.spl.regions[r].unheld else p.spl.regions[r] := by
  have one : p.letsGoOf (l ++ [id]) r
      = (p.letsGoOf l r || (decide (p.spl.regions[r].holder = some id) && it.region == r)) := by
    simp only [Part.letsGoOf, List.any_append, List.any_cons, List.any_nil, Bool.or_false, hit, Option.any_some]
  refine (set_getElem ..).trans ?_
  rw [one]
  by_cases h : r = it.region
  · subst h
    rw [if_pos rfl, w.regions, beq_self_eq_true, Bool.and_true]
    cases p.letsGoOf l it.region with
    | true => rfl
    | false =>
      simp only [Bool.false_eq_true, if_false, Bool.false_or, decide_eq_true_eq, Region.letGo_eq]
      rfl
  · rw [if_neg h, w.regions, beq_false_of_ne (Ne.symm h), Bool.and_false, Bool.or_false]

/-- One more item of the order is withdrawn. -/
theorem Part.Withdraws.snoc (fresh : id ∉ l) : p.Withdraws it.order o (l ++ [id]) (q.withdrawn id it none) := by
  have mem (j : Fin 64) : j ∈ l ++ [id] ↔ j = id ∨ j ∈ l := by rw [List.mem_append, List.mem_singleton, or_comm]
  refine ⟨w.rest_snoc fresh, w.ord_snoc hit, w.rin_snoc fresh, w.spl_snoc fresh, fun j => ?_, w.regions_snoc hit,
    fun j => ?_⟩
  · refine (set_getElem ..).trans ?_
    rw [w.items]
    simp only [mem]
    by_cases h : j = id
    · subst h
      rw [if_pos rfl, if_pos (.inl rfl), hit]
      rfl
    · simp only [h, if_false, false_or]
  · refine (set_getElem ..).trans ?_
    rw [w.intake id, if_neg fresh, w.intake j]
    simp only [mem]
    by_cases h : j = id
    · subst h
      rw [if_pos rfl, if_pos (.inl rfl)]
    · simp only [h, if_false, false_or]

end

/-! ### The cancel -/

/-- An item that a cancel withdraws (R80). -/
def Part.cancels (p : Part) (id : Fin 64) : Bool :=
  (p.ord.items[id]).any fun it => it.state ∈ [.defined, .receiving, .spooled, .queued]

theorem Part.cancels_eq (p : Part) (id : Fin 64) :
    ((p.itemState id).map ItemState.withdrawable).getD false = p.cancels id := by
  unfold Part.itemState Part.cancels
  cases p.ord.items[id] with
  | none => rfl
  | some it => cases h : it.state <;> simp [h, ItemState.withdrawable]

theorem Part.cancelItem_eq (p : Part) (id : Fin 64) :
    p.cancelItem id = if p.cancels id then p.withdrawWithWalk id else p := by
  rw [← Part.cancels_eq, Part.cancelItem]
  cases p.itemState id <;> rfl

/-- The items of a cancelled order are withdrawn in list order, but for those that are printed or have ended (R80, R81). -/
theorem Part.foldl_cancelItem {p : Part} {k : Fin 32} {o : Order} (ho : p.ord.orders[k] = some o) (hc : o.cancel = true)
    (listed : ∀ e ∈ p.ord.release, ∀ it, p.ord.items[e.item] = some it → it.order = k) (l : List (Fin 64)) (nodup : l.Nodup)
    (own : ∀ id ∈ l, ∃ it, p.ord.items[id] = some it ∧ it.order = k) :
    p.Withdraws k o (l.filter p.cancels) (l.foldl Part.cancelItem p) := by
  induction l using List.reverseRecOn with
  | nil => exact .nil ho
  | append_singleton l id ih =>
    obtain ⟨nodupL, -, disjoint⟩ := List.nodup_append.mp nodup
    have w := ih nodupL fun j hj => own j (List.mem_append_left _ hj)
    have new : id ∉ l := fun h => disjoint id h id (List.mem_singleton_self id) rfl
    have fresh : id ∉ l.filter p.cancels := fun h => new (List.mem_of_mem_filter h)
    obtain ⟨it, hit, rfl⟩ := own id (List.mem_append_right _ (List.mem_singleton_self id))
    rw [List.foldl_append, List.foldl_cons, List.foldl_nil, List.filter_append]
    generalize l.foldl Part.cancelItem p = q at w ⊢
    have same : q.ord.items[id] = some it := by rw [w.items, if_neg fresh, hit]
    have still : q.cancels id = p.cancels id := by rw [Part.cancels, Part.cancels, same, hit]
    rw [Part.cancelItem_eq, still]
    cases h : p.cancels id with
    | false =>
      rw [List.filter_cons_of_neg (by rw [h]; nofun), List.filter_nil, List.append_nil]
      exact w
    | true =>
      have record : q.ord.orders[it.order] = some (p.orderCharged (l.filter p.cancels) o) := by
        rw [congrArg OrderTable.orders w.ord]
        exact Vector.getElem_set_self _
      have waits : ∀ e ∈ q.ord.release, ∀ x, q.ord.items[e.item] = some x → x.order = it.order := by
        intro e he x hx
        rw [congrArg OrderTable.release w.ord] at he
        rw [w.items] at hx
        have before := listed e (List.mem_of_mem_filter he)
        split at hx
        · obtain ⟨y, hy, rfl⟩ := Option.map_eq_some_iff.mp hx
          exact before y hy
        · exact before x hx
      rw [if_pos rfl, Part.withdrawWithWalk_cancelled same record hc waits, List.filter_cons_of_pos h, List.filter_nil]
      exact w.snoc hit fresh

/-! ### The settlement after the cancel -/

/-- An item that a cancel leaves and that is not PRINTING has ended (R74, R80). -/
theorem ItemState.terminal_of_left {st : ItemState} (hl : st ∉ [.defined, .receiving, .spooled, .queued])
    (hp : st ≠ .printing) : st.terminal = true := by
  revert hl hp
  cases st <;> decide

theorem Service.captureIf_mode (v : Service) (k : CaptureKind) (b : Bool) : (v.captureIf k b).mode = v.mode := by
  cases b <;> rfl

section
variable {p q : Part} {k : Fin 32} {o : Order} (w : p.Withdraws k o (o.items.filter p.cancels) q) (hc : o.cancel = true)
include w

theorem Part.Withdraws.order : q.ord.orders[k] = some (p.orderCharged (o.items.filter p.cancels) o) := by
  rw [congrArg OrderTable.orders w.ord]
  exact Vector.getElem_set_self _

/-- A cancelled order does not settle while an item is PRINTING or an authorization is PENDING (R80, R99). -/
theorem Part.Withdraws.rests (h : p.leftPrinting o = true ∨ o.cashless.state = .pending) : q.checkSettling k = q := by
  refine Part.checkSettling_rests fun o' ho' => ?_
  obtain rfl : p.orderCharged (o.items.filter p.cancels) o = o' := Option.some.inj (w.order.symm.trans ho')
  obtain h | h := h
  · obtain ⟨id, hid, hp⟩ := List.any_eq_true.mp h
    obtain ⟨it, hit, hs⟩ := Option.map_eq_some_iff.mp (beq_iff_eq.mp hp)
    have stays : id ∉ o.items.filter p.cancels := by
      simp only [List.mem_filter, Part.cancels, hit, Option.any_some, hs, not_and]
      exact fun _ => nofun
    refine Part.maySettle_working (id := id) (it := it) hid ?_ (by rw [hs]; rfl)
    rw [w.items, if_neg stays, hit]
  · simp only [Part.maySettle, Part.orderCharged, h, bne_self_eq_false, Bool.and_false]

include hc

/-- Otherwise it settles, for all its items have ended (R99). -/
theorem Part.Withdraws.settles (hs : o.state ≠ .settling ∧ o.state ≠ .closed) (hp : p.leftPrinting o = false)
    (ha : o.cashless.state ≠ .pending) : q.checkSettling k = q.enterSettling k := by
  refine Part.checkSettling_enters w.order ?_
  have live : (o.state == .committed || (o.cancel && (o.state == .opened || o.state == .halted))) = true := by
    rw [hc]
    cases st : o.state with
    | opened | committed | halted => rfl
    | settling => exact absurd st hs.1
    | closed => exact absurd st hs.2
  have ended : (o.items.all fun id => match q.ord.items[id] with | some it => it.state.terminal | none => true) = true := by
    refine List.all_eq_true.mpr fun id hid => ?_
    rw [w.items]
    cases hit : p.ord.items[id] with
    | none => rw [Option.map_none, ite_self]
    | some it =>
      by_cases gone : id ∈ o.items.filter p.cancels
      · rw [if_pos gone]
        rfl
      · have kept : p.cancels id = false := eq_false_of_ne_true fun h => gone (List.mem_filter.mpr ⟨hid, h⟩)
        have unprinted : it.state ≠ .printing := fun h => List.any_eq_false.mp hp id hid (by
          rw [Part.itemState, hit, Option.map_some, h]
          rfl)
        rw [if_neg gone]
        rw [Part.cancels, hit, Option.any_some, decide_eq_false_iff_not] at kept
        exact ItemState.terminal_of_left kept unprinted
  simp only [Part.maySettle, Bool.and_eq_true]
  exact ⟨⟨live, ended⟩, bne_iff_ne.mpr ha⟩

end

/-! ### The request -/

section
variable {p : Part} {args : List Byte}

theorem Part.orderCancel_unknown (h : p.orderIdx (u16 args 0) = none) : p.orderCancel args = .refuse p .badArgument := by
  simp only [Part.orderCancel, Part.liveOrder_none h]

variable {k : Fin 32} {o : Order} (hk : p.orderIdx (u16 args 0) = some k) (ho : p.ord.orders[k] = some o)
include hk ho

theorem Part.orderCancel_settling (h : o.state = .settling ∨ o.state = .closed) :
    p.orderCancel args = .refuse p .wrongState := by
  simp only [Part.orderCancel, Part.liveOrder_eq hk ho]
  exact if_pos (by simpa only [Bool.or_eq_true, beq_iff_eq] using h)

variable (hs : o.state ≠ .settling ∧ o.state ≠ .closed)
include hs

theorem Part.orderCancel_again (hc : o.cancel = true) :
    p.orderCancel args = .done p [0, flagByte (p.leftPrinting o)] := by
  simp only [Part.orderCancel, Part.liveOrder_eq hk ho, hc, if_true]
  exact if_neg (by simpa only [Bool.or_eq_true, beq_iff_eq, not_or] using hs)

theorem Part.orderCancel_takes (hc : o.cancel = false) :
    p.orderCancel args = .done (p.cancelOrder k o)
      [byte (o.items.filter p.cancels).length, flagByte (p.leftPrinting o)] := by
  have count : p.withdrawCount o = (o.items.filter p.cancels).length :=
    congrArg List.length (List.filter_congr fun id _ => p.cancels_eq id)
  simp only [Part.orderCancel, Part.liveOrder_eq hk ho, hc, Bool.false_eq_true, if_false, count]
  exact if_neg (by simpa only [Bool.or_eq_true, beq_iff_eq, not_or] using hs)

end

/-- Settles O41: the refusals by the order's state, and the withdrawals, whose order settles unless an item is PRINTING or an
authorization PENDING. -/
theorem orderCancelWithdrawsItems : Obligations.OrderCancelWithdrawsItems := by
  unfold Obligations.OrderCancelWithdrawsItems
  intro s tag args rest h hl hm
  have serving := Mode.serving_of_trading hm
  have admitted := admitLive_of_trading hm
  have length : exactly 2 args.length = true := by rw [hl]; rfl
  let p := s.toPart.dequeue rest
  refine ⟨fun hk => State.serve_refuses h serving length admitted (Part.orderCancel_unknown (p := p) hk), ?_⟩
  intro k o hk ho printing leaves gone receives total back stopped names answered
  have served {r : Served} (hrun : p.orderCancel args = r) : exec .orderCancel s = .next { s with
      toPart := Part.hold tag 0x32 r } := by
    rw [← hrun]
    exact State.serve_admitted h serving length admitted
  refine ⟨fun hs => State.serve_refuses h serving length admitted (Part.orderCancel_settling (p := p) hk ho hs),
    fun hs hd hc => served (Part.orderCancel_again (p := p) hk ho ⟨hs, hd⟩ hc), fun hs hd hc nodup listed own => ?_⟩
  let o' : Order := { o with cancel := true }
  let p' : Part := { p with ord := { p.ord with orders := p.ord.orders.set k (some o') } }
  have flagged : p.modOrder k (fun o => { o with cancel := true }) = p' := Part.modOrder_eq (p := p) ho _
  have record : p'.ord.orders[k] = some o' := Vector.getElem_set_self _
  have w : p'.Withdraws k o' gone (o'.items.foldl Part.cancelItem p') :=
    Part.foldl_cancelItem record rfl listed o.items nodup own
  let q := o'.items.foldl Part.cancelItem p'
  have answer := served (Part.orderCancel_takes (p := p) hk ho ⟨hs, hd⟩ hc)
  rw [Part.cancelOrder, flagged] at answer
  have work : (q.checkSettling k).work = q.work := q.checkSettling_work k
  have fixed : (q.checkSettling k).fixed = q.fixed := q.checkSettling_fixed k
  have ord : (q.checkSettling k).ord.items = q.ord.items := congrArg Work.items work
  have rin : (q.checkSettling k).rin = q.rin := congrArg Work.rin work
  have spl : (q.checkSettling k).spl = q.spl := congrArg Work.spl work
  have counted : q.pay.counted = p'.pay.counted := (congrArg (fun x : Part => x.pay.counted) w.rest).trans rfl
  have mem : q.spl.mem = p'.spl.mem := (congrArg Spool.mem w.spl).trans rfl
  refine ⟨_, answer, fun id => ?_, ?_, ?_, fun e => ?_, fun r => ?_, ?_, ?_, ?_, fun id => ?_, ?_, ?_, ?_, ?_, ?_⟩
  · exact (congrArg (·[id]) ord).trans (w.items id)
  · by_cases waits : p'.leftPrinting o' = true ∨ o.cashless.state = .pending
    · have stays : q.checkSettling k = q := w.rests waits
      rw [stays]
      refine ⟨_, w.order, rfl, rfl, rfl, rfl, rfl, rfl, rfl,
        fun hp ha => absurd waits (not_or_intro (ne_true_of_eq_false hp) ha),
        fun _ => ⟨rfl, ?_, ?_, ?_, ?_, fun j hj => ?_, ?_⟩⟩
      · exact (congrArg Part.pay w.rest).trans rfl
      · exact (congrArg Part.clc w.rest).trans rfl
      · exact (congrArg Part.csu w.rest).trans rfl
      · exact (congrArg (fun x : Part => { x.lnk with handler := answered.lnk.handler }) w.rest).trans rfl
      · refine (congrArg (fun x : OrderTable => x.orders[j]) w.ord).trans ?_
        exact (orders_set_ne _ _ hj).trans (orders_set_ne _ _ hj)
      · exact (congrArg Part.svc w.rest).trans rfl
    · obtain ⟨hp, ha⟩ := not_or.mp waits
      have settles : q.checkSettling k = q.enterSettling k := w.settles rfl ⟨hs, hd⟩ (eq_false_of_ne_true hp) ha
      obtain ⟨x, hx, state, account⟩ := Part.enterSettling_account w.order
      rw [settles]
      refine ⟨x, hx, congrArg Account.cancel account, congrArg Account.number account, congrArg Account.items account,
        congrArg Account.cashIn account, congrArg Account.cardAuth account, congrArg Account.total account,
        congrArg Account.consumed account, fun _ _ => state, fun h => absurd h waits⟩
  · exact (congrArg Work.release work).trans (congrArg OrderTable.release w.ord)
  · cases e with
    | A => exact (congrArg Work.engA work).trans (congrArg Part.engA w.rest)
    | B => exact (congrArg Work.engB work).trans (congrArg Part.engB w.rest)
  · refine (congrArg (fun x : Spool => x.regions[r]) spl).trans ((w.regions r).trans ?_)
    refine if_congr ?_ rfl rfl
    simp only [Part.letsGoOf, List.any_eq_true, Bool.and_eq_true, decide_eq_true_eq]
    rfl
  · exact (congrArg Spool.port spl).trans (congrArg Spool.port w.spl)
  · exact (congrArg RasterIntake.conv rin).trans (congrArg RasterIntake.conv w.rin)
  · exact (congrArg RasterIntake.queue rin).trans (congrArg RasterIntake.queue w.rin)
  · exact (congrArg (fun x : RasterIntake => x.intake[id]) rin).trans (w.intake id)
  · rfl
  · exact (congrArg Fixed.ctrl fixed).trans (congrArg (fun x : Part => x.lnk.ctrl) w.rest)
  · exact (congrArg Fixed.mode fixed).trans ((congrArg (fun x : Part => x.svc.mode) w.rest).trans
      (Service.captureIf_mode ..))
  · exact (congrArg Fixed.counted fixed).trans counted
  · exact (congrArg Fixed.mem fixed).trans mem

end Sys2Proof.Machine
end

section
/-! PROOFS. A fault that fails a copy (R171 to R173, R81, R85, R97): the item in progress and the items behind it go back,
and the walk that follows moves none of them. -/

set_option Elab.async false

open Sys2Proof Sys2Proof.Machine

namespace Sys2Proof.Machine

/-! ### Items handed back -/

/-- An item handed back (R172, R173). -/
def Item.handedBack (it : Item) : Item := { it with state := .spooled, engine := none }

/-- What of an item decides which engines may take it (R88). -/
def Item.routing (it : Item) : Bool × Bool × Nat := (it.maskA, it.maskB, it.media)

/-- The items once those of a list are handed back. -/
def handedBack (items : Vector (Option Item) 64) (ids : List (Fin 64)) : Vector (Option Item) 64 :=
  ids.foldl (fun v (id : Fin 64) => v.set id ((v[id]).map Item.handedBack)) items

theorem handedBack_getElem (items : Vector (Option Item) 64) (ids : List (Fin 64)) (j : Fin 64) :
    (handedBack items ids)[j] = if j ∈ ids then (items[j]).map Item.handedBack else items[j] := by
  induction ids generalizing items with
  | nil => rfl
  | cons id ids ih =>
    show (handedBack (items.set id ((items[id]).map Item.handedBack)) ids)[j] = _
    rw [ih, set_getElem]
    by_cases h : j = id
    · subst h
      cases items[j] <;> simp [Item.handedBack]
    · simp only [h, if_false, List.mem_cons, false_or]

theorem handedBack_routing (items : Vector (Option Item) 64) (ids : List (Fin 64)) (j : Fin 64) :
    ((handedBack items ids)[j]).map Item.routing = (items[j]).map Item.routing := by
  rw [handedBack_getElem]
  split
  · rw [Option.map_map]
    rfl
  · rfl

/-- A new entry that reads as the one before. -/
theorem set_reads {α β : Type} {n : Nat} {v : Vector α n} {i : Fin n} {x : α} {g : α → β} (h : g x = g v[i]) (j : Fin n) :
    g (v.set i x)[j] = g v[j] := by
  rw [set_getElem]
  split
  next hj => rw [h, hj]
  next => rfl

theorem set_routing {items : Vector (Option Item) 64} {id : Fin 64} {it it' : Item} (hit : items[id] = some it)
    (hr : it'.routing = it.routing) (j : Fin 64) :
    ((items.set id (some it'))[j]).map Item.routing = (items[j]).map Item.routing :=
  set_reads (g := Option.map Item.routing) (by rw [hit, Option.map_some, hr, Option.map_some]) j

theorem Part.foldl_respool (p : Part) (ids : List (Fin 64)) :
    ids.foldl Part.respool p = { p with ord := { p.ord with items := handedBack p.ord.items ids } } := by
  induction ids generalizing p with
  | nil => rfl
  | cons id ids ih => exact ih (p.respool id)

/-- The release entries of items handed back (R85). -/
def markedEntries (ids : List (Fin 64)) : List ReleaseEntry := ids.map fun j => { item := j, marked := true }

theorem Part.itemCancelled_eq {p : Part} {id : Fin 64} {it : Item} {c : Bool} (hit : p.ord.items[id] = some it)
    (hc : (p.ord.orders[it.order]).map (·.cancel) = some c) : p.itemCancelled id = c := by
  simp only [Part.itemCancelled, hit, hc, Option.getD_some]

/-- The engine with an empty queue. -/
def Engine.emptied (en : Engine) : Engine := { en with queue := [] }

theorem Part.modEng_congr {p : Part} {e : EngineId} {f g : Engine → Engine} (h : f (p.eng e) = g (p.eng e)) :
    p.modEng e f = p.modEng e g := by
  cases e with
  | A => exact congrArg (fun en => { p with engA := en }) h
  | B => exact congrArg (fun en => { p with engB := en }) h

theorem Engine.without_of_not_mem {en : Engine} {id : Fin 64} (h : id ∉ en.queue) : en.without id = en := by
  have kept : en.queue.filter (· != id) = en.queue :=
    List.filter_eq_self.mpr fun j hj => bne_iff_ne.mpr fun he => h (he ▸ hj)
  rw [Engine.without, kept]

/-- The whole queue of an engine leaves it. -/
theorem Part.modEng_handing {p : Part} {e : EngineId} {ids : List (Fin 64)} (hq : ∀ j ∈ (p.eng e).queue, j ∈ ids) :
    (p.modEng e fun en => { en with queue := en.queue.filter fun id => !ids.contains id }) = p.modEng e Engine.emptied := by
  have none_left : ((p.eng e).queue.filter fun id => !ids.contains id) = [] :=
    List.filter_eq_nil_iff.mpr fun j hj => by simp [hq j hj]
  exact Part.modEng_congr (by simp only [none_left, Engine.emptied])

/-- An engine's whole queue goes back, no item of it being of a cancelled order (R85, R172, R173). -/
theorem Part.returnItems_kept {p : Part} {e : EngineId} {ids : List (Fin 64)} (hq : ∀ j ∈ (p.eng e).queue, j ∈ ids)
    (hc : ∀ j ∈ ids, p.itemCancelled j = false) :
    p.returnItems e ids = { p.modEng e Engine.emptied with ord := { p.ord with
      items := handedBack p.ord.items ids, release := markedEntries ids ++ p.ord.release } } := by
  have keep : (ids.filter fun id => !p.itemCancelled id) = ids :=
    List.filter_eq_self.mpr fun j hj => by rw [hc j hj]; rfl
  have gone : (ids.filter fun id => p.itemCancelled id) = [] :=
    List.filter_eq_nil_iff.mpr fun j hj => by rw [hc j hj]; nofun
  simp only [Part.returnItems, keep, gone, Part.modEng_handing hq, Part.foldl_respool, List.foldl_nil, Part.modEng_ord]
  rfl

/-- The one item of an engine's queue goes back to a cancelled order: it is withdrawn (R81). -/
theorem Part.returnItems_cancelled {p : Part} {e : EngineId} {id : Fin 64} (hq : (p.eng e).queue = [id])
    (hc : p.itemCancelled id = true) : p.returnItems e [id] = (p.modEng e Engine.emptied).withdrawReturned id := by
  have handing := Part.modEng_handing (p := p) (e := e) (ids := [id]) fun j hj => by rwa [hq] at hj
  have keep : ([id].filter fun id => !p.itemCancelled id) = [] := by rw [List.filter_cons_of_neg (by rw [hc]; nofun)]; rfl
  have gone : ([id].filter fun id => p.itemCancelled id) = [id] := by rw [List.filter_cons_of_pos hc]; rfl
  simp only [Part.returnItems, keep, gone, handing, List.foldl_nil, List.foldl_cons, List.map_nil, List.nil_append]

/-! ### The second failed copy -/

/-- The part once an item has FAILED, before its order is checked (R97, R172). -/
def Part.failed (p : Part) (id : Fin 64) (it : Item) : Part :=
  { p with
    ord := { p.ord with
      items := p.ord.items.set id (some { it with
        state := .failed, reason := some .engineFaultTwice, engine := none, debited := false })
      orders := p.ord.orders.set it.order
        ((p.ord.orders[it.order]).map fun o => { o with consumed := o.consumed - it.reversal })
      release := p.ord.release.filter fun e => e.item != id }
    engA := p.engA.without id
    engB := p.engB.without id
    spl := { p.spl with regions := p.spl.regions.set it.region (p.spl.regions[it.region].letGo id) }
    svc := p.svc.capture .itemFailed }

theorem Part.failItem_eq {p : Part} {id : Fin 64} {it : Item} (hit : p.ord.items[id] = some it) :
    p.failItem id = (p.failed id it).checkSettling it.order := by
  have own (it' : Item) : (p.ord.items.set id (some it'))[id] = some it' := Vector.getElem_set_self _
  simp only [Part.failItem, Part.reverse_eq hit, Part.leaveQueues, Part.modItem, Part.modEng, own, Option.map_some,
    Vector.set_set, Part.clearHolder, Part.modRegion, Part.capture, Part.checkItemOrder]
  rfl

/-! ### The fault -/

theorem State.engineStopped_eq (s : State) (e : EngineId) (k : FaultKind) :
    s.engineStopped e k = { s with toPart := (s.toPart.enterFault e k).modEng e Engine.emptied } := by
  cases e <;> simp only [Part.enterFault, Part.disownAccess, beq_iff_eq] <;> rfl

/-- A fault forgets what it clears. -/
theorem State.enterFault_forgets {s : State} {e : EngineId} {k : FaultKind} {x : Engine}
    (hx : x.faulted k = (s.eng e).faulted k) : (s.withEngine e x).toPart.enterFault e k = s.toPart.enterFault e k := by
  cases e with
  | A => exact congrArg (fun en => ({ s.toPart with engA := en }.disownAccess (.engine .A)).capture .engineFault) hx
  | B => exact congrArg (fun en => ({ s.toPart with engB := en }.disownAccess (.engine .B)).capture .engineFault) hx

theorem Part.tryEntry_unchosen {p : Part} {x : ReleaseEntry}
    (h : ∀ it, p.ord.items[x.item] = some it → p.chooseEngine it = none) : p.tryEntry x = p := by
  unfold Part.tryEntry
  cases hit : p.ord.items[x.item] with
  | none => rfl
  | some it =>
    simp only [h it hit]
    cases p.ord.orders[it.order] with
    | none => rfl
    | some o => exact ite_self _

theorem State.mayTake_congr {s t : State} {e : EngineId} {v w : Item} (he : t.eng e = s.eng e) (hr : v.routing = w.routing) :
    t.mayTake e v ↔ s.mayTake e w := by
  obtain ⟨maskA, maskB, media⟩ : v.maskA = w.maskA ∧ v.maskB = w.maskB ∧ v.media = w.media := by
    simpa only [Item.routing, Prod.mk.injEq] using hr
  cases e <;> simp only [State.mayTake, he, maskA, maskB, media]

/-- A walk after a fault moves none of the items that went back: their engine is in FAULT and the other may not take them
(R87, R88). -/
theorem State.walk_faulted {s t : State} {e : EngineId} {k : FaultKind} {ids : List (Fin 64)}
    (engA : t.engA = (s.engineStopped e k).engA) (engB : t.engB = (s.engineStopped e k).engB)
    (hr : t.ord.release = markedEntries ids)
    (routed : ∀ j ∈ ids, (t.ord.items[j]).map Item.routing = (s.ord.items[j]).map Item.routing)
    (untaken : ∀ j ∈ ids, ∀ w, s.ord.items[j] = some w → ∀ other, other ≠ e → ¬ s.mayTake other w) :
    t.toPart.walk = t.toPart := by
  refine Part.walk_stays fun x hx => Part.tryEntry_unchosen fun v hv => State.chooseEngine_none fun other => ?_
  obtain ⟨j, hj, rfl⟩ := List.mem_map.mp (hr ▸ hx)
  have stopped : t.eng other = (s.engineStopped e k).eng other := by
    cases other with
    | A => exact engA
    | B => exact engB
  by_cases h : other = e
  · subst h
    rintro ⟨-, state, -⟩
    rw [stopped, show ((s.engineStopped other k).eng other).state = .fault by cases other <;> rfl] at state
    exact absurd state (by decide)
  · have same : t.eng other = s.eng other := by
      rw [stopped, State.engineStopped_eq]
      exact (Part.modEng_other _ h _).trans (Part.enterFault_eng_other _ h k)
    obtain ⟨w, hw, routing⟩ := Option.map_eq_some_iff.mp ((routed j hj).symm.trans (congrArg (Option.map Item.routing) hv))
    rw [State.mayTake_congr same routing.symm]
    exact untaken j hj w hw other h

/-- A fault of a printing engine fails its copy (R171, R172); the engine may have been changed before in what a fault
clears. -/
theorem State.faultPrinting_failing {s : State} {e : EngineId} {k : FaultKind} {x : Engine}
    (hx : x.faulted k = (s.eng e).faulted k) (hp : x.state.printing = true) (hm : x.motion ≠ some .abortEject) :
    (s.withEngine e x).toPart.faultPrinting e k = Part.walkIf (s.toPart.faultCore e k true) := by
  have own : (s.withEngine e x).toPart.eng e = x := by cases e <;> rfl
  have queue : x.queue = (s.eng e).queue := by
    show (x.faulted k).queue = _
    rw [hx]
    rfl
  have fails : (x.state.printing && x.motion != some .abortEject) = true := by
    rw [hp, Bool.true_and, bne_iff_ne]
    exact hm
  simp only [Part.faultPrinting, Part.faultCore, own, queue, fails, State.enterFault_forgets hx]

/-! ### The three ends of the copy -/

theorem State.regionFreed_eq (s : State) (id : Fin 64) (it : Item) :
    s.spl.regions.set it.region (s.spl.regions[it.region].letGo id) = s.regionFreed id it := by
  rw [Region.letGo_eq]
  rfl

/-- A copy of item `id` of order `o` fails on engine `e`: what the statements assume of it. -/
structure State.Failing (s : State) (e : EngineId) (id : Fin 64) (waiting : List (Fin 64)) (it : Item) (o : Order) :
    Prop where
  queue : (s.eng e).queue = id :: waiting
  item : s.ord.items[id] = some it
  printing : it.state = .printing
  order : s.ord.orders[it.order] = some o
  release : s.ord.release = []
  queued : ∀ j ∈ waiting, ∃ w ow, s.ord.items[j] = some w ∧ w.state = .queued ∧ s.ord.orders[w.order] = some ow
    ∧ ow.cancel = false
  untaken : ∀ j ∈ id :: waiting, ∀ w, s.ord.items[j] = some w → ∀ other, other ≠ e →
    ¬ s.mayTake other w ∧ j ∉ (s.eng other).queue

/-- An item whose one reprint is used (R172). -/
def Item.reprinted (it : Item) : Item := { it with reprintUsed := true }

/-- An item whose second copy has failed (R97, R172). -/
def Item.failedTwice (it : Item) : Item :=
  { it with state := .failed, reason := some .engineFaultTwice, engine := none, debited := false }

section
variable (s : State) (e : EngineId) (k : FaultKind) (id : Fin 64) (waiting : List (Fin 64)) (it : Item) (o : Order)

/-- The engine in FAULT with its queue as it was, the item's reprint being used (R171, R172). -/
def State.reprinting : Part :=
  { s.toPart.enterFault e k with ord := { s.ord with items := s.ord.items.set id (some it.reprinted) } }

/-- The item and those behind it have gone back (R172, R173). -/
def State.copyReturned : Part :=
  { (s.engineStopped e k).toPart with ord := { s.ord with
    items := handedBack (s.ord.items.set id (some it.reprinted)) (id :: waiting)
    release := markedEntries (id :: waiting) } }

/-- The item is FAILED and those behind it have gone back (R97, R172, R173). -/
def State.copyFailed : Part :=
  { (s.engineStopped e k).toPart with
    ord := { s.ord with
      orders := s.ord.orders.set it.order (some { o with consumed := o.consumed - it.reversal })
      items := handedBack (s.ord.items.set id (some it.failedTwice)) waiting
      release := markedEntries waiting }
    svc := (s.engineStopped e k).svc.capture .itemFailed
    spl := { (s.engineStopped e k).spl with regions := s.regionFreed id it } }

/-- The item, which was alone in the queue, is withdrawn (R81, R97). -/
def State.copyWithdrawn : Part :=
  { (s.engineStopped e k).toPart with
    ord := { s.ord with
      orders := s.ord.orders.set it.order (some (it.resetCharge o))
      items := s.ord.items.set id (some (it.reprinted.withdrawn none)) }
    spl := { (s.engineStopped e k).spl with regions := s.regionFreed id it } }

theorem State.enterFault_ord : (s.toPart.enterFault e k).ord = s.ord := by cases e <;> rfl

end

section
variable {s : State} {e : EngineId} {k : FaultKind} {id : Fin 64} {waiting : List (Fin 64)} {it : Item} {o : Order}
  (f : s.Failing e id waiting it o)
include f

theorem State.Failing.record : (s.toPart.enterFault e k).ord.items[id] = some it := by
  rw [s.enterFault_ord]
  exact f.item

theorem State.Failing.waiting_ne {j : Fin 64} (hj : j ∈ waiting) : j ≠ id := by
  obtain ⟨w, -, hw, queuing, -⟩ := f.queued j hj
  rintro rfl
  obtain rfl : it = w := Option.some.inj (f.item.symm.trans hw)
  exact absurd (f.printing.symm.trans queuing) (by decide)

theorem State.Failing.waiting_queued : waiting.filter (s.toPart.enterFault e k).isQueued = waiting := by
  refine List.filter_eq_self.mpr fun j hj => ?_
  obtain ⟨w, -, hw, queuing, -⟩ := f.queued j hj
  rw [Part.isQueued, s.enterFault_ord, hw, Option.map_some, queuing]
  rfl

/-- The items behind the first one belong to orders that are not cancelled, here in a part that keeps them. -/
theorem State.Failing.waiting_uncancelled {p : Part} (items : ∀ j : Fin 64, j ≠ id → p.ord.items[j] = s.ord.items[j])
    (orders : ∀ n : Fin 32, (p.ord.orders[n]).map Order.cancel = (s.ord.orders[n]).map Order.cancel) :
    ∀ j ∈ waiting, p.itemCancelled j = false := by
  intro j hj
  obtain ⟨w, ow, hw, -, how, cancel⟩ := f.queued j hj
  exact (Part.itemCancelled_eq ((items j (f.waiting_ne hj)).trans hw) ((orders w.order).trans (congrArg _ how))).trans cancel

/-- The other engine does not have the item (R88). -/
theorem State.Failing.untouched {e' : EngineId} (h : e' ≠ e) : (s.eng e').without id = s.eng e' :=
  Engine.without_of_not_mem (f.untaken id (List.mem_cons_self ..) it f.item e' h).2

/-- The two ways of the item in progress, by its reprint (R172). -/
theorem State.Failing.faultCore : s.toPart.faultCore e k true =
    if it.reprintUsed then (((s.toPart.enterFault e k).failItem id).returnItems e waiting, true)
    else ((s.reprinting e k id it).returnItems e (id :: waiting), true) := by
  have reprint : ((s.toPart.enterFault e k).modItem id fun it => { it with reprintUsed := true })
      = s.reprinting e k id it := by
    rw [Part.modItem_eq f.record, s.enterFault_ord]
    rfl
  simp only [Part.faultCore, f.queue, f.waiting_queued, f.record, Option.map_some, Option.getD_some, reprint]

theorem State.Failing.reprinting_queue : ((s.reprinting e k id it).eng e).queue = id :: waiting := by
  cases e <;> exact f.queue

theorem State.Failing.reprinting_cancelled : (s.reprinting e k id it).itemCancelled id = o.cancel :=
  Part.itemCancelled_eq (p := s.reprinting e k id it) (Vector.getElem_set_self _)
    (congrArg (Option.map Order.cancel) f.order)

/-- The first failed copy (R172, R173). -/
theorem State.Failing.returns (hr : it.reprintUsed = false) (hc : o.cancel = false) :
    Part.walkIf (s.toPart.faultCore e k true) = s.copyReturned e k id waiting it := by
  have uncancelled : ∀ j ∈ id :: waiting, (s.reprinting e k id it).itemCancelled j = false :=
    List.forall_mem_cons.mpr ⟨f.reprinting_cancelled.trans hc,
      f.waiting_uncancelled (fun _ h => orders_set_ne _ _ h) fun _ => rfl⟩
  have listed : (s.reprinting e k id it).ord.release = [] := f.release
  have taken : ((s.reprinting e k id it).returnItems e (id :: waiting)) = s.copyReturned e k id waiting it := by
    rw [Part.returnItems_kept (fun j hj => f.reprinting_queue ▸ hj) uncancelled, listed, List.append_nil, State.copyReturned,
      s.engineStopped_eq]
    cases e <;> rfl
  rw [f.faultCore, if_neg (by rw [hr]; nofun), taken]
  exact State.walk_faulted (s := s) (t := { s with toPart := s.copyReturned e k id waiting it }) rfl rfl rfl
    (fun j _ => (handedBack_routing ..).trans (set_routing (it' := it.reprinted) f.item rfl j))
    fun j hj w hw other h => (f.untaken j hj w hw other h).1

/-- A second failed copy leaves its order with other work (R74, R99). -/
theorem State.Failing.fails_alone (other : s.worksBeside id o) :
    (s.toPart.enterFault e k).failItem id = (s.toPart.enterFault e k).failed id it := by
  have items (j : Fin 64) (h : j ≠ id) : ((s.toPart.enterFault e k).failed id it).ord.items[j] = s.ord.items[j] := by
    cases e <;> exact orders_set_ne _ _ h
  have order : ((s.toPart.enterFault e k).failed id it).ord.orders[it.order]
      = some { o with consumed := o.consumed - it.reversal } := by
    refine (Vector.getElem_set_self _).trans ?_
    cases e <;> exact congrArg _ f.order
  rw [Part.failItem_eq f.record]
  refine Part.checkSettling_rests fun o' ho' => ?_
  obtain rfl := Option.some.inj (order.symm.trans ho')
  obtain ⟨j, hj, hne, w, hw, working⟩ := other
  exact Part.maySettle_working hj ((items j hne).trans hw) working

/-- The items behind a FAILED one go back (R173). -/
theorem State.Failing.failed_returns :
    ((s.toPart.enterFault e k).failed id it).returnItems e waiting = s.copyFailed e k id waiting it o := by
  let p := (s.toPart.enterFault e k).failed id it
  have queue : ∀ j ∈ (p.eng e).queue, j ∈ waiting := by
    have left : (p.eng e).queue = (s.eng e).queue.filter (· != id) := by cases e <;> rfl
    intro j hj
    rw [left, f.queue, List.mem_filter] at hj
    exact List.mem_of_ne_of_mem (bne_iff_ne.mp hj.2) hj.1
  have uncancelled : ∀ j ∈ waiting, p.itemCancelled j = false := by
    refine f.waiting_uncancelled (fun j h => ?_) fun n => ?_
    · cases e <;> exact orders_set_ne _ _ h
    · cases e <;> exact set_reads (g := Option.map Order.cancel) (by rw [Option.map_map]; rfl) n
  have listed : p.ord.release = [] := by
    show (s.toPart.enterFault e k).ord.release.filter _ = []
    rw [s.enterFault_ord, f.release, List.filter_nil]
  have record : (s.ord.orders[it.order]).map (fun o => { o with consumed := o.consumed - it.reversal })
      = some { o with consumed := o.consumed - it.reversal } := by rw [f.order, Option.map_some]
  have region := s.regionFreed_eq id it
  rw [Part.returnItems_kept queue uncancelled, listed, List.append_nil, State.copyFailed, s.engineStopped_eq]
  cases e with
  | A =>
    have engB : s.engB.without id = s.engB := f.untouched (e' := .B) nofun
    simp only [p, Part.failed, Part.enterFault, Part.modEng, Part.disownAccess, Part.capture, engB, record, region]
    rfl
  | B =>
    have engA : s.engA.without id = s.engA := f.untouched (e' := .A) nofun
    simp only [p, Part.failed, Part.enterFault, Part.modEng, Part.disownAccess, Part.capture, engA, record, region]
    rfl

/-- The second failed copy (R97, R172, R173). -/
theorem State.Failing.fails (hr : it.reprintUsed = true) (other : s.worksBeside id o) :
    Part.walkIf (s.toPart.faultCore e k true) = s.copyFailed e k id waiting it o := by
  rw [f.faultCore, if_pos hr, f.fails_alone other, f.failed_returns]
  exact State.walk_faulted (s := s) (t := { s with toPart := s.copyFailed e k id waiting it o }) rfl rfl rfl
    (fun j _ => (handedBack_routing ..).trans (set_routing (it' := it.failedTwice) f.item rfl j))
    fun j hj w hw other h => (f.untaken j (List.mem_cons_of_mem _ hj) w hw other h).1

end

/-! ### The item of a cancelled order -/

/-- The order of a withdrawn item has other work, so that it does not settle (R99). -/
theorem State.copyWithdrawn_settled {s : State} {id : Fin 64} {o : Order} (e : EngineId) (k : FaultKind) (it : Item)
    (other : s.worksBeside id o) :
    (s.copyWithdrawn e k id it o).checkItemOrder id = s.copyWithdrawn e k id it o := by
  have own : (s.copyWithdrawn e k id it o).ord.items[id] = some (it.reprinted.withdrawn none) := Vector.getElem_set_self _
  rw [Part.checkItemOrder]
  simp only [own]
  refine Part.checkSettling_rests fun o' ho' => ?_
  obtain rfl := Option.some.inj ((Vector.getElem_set_self _).symm.trans ho')
  obtain ⟨j, hj, hne, w, hw, working⟩ := other
  exact Part.maySettle_working hj ((orders_set_ne _ _ hne).trans hw) working

section
variable {s : State} {e : EngineId} {k : FaultKind} {id : Fin 64} {it : Item} {o : Order} (f : s.Failing e id [] it o)
include f

/-- The item is withdrawn on its return; it receives no bands (R81, R97, R144). -/
theorem State.Failing.withdrawn (intake : ∀ x, s.rin.intake[id] = some x → x.receiving = false) :
    ((s.reprinting e k id it).modEng e Engine.emptied).withdrawItem id none = s.copyWithdrawn e k id it o := by
  let r : Part := (s.reprinting e k id it).modEng e Engine.emptied
  have ord : r.ord = (s.reprinting e k id it).ord := Part.modEng_ord ..
  have item : r.ord.items[id] = some it.reprinted := by
    rw [ord]
    exact Vector.getElem_set_self _
  have still : r.intakeStopped id = r := by
    refine Part.intakeStopped_rests ?_
    have same : r.rin = s.rin := by cases e <;> rfl
    rw [Part.receives, same]
    cases hx : s.rin.intake[id] with
    | none => rfl
    | some x => exact intake x hx
  have record : (s.ord.orders[it.order]).map it.reprinted.resetCharge = some (it.resetCharge o) := by
    rw [f.order]
    rfl
  have region := s.regionFreed_eq id it
  rw [Part.withdrawItem_eq item, Part.withdrawn, still, State.copyWithdrawn, s.engineStopped_eq]
  cases e with
  | A =>
    have engB : s.engB.without id = s.engB := f.untouched (e' := .B) nofun
    simp only [r, State.reprinting, Item.reprinted, Part.enterFault, Part.modEng, Part.disownAccess, Part.capture,
      Vector.set_set, f.release, List.filter_nil, engB, region] at record ⊢
    rw [record]
    rfl
  | B =>
    have engA : s.engA.without id = s.engA := f.untouched (e' := .A) nofun
    simp only [r, State.reprinting, Item.reprinted, Part.enterFault, Part.modEng, Part.disownAccess, Part.capture,
      Vector.set_set, f.release, List.filter_nil, engA, region] at record ⊢
    rw [record]
    rfl

theorem State.Failing.withdraws (hr : it.reprintUsed = false) (hc : o.cancel = true) (other : s.worksBeside id o)
    (intake : ∀ x, s.rin.intake[id] = some x → x.receiving = false) :
    Part.walkIf (s.toPart.faultCore e k true) = s.copyWithdrawn e k id it o := by
  rw [f.faultCore, if_neg (by rw [hr]; nofun), Part.returnItems_cancelled f.reprinting_queue
    (f.reprinting_cancelled.trans hc), Part.withdrawReturned, f.withdrawn intake, State.copyWithdrawn_settled e k it other]
  exact Part.walk_nil f.release

end

/-- A fault of a printing engine fails its copy; what it finds of the engine may differ in what a fault clears. -/
theorem State.faultPrinting_copyFails {s : State} {e : EngineId} {k : FaultKind} {x : Engine}
    (hx : x.faulted k = (s.eng e).faulted k) (hp : x.state.printing = true) (hm : x.motion ≠ some .abortEject) :
    s.copyFails e k (.next { s with toPart := (s.withEngine e x).toPart.faultPrinting e k }) := by
  intro id waiting it o queue item printing order release queued untaken stopped back marked items
  have f : s.Failing e id waiting it o := ⟨queue, item, printing, order, release, queued, untaken⟩
  rw [State.faultPrinting_failing hx hp hm]
  refine ⟨fun hr hc => ⟨_, rfl, ?_, fun j => ?_⟩, fun hr other => ⟨_, rfl, ?_, fun j => ?_⟩,
    fun hr hc other alone intake => ?_⟩
  · rw [f.returns hr hc]
    cases e <;> rfl
  · rw [f.returns hr hc]
    refine (handedBack_getElem ..).trans ?_
    rw [set_getElem]
    by_cases h : j = id
    · simp only [items, h, if_true, List.mem_cons, true_or]
      rfl
    · simp only [items, h, if_false, List.mem_cons, false_or]
      rfl
  · rw [f.fails hr other]
    cases e <;> rfl
  · rw [f.fails hr other]
    refine (handedBack_getElem ..).trans ?_
    rw [set_getElem]
    by_cases h : j = id
    · have out : id ∉ waiting := fun hid => f.waiting_ne hid rfl
      simp only [items, h, if_true, out, if_false]
      rfl
    · simp only [items, h, if_false]
      rfl
  · subst alone
    rw [f.withdraws hr hc other intake]
    cases e <;> rfl

end Sys2Proof.Machine
end

section
/-! PROOFS. The reports of the mechanism (R165 to R170, R178): draw, panel motion, eject, aborting eject, motion timeout. -/

set_option Elab.async false

open Sys2Proof Sys2Proof.Machine

namespace Sys2Proof.Machine

/-! ### One engine record -/

section
variable (s : State) (e : EngineId)

theorem State.withEngine_eng (x : Engine) : (s.withEngine e x).eng e = x := by cases e <;> rfl

theorem State.withEngine_twice (x y : Engine) : (s.withEngine e x).withEngine e y = s.withEngine e y := by cases e <;> rfl

theorem State.withEngine_ord (x : Engine) : (s.withEngine e x).ord = s.ord := by cases e <;> rfl

theorem State.withEngine_svc (x : Engine) : (s.withEngine e x).svc = s.svc := by cases e <;> rfl

theorem State.withEngine_sensors (x : Engine) : (s.withEngine e x).toPart.sensors = s.toPart.sensors := by
  cases e <;> rfl

theorem State.modEng_part (f : Engine → Engine) : s.toPart.modEng e f = (s.withEngine e (f (s.eng e))).toPart :=
  congrArg State.toPart (s.modEng_eq e f)

end

theorem State.withItem_self {s : State} {id : Fin 64} {it : Item} (hit : s.ord.items[id] = some it) :
    s.withItem id it = s := by
  rw [State.withItem, ← hit, set_self]

/-- The next copy of an item that is PRINTING begins as one of a QUEUED item does (R166, R167, R170). -/
theorem State.beginCopy_again {s : State} {e : EngineId} {id : Fin 64} {it : Item} (hi : (s.eng e).state = .idle)
    (hm : s.svc.mode.dark = false) (hq : (s.eng e).queue = [id]) (hit : s.ord.items[id] = some it)
    (hs : it.state = .printing) : ({ s with toPart := (s.toPart.beginCopy e).1 } : State) = s.copyBegun e id it := by
  by_cases hp : (s.eng e).prints = 0
  · have begun : (s.toPart.beginCopy e).1
        = (s.toPart.modEng e fun en => { en with state := .needsMedia }).capture .mediaOut := by
      simp only [Part.beginCopy, hi, hm, hq, hp, if_true]
    rw [begun, State.copyBegun, if_pos hp]
    exact congrArg (·.captured .mediaOut) (s.modEng_eq e fun en => { en with state := .needsMedia })
  let queued : Item := { it with state := .queued }
  let u := s.withItem id queued
  have engine : u.eng e = s.eng e := by cases e <;> rfl
  have own : u.ord.items[id] = some queued := Vector.getElem_set_self _
  have printing : { queued with state := .printing } = it := by rw [← hs]
  have back : u.withItem id it = s := by
    rw [State.withItem, show u.ord.items.set id _ = s.ord.items.set id (some it) from Vector.set_set ..]
    exact s.withItem_self hit
  have again : (u.toPart.beginCopy e).1 = (s.toPart.beginCopy e).1 := by
    have uq : u.toPart.isQueued id = true := by rw [Part.isQueued, own]; rfl
    have sq : s.toPart.isQueued id = false := by rw [Part.isQueued, hit, Option.map_some, hs]; rfl
    have restored : u.toPart.modItem id (fun it => { it with state := .printing }) = s.toPart := by
      rw [Part.modItem_eq own, printing]
      exact congrArg State.toPart back
    have begun : (s.toPart.beginCopy e).1 = (s.toPart.loadStart e).1 := by
      simp only [Part.beginCopy, hi, hm, hq, if_neg hp, sq, Bool.false_eq_true, if_false]
    rw [begun]
    have dark : u.svc.mode.dark = false := hm
    have idle : (u.eng e).state = .idle := engine ▸ hi
    have queue : (u.eng e).queue = [id] := engine ▸ hq
    have prints : ¬ (u.eng e).prints = 0 := engine ▸ hp
    simp only [Part.beginCopy, idle, dark, queue, if_neg prints, uq, if_true, restored]
  have first := State.beginCopy_eq (s := u) (e := e) (engine ▸ hi) hm (engine ▸ hq) own rfl
  have same : u.copyBegun e id queued = s.copyBegun e id it := by
    have sheets : (u.eng e).prints ≠ 0 := engine ▸ hp
    have whole : s.withItem id { it with state := .printing } = s := by rw [← hs]; exact s.withItem_self hit
    rw [State.copyBegun, if_neg sheets, printing, back]
    rw [State.copyBegun, if_neg hp, whole, engine]
    rfl
  rw [← same, ← first, again]
  rfl

/-! ### After an eject -/

/-- An engine that waits to go OFFLINE does so (R170). -/
def Engine.offlined (en : Engine) : Engine :=
  { en with state := .offline, panel := none, line := none, motion := none, offlinePending := false }

/-- What an eject leaves of an engine (R170, R178). -/
def Engine.ejected (en : Engine) : Engine := if en.offlinePending then en.offlined else en.idled

theorem State.afterEject_pending {s : State} {e : EngineId} (h : (s.eng e).offlinePending = true) :
    s.toPart.afterEject e = ((s.withEngine e (s.eng e).ejected).toPart, false) := by
  rw [Part.afterEject, if_pos h, s.modEng_part, Engine.ejected, if_pos h]
  rfl

theorem State.afterEject_clear {s : State} {e : EngineId} (h : (s.eng e).offlinePending = false)
    (hc : (s.toPart.sensors e).condition = none) :
    s.toPart.afterEject e = (s.withEngine e (s.eng e).ejected).toPart.beginCopy e := by
  rw [Part.afterEject, if_neg (by rw [show (s.toPart.eng e).offlinePending = false from h]; nofun),
    Part.enterIdle_clear hc, s.modEng_part, Engine.ejected, if_neg (by rw [h]; nofun)]

/-- No copy begins after an eject with no item left, or with an offline request (R170, R178). -/
theorem State.afterEject_rests {s : State} {e : EngineId} (hc : (s.toPart.sensors e).condition = none)
    (h : (s.eng e).queue = [] ∨ (s.eng e).offlinePending = true) :
    s.toPart.afterEject e = ((s.withEngine e (s.eng e).ejected).toPart, false) := by
  by_cases pending : (s.eng e).offlinePending = true
  · exact State.afterEject_pending pending
  · have clear := eq_false_of_ne_true pending
    rw [State.afterEject_clear clear hc, Part.beginCopy_empty]
    have own := s.withEngine_eng e (s.eng e).ejected
    rw [show Part.eng _ e = _ from own, Engine.ejected, clear]
    exact h.resolve_right pending

/-- After an eject the next copy begins: of the item in progress, or of the next one (R166, R170). -/
theorem State.afterEject_begins {s : State} {e : EngineId} {id : Fin 64} {it : Item}
    (hc : (s.toPart.sensors e).condition = none) (hd : (s.eng e).offlinePending = false) (hm : s.svc.mode.dark = false)
    (hq : (s.eng e).queue = [id]) (hit : s.ord.items[id] = some it) (hs : it.state = .queued ∨ it.state = .printing) :
    ({ s with toPart := (s.toPart.afterEject e).1 } : State) = (s.withEngine e (s.eng e).ejected).copyBegun e id it := by
  let u := s.withEngine e (s.eng e).ejected
  have pending : ({ s with toPart := (u.toPart.beginCopy e).1 } : State)
      = { u with toPart := (u.toPart.beginCopy e).1 } := by
    cases e <;> rfl
  have ejected : (s.eng e).ejected = (s.eng e).idled := by rw [Engine.ejected, hd]; rfl
  have idle : (u.eng e).state = .idle := by rw [s.withEngine_eng, ejected]; rfl
  have queue : (u.eng e).queue = [id] := by rw [s.withEngine_eng, ejected]; exact hq
  have dark : u.svc.mode.dark = false := by rw [s.withEngine_svc]; exact hm
  have item : u.ord.items[id] = some it := by rw [s.withEngine_ord]; exact hit
  rw [State.afterEject_clear hd hc, pending]
  exact hs.elim (State.beginCopy_eq idle dark queue item) (State.beginCopy_again idle dark queue item)

theorem State.copyBegun_release (s : State) (e : EngineId) (id : Fin 64) (it : Item) :
    (s.copyBegun e id it).ord.release = s.ord.release := by
  unfold State.copyBegun
  dsimp only
  split
  · cases e <;> rfl
  · split
    · split <;> cases e <;> rfl
    · cases e <;> rfl

/-! ### The ejected copy -/

section
variable {s : State} {e : EngineId} {id : Fin 64} {it : Item} {o : Order} {waiting : List (Fin 64)}
  (hq : (s.eng e).queue = id :: waiting) (hit : s.ord.items[id] = some it)
include hit

/-- A copy that is not the item's last (R89, R170). -/
theorem State.copyEjected_again (hn : it.copiesDone + 1 ≠ it.copies) :
    s.toPart.copyEjected e id
      = Part.walkIf ((s.withItem id { it with copiesDone := it.copiesDone + 1 }).toPart.afterEject e) := by
  have own : (s.ord.items.set id (some { it with copiesDone := it.copiesDone + 1 }))[id]
    = some { it with copiesDone := it.copiesDone + 1 } := Vector.getElem_set_self _
  simp only [Part.copyEjected, Part.modItem_eq hit, own, if_neg hn]
  rfl

/-- The state once an item is DONE and has left its engine's queue (R74, R89, R170). -/
def State.itemDone (s : State) (e : EngineId) (id : Fin 64) (it : Item) (waiting : List (Fin 64)) : State :=
  ({ s.captured .itemDone with
    ord := { s.ord with
      items := s.ord.items.set id (some { it with copiesDone := it.copies, state := .done, engine := none }) }
    spl := { s.spl with regions := s.regionFreed id it } } : State).withEngine e { s.eng e with queue := waiting }

include hq

/-- The item's last copy: it is DONE, its order having other work (R74, R89, R99, R170). -/
theorem State.copyEjected_done (hn : it.copiesDone + 1 = it.copies) (ho : s.ord.orders[it.order] = some o)
    (other : s.worksBeside id o) :
    s.toPart.copyEjected e id = ((s.itemDone e id it waiting).toPart.afterEject e).1.walk := by
  have own (x : Item) : (s.ord.items.set id (some x))[id] = some x := Vector.getElem_set_self _
  have region := s.regionFreed_eq id it
  have settled : (s.itemDone e id it waiting).toPart.checkItemOrder id = (s.itemDone e id it waiting).toPart := by
    have ord : (s.itemDone e id it waiting).ord = { s.ord with
      items := s.ord.items.set id (some { it with copiesDone := it.copies, state := .done, engine := none }) } :=
      State.withEngine_ord _ e _
    rw [Part.checkItemOrder, ord]
    simp only [own]
    refine Part.checkSettling_rests fun o' ho' => ?_
    have orders := congrArg (fun x : OrderTable => x.orders[it.order]) ord
    obtain rfl : o = o' := Option.some.inj (ho.symm.trans (orders.symm.trans ho'))
    obtain ⟨j, hj, hne, w, hw, working⟩ := other
    refine Part.maySettle_working hj ?_ working
    rw [ord]
    exact (orders_set_ne _ _ hne).trans hw
  refine Eq.trans ?_ (congrArg (fun p => (Part.afterEject p e).1.walk) settled)
  simp only [Part.copyEjected, Part.modItem_eq hit, own, if_pos hn]
  congr 4
  cases e with
  | A =>
    have queue : s.engA.queue.drop 1 = waiting := congrArg (List.drop 1) hq
    simp only [Part.modItem, Part.modEng, Part.clearHolder, Part.modRegion, Part.capture, own, Option.map_some,
      Vector.set_set, queue, hn, State.itemDone, ← region]
    rfl
  | B =>
    have queue : s.engB.queue.drop 1 = waiting := congrArg (List.drop 1) hq
    simp only [Part.modItem, Part.modEng, Part.clearHolder, Part.modRegion, Part.capture, own, Option.map_some,
      Vector.set_set, queue, hn, State.itemDone, ← region]
    rfl

end

/-! ### The reports -/

section
variable {s : State} {e : EngineId} (hr : s.inReset = false)
include hr

theorem exec_abortEjectComplete (h : (s.eng e).motion = some .abortEject) :
    exec (.abortEjectComplete e) s = .next { s with toPart := Part.walkIf (s.toPart.afterEject e) } := by
  rw [exec_running hr (by nofun)]
  simp only [runOf, h, beq_self_eq_true, if_true]

theorem exec_motionTimeout (h : (s.eng e).motion ≠ none) :
    exec (.motionTimeout e) s = .next { s with toPart := s.toPart.faultPrinting e .paperJam } := by
  rw [exec_running hr (by nofun)]
  simp only [runOf, Option.isSome_iff_ne_none.mpr h, if_true]

theorem exec_drawComplete (h : (s.eng e).motion = some .draw) :
    exec (.drawComplete e) s = .next { s with toPart := s.toPart.panelStart e .Y } := by
  rw [exec_running hr (by nofun)]
  simp only [runOf, h, beq_self_eq_true, if_true]

theorem exec_panelMotionComplete {panel : Panel} (h : (s.eng e).motion = some (.panelStart panel))
    (panelTemp lineTemp : Int) :
    exec (.panelMotionComplete e panelTemp lineTemp) s
      = .next { s with toPart := s.toPart.panelReady e panel panelTemp lineTemp } := by
  rw [exec_running hr (by nofun)]
  simp only [runOf, h]

theorem exec_ejectComplete {id : Fin 64} {waiting : List (Fin 64)} (h : (s.eng e).motion = some .eject)
    (hq : (s.eng e).queue = id :: waiting) :
    exec (.ejectComplete e) s = .next { s with toPart := s.toPart.copyEjected e id } := by
  rw [exec_running hr (by nofun)]
  simp only [runOf, h, hq]

end

/-- A panel starts above the item in progress (R168, R183). -/
theorem State.panelStart_eq {s : State} {e : EngineId} {id : Fin 64} {waiting : List (Fin 64)} {it : Item}
    (hq : (s.eng e).queue = id :: waiting) (hit : s.ord.items[id] = some it) (panel : Panel) :
    s.toPart.panelStart e panel = (s.withEngine e { s.eng e with
      motion := some (.panelStart panel)
      hdu := { (s.eng e).hdu with prev := some (List.replicate it.width 0) } }).toPart := by
  have starts : s.toPart.panelStart e panel = s.toPart.modEng e fun en => { en with
      motion := some (.panelStart panel), hdu := { en.hdu with prev := some (List.replicate it.width 0) } } := by
    simp only [Part.panelStart, hq, hit, Option.map_some, Option.getD_some]
  exact starts.trans (s.modEng_part e _)

/-- A line starts below the stop limit (R169). -/
theorem State.lineStart_cool {s : State} {e : EngineId} {t : Int} (h : t < (s.eng e).params.stop) :
    s.toPart.lineStart e t = (s.withEngine e { s.eng e with temperature := t, readWaiting := true }).toPart := by
  have limit : ¬ ((s.eng e).params.stop : Int) ≤ t := Int.not_le.mpr h
  simp only [Part.lineStart, Part.modEng_same, if_neg limit, Part.modEng_modEng]
  exact s.modEng_part e _

/-- A line start at the stop limit is a fault (R169). -/
theorem State.lineStart_hot {s : State} {e : EngineId} {t : Int} (h : (s.eng e).params.stop ≤ t) :
    s.toPart.lineStart e t = (s.withEngine e { s.eng e with temperature := t }).toPart.faultPrinting e .headHot := by
  simp only [Part.lineStart, Part.modEng_same, if_pos h]
  exact congrArg (Part.faultPrinting · e .headHot) (s.modEng_part e _)

theorem State.withEngine_of (s : State) {e : EngineId} {p : Part} {x : Engine} (h : p = (s.withEngine e x).toPart) :
    ({ s with toPart := p } : State) = s.withEngine e x := by
  rw [h]
  cases e <;> rfl

/-- A panel is ready and its sample is taken (R168). -/
theorem State.panelReady_eq (s : State) (e : EngineId) (panel : Panel) (panelTemp lineTemp : Int) :
    s.toPart.panelReady e panel panelTemp lineTemp =
      if panelTemp < (s.eng e).params.hold then
        (s.withEngine e { s.eng e with
          state := .panel, panel := some panel, line := some 0, motion := none
          temperature := panelTemp }).toPart.lineStart e lineTemp
      else (s.withEngine e { s.eng e with
        state := .heatHold, panel := some panel, line := none, motion := none
        temperature := panelTemp }).toPart.capture .heatHold := by
  simp only [Part.panelReady, Part.enterPanel, Part.modEng_same, Part.modEng_modEng]
  exact if_congr Iff.rfl (congrArg (Part.lineStart · e lineTemp) (s.modEng_part e _))
    (congrArg (Part.capture · .heatHold) (s.modEng_part e _))

/-- A fault of an engine with an empty queue, no copy being in progress (R171, R173, R178). -/
theorem Part.faultPrinting_empty {p : Part} {e : EngineId} (hq : (p.eng e).queue = [])
    (h : (p.eng e).state.printing = false ∨ (p.eng e).motion = some .abortEject) (k : FaultKind) :
    p.faultPrinting e k = p.enterFault e k := by
  have no_copy : ((p.eng e).state.printing && (p.eng e).motion != some .abortEject) = false := by
    rcases h with h | h
    · rw [h, Bool.false_and]
    · rw [h, bne_self_eq_false, Bool.and_false]
  rw [Part.faultPrinting, no_copy, Part.faultCore_empty hq]
  rfl

/-- The engine is in FAULT and had no queue to lose. -/
theorem State.engineStopped_empty {s : State} {e : EngineId} (hq : (s.eng e).queue = []) (k : FaultKind) :
    s.engineStopped e k = { s with toPart := s.toPart.enterFault e k } := by
  have still : ((s.eng e).faulted k).emptied = (s.eng e).faulted k := by
    rw [Engine.emptied, Engine.faulted, hq]
  rw [State.engineStopped_eq, Part.modEng_self]
  rw [Part.enterFault_eng_same]
  exact still

/-- A fault between the two engine records that it makes equal fails the copy (R171, R172). -/
theorem State.withEngine_copyFails {s : State} {e : EngineId} {k : FaultKind} {x y : Engine} (hx : x.faulted k = y.faulted k)
    (hp : x.state.printing = true) (hm : x.motion ≠ some .abortEject) :
    (s.withEngine e y).copyFails e k (.next { s with toPart := (s.withEngine e x).toPart.faultPrinting e k }) := by
  have fails := State.faultPrinting_copyFails (s := s.withEngine e y) (e := e) (k := k) (x := x)
    (by rw [s.withEngine_eng]; exact hx) hp hm
  rw [s.withEngine_twice] at fails
  have pending : (s.withEngine e y).pending = s.pending := by cases e <;> rfl
  rwa [pending] at fails

theorem Part.walkIf_nil {r : Part × Bool} (h : r.1.ord.release = []) : Part.walkIf r = r.1 := by
  rw [Part.walkIf, Part.walk_nil h, ite_self]

/-! ### The eject ends a copy -/

section
variable {s : State} {e : EngineId} {id : Fin 64} {it : Item} {o : Order} {waiting : List (Fin 64)} (hr : s.inReset = false)
  (hc : (s.toPart.sensors e).condition = none) (release : s.ord.release = []) (hm : (s.eng e).motion = some .eject)
  (hq : (s.eng e).queue = id :: waiting) (hit : s.ord.items[id] = some it)
include hr hc release hm hq hit

section
variable (last : it.copiesDone + 1 = it.copies) (ho : s.ord.orders[it.order] = some o) (other : s.worksBeside id o)
include last ho other

/-- The item's last copy, and the engine has nothing to go on with (R89, R170). -/
theorem State.ejectComplete_done (h : waiting = [] ∨ (s.eng e).offlinePending = true) :
    exec (.ejectComplete e) s
      = .next ((s.itemDone e id it waiting).withEngine e ({ s.eng e with queue := waiting } : Engine).ejected) := by
  let d := s.itemDone e id it waiting
  have own : d.eng e = { s.eng e with queue := waiting } := State.withEngine_eng ..
  have clear : (d.toPart.sensors e).condition = none := by cases e <;> exact hc
  have listed : d.ord.release = [] := by cases e <;> exact release
  rw [exec_ejectComplete hr hm hq, State.copyEjected_done hq hit last ho other,
    State.afterEject_rests clear (by rw [own]; exact h), Part.walk_nil (by rw [State.withEngine_ord]; exact listed), own]
  cases e <;> rfl

/-- The item's last copy, and the engine goes on with the next item (R89, R166, R170). -/
theorem State.ejectComplete_next (dark : s.svc.mode.dark = false) {j : Fin 64} {next : Item} (alone : waiting = [j])
    (stays : (s.eng e).offlinePending = false) (apart : j ≠ id) (hnext : s.ord.items[j] = some next)
    (queued : next.state = .queued) :
    exec (.ejectComplete e) s = .next (((s.itemDone e id it waiting).withEngine e
      ({ s.eng e with queue := waiting } : Engine).ejected).copyBegun e j next) := by
  let d := s.itemDone e id it waiting
  have own : d.eng e = { s.eng e with queue := waiting } := State.withEngine_eng ..
  have clear : (d.toPart.sensors e).condition = none := by cases e <;> exact hc
  have listed : d.ord.release = [] := by cases e <;> exact release
  have begun := State.afterEject_begins (s := d) (id := j) (it := next) clear (by rw [own]; exact stays)
    (by cases e <;> exact dark) (by rw [own]; exact alone) (by cases e <;> exact (orders_set_ne _ _ apart).trans hnext)
    (.inl queued)
  have part := congrArg State.toPart begun
  rw [exec_ejectComplete hr hm hq, State.copyEjected_done hq hit last ho other,
    Part.walk_nil (by rw [congrArg Part.ord part, State.copyBegun_release, State.withEngine_ord]; exact listed), ← own]
  refine congrArg _ (Eq.trans ?_ begun)
  cases e <;> rfl

end

section
variable (more : it.copiesDone + 1 ≠ it.copies)
include more

/-- A copy that is not the item's last, and the engine goes OFFLINE (R89, R170). -/
theorem State.ejectComplete_stops (h : (s.eng e).offlinePending = true) :
    exec (.ejectComplete e) s
      = .next ((s.withItem id { it with copiesDone := it.copiesDone + 1 }).withEngine e (s.eng e).ejected) := by
  let u := s.withItem id { it with copiesDone := it.copiesDone + 1 }
  have own : u.eng e = s.eng e := by cases e <;> rfl
  rw [exec_ejectComplete hr hm hq, State.copyEjected_again hit more, State.afterEject_pending (s := u)
    (by rw [own]; exact h), Part.walkIf_nil (by rw [State.withEngine_ord]; exact release), own]
  cases e <;> rfl

/-- A copy that is not the item's last, and the next one begins (R89, R166, R170). -/
theorem State.ejectComplete_again (dark : s.svc.mode.dark = false) (stays : (s.eng e).offlinePending = false)
    (printing : it.state = .printing) (alone : waiting = []) :
    exec (.ejectComplete e) s
      = .next (((s.withItem id { it with copiesDone := it.copiesDone + 1 }).withEngine e (s.eng e).ejected).copyBegun e id
        { it with copiesDone := it.copiesDone + 1 }) := by
  let u := s.withItem id { it with copiesDone := it.copiesDone + 1 }
  have own : u.eng e = s.eng e := by cases e <;> rfl
  have clear : (u.toPart.sensors e).condition = none := by cases e <;> exact hc
  have begun := State.afterEject_begins (s := u) (e := e) (id := id) clear (by rw [own]; exact stays) dark
    (by rw [own, hq, alone]) (Vector.getElem_set_self _) (.inr printing)
  have part := congrArg State.toPart begun
  rw [exec_ejectComplete hr hm hq, State.copyEjected_again hit more,
    Part.walkIf_nil (by rw [congrArg Part.ord part, State.copyBegun_release, State.withEngine_ord]; exact release), ← own]
  exact congrArg _ begun

end

end

/-- Settles O55: each report by the motion that it ends. -/
theorem mechanismReportsMoveTheCopy : Obligations.MechanismReportsMoveTheCopy := by
  unfold Obligations.MechanismReportsMoveTheCopy
  intro s e running hm release clear en rested left
  refine ⟨fun motion empty => ⟨?_, fun printing => ?_⟩, fun moves other printing => ?_, ?_⟩
  · rw [exec_abortEjectComplete running motion, State.afterEject_rests clear (.inl empty)]
    exact congrArg _ (s.withEngine_of rfl)
  · rw [exec_motionTimeout running (by rw [motion]; nofun), Part.faultPrinting_empty empty (.inr motion),
      State.engineStopped_empty empty]
  · rw [exec_motionTimeout running moves]
    have same := State.faultPrinting_copyFails (s := s) (e := e) (k := .paperJam) (x := en) rfl printing other
    have self : (s.withEngine e en).toPart = s.toPart := by cases e <;> rfl
    rwa [self] at same
  intro id waiting it queue item
  refine ⟨fun motion => ?_,
    fun panel panelTemp lineTemp motion => ⟨fun cool start => ?_, fun cool hot => ?_, fun warm => ?_⟩,
    fun o motion order other => ⟨fun last => ⟨fun rests => ?_, fun j next alone stays apart hnext queued => ?_⟩,
      fun more => ⟨fun goes => ?_, fun stays printing alone => ?_⟩⟩⟩
  · rw [exec_drawComplete running motion, State.panelStart_eq queue item]
    exact congrArg _ (s.withEngine_of rfl)
  · rw [exec_panelMotionComplete running motion, s.panelReady_eq, if_pos cool, State.lineStart_cool
      (by rw [State.withEngine_eng]; exact start)]
    refine congrArg _ (s.withEngine_of ?_)
    rw [State.withEngine_eng, State.withEngine_twice]
  · rw [exec_panelMotionComplete running motion, s.panelReady_eq, if_pos cool, State.lineStart_hot
      (by rw [State.withEngine_eng]; exact hot), State.withEngine_eng, State.withEngine_twice]
    exact State.withEngine_copyFails rfl rfl nofun
  · rw [exec_panelMotionComplete running motion, s.panelReady_eq, if_neg (Int.not_lt.mpr warm)]
    cases e <;> rfl
  · rw [State.ejectComplete_done running clear release motion queue item last order other rests]
    cases e <;> rfl
  · rw [State.ejectComplete_next running clear release motion queue item last order other hm alone stays apart hnext queued,
      State.itemDone, State.withEngine_twice]
    rfl
  · rw [State.ejectComplete_stops running clear release motion queue item more goes]
    cases e <;> rfl
  · rw [State.ejectComplete_again running clear release motion queue item more hm stays printing alone]
    cases e <;> rfl

end Sys2Proof.Machine
end

section
/-! PROOFS. What a failed copy and the walk after it keep of an engine in FAULT, whatever waits in the release list (R88,
R171 to R173): all but its queue; and that ENGINE_FAULT stays captured. -/

set_option Elab.async false

open Sys2Proof Sys2Proof.Machine

namespace Sys2Proof.Machine

/-- An engine's record but for its queue. -/
def Part.casing (p : Part) (e : EngineId) : Engine := (p.eng e).emptied

theorem foldl_reads {α β γ : Type} {f : β → α → β} {g : β → γ} (h : ∀ b a, g (f b a) = g b) (l : List α) (b : β) :
    g (l.foldl f b) = g b := by
  induction l generalizing b with
  | nil => rfl
  | cons a l ih => rw [List.foldl_cons, ih, h]

section
variable (p : Part) (e : EngineId)

theorem Part.modEng_casing (e' : EngineId) {f : Engine → Engine} (h : ∀ en, (f en).emptied = en.emptied) :
    (p.modEng e' f).casing e = p.casing e :=
  p.modEng_read e' e f Engine.emptied fun _ => h

theorem Part.checkSettling_casing (k : Fin 32) : (p.checkSettling k).casing e = p.casing e := by
  have work := p.checkSettling_work k
  cases e with
  | A => exact congrArg (fun w : Work => w.engA.emptied) work
  | B => exact congrArg (fun w : Work => w.engB.emptied) work

theorem Part.checkItemOrder_casing (id : Fin 64) : (p.checkItemOrder id).casing e = p.casing e := by
  unfold Part.checkItemOrder
  split
  · exact p.checkSettling_casing e _
  · rfl

theorem Part.modItem_casing (id : Fin 64) (f : Item → Item) : (p.modItem id f).casing e = p.casing e := by cases e <;> rfl

theorem Part.withdrawItem_casing (id : Fin 64) (reason : Option FailReason) :
    (p.withdrawItem id reason).casing e = p.casing e := by
  cases hit : p.ord.items[id] with
  | none => simp only [Part.withdrawItem, hit]
  | some it =>
    rw [Part.withdrawItem_eq hit]
    cases e <;> rfl

theorem Part.withdrawReturned_casing (id : Fin 64) : (p.withdrawReturned id).casing e = p.casing e :=
  (Part.checkItemOrder_casing _ e id).trans (p.withdrawItem_casing e id none)

/-- Items go back, and an engine keeps all but its queue (R85, R172, R173). -/
theorem Part.returnItems_casing (e' : EngineId) (ids : List (Fin 64)) : (p.returnItems e' ids).casing e = p.casing e := by
  have respool : ∀ (p : Part) (id : Fin 64), (p.respool id).casing e = p.casing e := fun _ _ => by cases e <;> rfl
  refine (foldl_reads (g := (Part.casing · e)) (fun p id => p.withdrawReturned_casing e id) _ _).trans ?_
  refine Eq.trans ?_ (p.modEng_casing e e' (f := fun en => { en with queue := en.queue.filter fun id => !ids.contains id })
    fun _ => rfl)
  refine Eq.trans ?_ (foldl_reads (g := (Part.casing · e)) respool (ids.filter fun id => !p.itemCancelled id) _)
  cases e <;> rfl

theorem Part.failItem_casing {id : Fin 64} {it : Item} (hit : p.ord.items[id] = some it) :
    (p.failItem id).casing e = p.casing e := by
  rw [Part.failItem_eq hit, Part.checkSettling_casing]
  cases e <;> rfl

end

/-! ### What happens on the other engine -/

section
variable (p : Part) {e e' : EngineId} (h : e ≠ e')
include h

theorem Part.modEng_casing_other (f : Engine → Engine) : (p.modEng e' f).casing e = p.casing e :=
  congrArg Engine.emptied (p.modEng_other h f)

theorem Part.faultCore_casing_other (k : FaultKind) : (p.faultCore e' k false).1.casing e = p.casing e := by
  refine ((p.enterFault e' k).returnItems_casing e e' _).trans ?_
  exact congrArg Engine.emptied (p.enterFault_eng_other h k)

theorem Part.loadStart_casing_other : (p.loadStart e').1.casing e = p.casing e := by
  simp only [Part.loadStart]
  split
  · exact (Part.faultCore_casing_other _ h .mediaMismatch).trans (p.modEng_casing_other h _)
  · have taken := (Part.modEng_casing_other (p.modEng e' fun en => { en with state := .loading }) h fun en =>
      { en with prints := en.prints - 1, motion := some .draw }).trans (p.modEng_casing_other h _)
    split <;> cases e <;> exact taken

theorem Part.beginCopy_casing_other : (p.beginCopy e').1.casing e = p.casing e := by
  unfold Part.beginCopy
  split
  · split
    · have empty := p.modEng_casing_other h fun en => { en with state := .needsMedia }
      cases e <;> exact empty
    · refine (Part.loadStart_casing_other _ h).trans ?_
      split <;> cases e <;> rfl
  · rfl

theorem Part.releaseTo_casing_other (id : Fin 64) (it : Item) : (p.releaseTo id it e').casing e = p.casing e := by
  refine (Part.beginCopy_casing_other _ h).trans ((Part.modEng_casing_other _ h _).trans ?_)
  dsimp only
  split <;> cases e <;> rfl

end

/-! ### The walk -/

/-- The engine chosen for an item is eligible for it (R88). -/
theorem Part.eligible_of_chooseEngine {p : Part} {it : Item} {e : EngineId} (hc : p.chooseEngine it = some e) :
    p.eligible it e = true := by
  unfold Part.chooseEngine at hc
  split at hc
  next hA hB =>
    split at hc
    · obtain rfl := Option.some.inj hc
      exact hB
    · obtain rfl := Option.some.inj hc
      exact hA
  next hA _ =>
    obtain rfl := Option.some.inj hc
    exact hA
  next _ hB =>
    obtain rfl := Option.some.inj hc
    exact hB
  next => exact absurd hc nofun

/-- An engine in FAULT is not chosen (R88). -/
theorem Part.chooseEngine_not_faulted {p : Part} {e e' : EngineId} (hf : (p.casing e).state = .fault) {it : Item}
    (hc : p.chooseEngine it = some e') : e ≠ e' := by
  rintro rfl
  have state : (p.eng e).state = .fault := hf
  have idle : (EngineState.fault == .idle || EngineState.fault.printing) = false := rfl
  have stopped : p.eligible it e = false := by simp only [Part.eligible, state, idle, Bool.and_false, Bool.false_and]
  exact absurd ((Part.eligible_of_chooseEngine hc).symm.trans stopped) nofun

theorem Part.tryEntry_casing {p : Part} {e : EngineId} (hf : (p.casing e).state = .fault) (x : ReleaseEntry) :
    (p.tryEntry x).casing e = p.casing e := by
  unfold Part.tryEntry
  split
  · split
    · split
      · split
        next hc => exact p.releaseTo_casing_other (Part.chooseEngine_not_faulted hf hc) _ _
        next => rfl
      · rfl
    · rfl
  · rfl

theorem Part.walk_casing {p : Part} {e : EngineId} (hf : (p.casing e).state = .fault) : p.walk.casing e = p.casing e := by
  have each (l : List ReleaseEntry) : ∀ p : Part, (p.casing e).state = .fault →
      (l.foldl Part.tryEntry p).casing e = p.casing e := by
    induction l with
    | nil => exact fun _ _ => rfl
    | cons x l ih =>
      intro p hf
      have one := Part.tryEntry_casing hf x
      exact (ih (p.tryEntry x) (by rw [one]; exact hf)).trans one
  unfold Part.walk
  split
  · rfl
  · exact each _ p hf

/-! ### The failed copy -/

theorem Part.failItem_keepsCaptures {p : Part} {id : Fin 64} {it : Item} (hit : p.ord.items[id] = some it) :
    p.KeepsCaptures (p.failItem id) := by
  have failed : (p.capture .itemFailed).KeepsCaptures (p.failed id it) := .of_svc rfl
  rw [Part.failItem_eq hit]
  exact (p.capture_keepsCaptures .itemFailed).trans (failed.trans (Part.checkSettling_keepsCaptures _ _))

/-- What becomes of the items of an engine that enters FAULT: it keeps its record but for the queue, and what is captured
stays captured (R171 to R173). -/
theorem Part.faultCore_keeps {p : Part} {e : EngineId} {id : Fin 64} {it : Item} (hq : (p.eng e).queue = [id])
    (hit : p.ord.items[id] = some it) (k : FaultKind) (copyFails : Bool) :
    (p.faultCore e k copyFails).1.casing e = (p.enterFault e k).casing e
      ∧ (p.enterFault e k).KeepsCaptures (p.faultCore e k copyFails).1 := by
  let u := p.enterFault e k
  have item : u.ord.items[id] = some it := by cases e <;> exact hit
  have returns (q : Part) (same : q.casing e = u.casing e) (keeps : u.KeepsCaptures q) (ids : List (Fin 64)) :
      (q.returnItems e ids).casing e = u.casing e ∧ u.KeepsCaptures (q.returnItems e ids) :=
    ⟨(q.returnItems_casing e e ids).trans same, keeps.trans (q.returnItems_keepsCaptures e ids)⟩
  cases copyFails with
  | false => exact returns u rfl (.of_svc rfl) _
  | true =>
    simp only [Part.faultCore, hq]
    split
    · exact returns _ (u.failItem_casing e item) (Part.failItem_keepsCaptures item) _
    · exact returns (u.modItem id fun it => { it with reprintUsed := true }) (u.modItem_casing e id _) (.of_svc rfl) _

/-- A fault of a printing engine: it is in FAULT with ENGINE_FAULT captured, whatever waits in the release list (R171 to
R173). -/
theorem Part.faultPrinting_faulted {p : Part} {e : EngineId} {id : Fin 64} {it : Item} (hq : (p.eng e).queue = [id])
    (hit : p.ord.items[id] = some it) (k : FaultKind) :
    (p.faultPrinting e k).casing e = ((p.eng e).faulted k).emptied
      ∧ (p.faultPrinting e k).svc.captureSet.has .engineFault = true := by
  obtain ⟨same, keeps⟩ := Part.faultCore_keeps hq hit k ((p.eng e).state.printing && (p.eng e).motion != some .abortEject)
  have record : (p.enterFault e k).casing e = ((p.eng e).faulted k).emptied :=
    congrArg Engine.emptied (p.enterFault_eng_same e k)
  have captured : (p.enterFault e k).svc.captureSet.has .engineFault = true := by
    have svc : (p.enterFault e k).svc = p.svc.capture .engineFault := by cases e <;> rfl
    rw [svc, Service.capture_has, decide_eq_true rfl, Bool.or_true]
  rw [Part.faultPrinting, Part.walkIf]
  split
  · exact ⟨(Part.walk_casing (by rw [same, record]; rfl)).trans (same.trans record),
      Part.walk_keepsCaptures _ _ (keeps _ captured)⟩
  · exact ⟨same.trans record, keeps _ captured⟩

end Sys2Proof.Machine
end

section
/-! PROOFS. Sensor changes, thermistor samples and strobe passes (R165, R168, R169, R171, R188). -/

set_option Elab.async false

open Sys2Proof Sys2Proof.Machine

namespace Sys2Proof.Machine

/-! ### Head data -/

/-- The head data of a pass, dot by dot (R188). -/
theorem Drive.headData_eq (d : Drive) :
    d.headData = (List.range d.codes.length).map fun i => if i % d.groups = d.fired then d.codes.getD i 0 else 0 := by
  refine List.ext_getElem (by simp [Drive.headData]) fun i h _ => ?_
  have hi : i < d.codes.length := by simpa [Drive.headData] using h
  simp [Drive.headData, hi]

/-! ### Sensors -/

theorem Part.setSensors_acts (p : Part) (e : EngineId) (x : Sensors) :
    (p.setSensors e x).actsOnSensors e
      = (!p.svc.mode.dark && ((p.eng e).state == .idle || (p.eng e).state.printing)) := by
  cases e <;> rfl

section
variable {p : Part} {e : EngineId} {r : SensorReport} {x : Sensors}

/-- A report that begins no condition only sets the input (R165, log entry 11). -/
theorem Part.sensorChange_sets (h : (p.sensors e).update r = (x, none)) : p.sensorChange e r = p.setSensors e x := by
  simp only [Part.sensorChange, h]
  split
  next hk => exact absurd hk nofun
  next => rfl

variable {k : FaultKind} (h : (p.sensors e).update r = (x, some k))
include h

/-- An engine that neither stands in IDLE nor prints does not act on a condition (R165). -/
theorem Part.sensorChange_ignored (hr : p.inReset = false) (hi : (p.eng e).state ≠ .idle)
    (hp : (p.eng e).state.printing = false) : p.sensorChange e r = p.setSensors e x := by
  have acts : (p.setSensors e x).actsOnSensors e = false := by
    rw [Part.setSensors_acts, beq_false_of_ne hi, hp, Bool.or_self, Bool.and_false]
  have low : (p.setSensors e x).inReset = false := by cases e <;> exact hr
  simp only [Part.sensorChange, h, low, acts, Bool.false_eq_true, if_false]

/-- An engine that stands in IDLE or prints acts on a condition (R165, R171). -/
theorem Part.sensorChange_faults (hr : p.inReset = false) (hm : p.svc.mode.dark = false)
    (hs : (p.eng e).state = .idle ∨ (p.eng e).state.printing = true) :
    p.sensorChange e r = (p.setSensors e x).faultPrinting e k := by
  have acts : (p.setSensors e x).actsOnSensors e = true := by
    rw [Part.setSensors_acts, hm, Bool.not_false, Bool.true_and, Bool.or_eq_true, beq_iff_eq]
    exact hs
  have low : (p.setSensors e x).inReset = false := by cases e <;> exact hr
  simp only [Part.sensorChange, h, low, acts, if_true]

end

/-- The sensor inputs of an engine stand as given. -/
def State.sensing (s : State) (e : EngineId) (x : Sensors) : State := { s with toPart := s.toPart.setSensors e x }

theorem exec_sensorFaultCondition {s : State} {e : EngineId} {r : SensorReport} {p : Part}
    (h : s.toPart.sensorChange e r = p) : exec (.sensorFaultCondition e r) s = .next { s with toPart := p } :=
  congrArg (fun p => Host.Outcome.next ({ s with toPart := p } : State)) h

section
variable {s : State} {e : EngineId} {r : SensorReport} {x : Sensors} {k : FaultKind} (hr : s.inReset = false)
  (hm : s.svc.mode.dark = false) (h : (s.toPart.sensors e).update r = (x, some k))
include hr hm h

/-- A condition that begins while a copy is in progress (R165, R171, R172). -/
theorem State.sensor_copyFails (printing : (s.eng e).state.printing = true) (moves : (s.eng e).motion ≠ some .abortEject) :
    (s.sensing e x).copyFails e k (exec (.sensorFaultCondition e r) s) := by
  have same : (s.sensing e x).eng e = s.eng e := by cases e <;> rfl
  have self : (s.sensing e x).withEngine e (s.eng e) = s.sensing e x := by cases e <;> rfl
  have failing := State.faultPrinting_copyFails (s := s.sensing e x) (e := e) (k := k) (x := s.eng e) (by rw [same]) printing
    moves
  rw [self] at failing
  rw [exec_sensorFaultCondition (Part.sensorChange_faults h hr hm (.inr printing))]
  exact failing

/-- A condition that begins while no copy is in progress and no item is in the queue (R165, R171, R178). -/
theorem State.sensor_stops
    (ends : (s.eng e).state = .idle ∨ ((s.eng e).state.printing = true ∧ (s.eng e).motion = some .abortEject))
    (empty : (s.eng e).queue = []) :
    exec (.sensorFaultCondition e r) s = .next { s with toPart := (s.sensing e x).toPart.enterFault e k } := by
  have queue : ((s.sensing e x).eng e).queue = [] := by cases e <;> exact empty
  have no_copy : ((s.sensing e x).eng e).state.printing = false ∨ ((s.sensing e x).eng e).motion = some .abortEject := by
    have same : (s.sensing e x).eng e = s.eng e := by cases e <;> rfl
    rw [same]
    exact ends.imp (fun idle => by rw [idle]; rfl) And.right
  exact exec_sensorFaultCondition ((Part.sensorChange_faults h hr hm (ends.imp_right And.left)).trans
    (Part.faultPrinting_empty queue no_copy k))

end

/-! ### Thermistor samples -/

/-- A sample that only replaces the temperature (R165). -/
theorem State.sample_keeps {s : State} {e : EngineId} {t : Int} (ha : (s.eng e).state ≠ .absent)
    (hp : (s.eng e).state ≠ .panel) (hh : (s.eng e).state ≠ .heatHold ∨ ((s.eng e).params.hold : Int) - 3 < t) :
    s.toPart.sample e t = (s.withEngine e { s.eng e with temperature := t }).toPart := by
  rw [← s.modEng_part e fun en => { en with temperature := t }]
  unfold Part.sample
  split
  next h => exact absurd h ha
  next h => exact absurd h hp
  case h_9 h =>
    have warm := Int.not_le.mpr (hh.resolve_left (not_not_intro h))
    simp only [Part.modEng_same, if_neg warm]
    split <;> rfl
  all_goals rfl

/-- A sample that ends a heat hold (R168). -/
theorem State.sample_cools {s : State} {e : EngineId} {t : Int} {panel : Panel} (hs : (s.eng e).state = .heatHold)
    (hp : (s.eng e).panel = some panel) (ht : t ≤ ((s.eng e).params.hold : Int) - 3) :
    s.toPart.sample e t = (s.withEngine e { s.eng e with
      state := .panel, panel := some panel, line := some 0, motion := none, temperature := t }).toPart.lineStart e t := by
  have cooled : s.toPart.sample e t
      = ((s.toPart.modEng e fun en => { en with temperature := t }).enterPanel e panel).lineStart e t := by
    simp only [Part.sample, hs, Part.modEng_same, hp, if_pos ht]
  rw [cooled, Part.enterPanel, Part.modEng_modEng, s.modEng_part]

/-! ### A line has been strobed -/

section
variable {s : State} {e : EngineId} {panel : Panel} {line : Nat} {id : Fin 64} {waiting : List (Fin 64)} {it : Item}
  (hq : (s.eng e).queue = id :: waiting) (hit : s.ord.items[id] = some it)
include hq hit

theorem State.headLength_eq : s.toPart.headLength e = it.length := by
  simp only [Part.headLength, hq, hit, Option.map_some, Option.getD_some]

/-- The next line starts (R169). -/
theorem State.lineStrobed_next (h : line + 1 < it.length) (t : Int) :
    s.toPart.lineStrobed e panel line t
      = (s.withEngine e { s.eng e with line := some (line + 1) }).toPart.lineStart e t := by
  rw [Part.lineStrobed, State.headLength_eq hq hit, if_pos h, s.modEng_part]

/-- The next panel starts (R168). -/
theorem State.lineStrobed_panel (h : it.length ≤ line + 1) {next : Panel} (hn : panel.next = some next) (t : Int) :
    s.toPart.lineStrobed e panel line t = s.toPart.panelStart e next := by
  rw [Part.lineStrobed, State.headLength_eq hq hit, if_neg (Nat.not_lt.mpr h)]
  simp only [hn]

/-- The eject starts (R170). -/
theorem State.lineStrobed_eject (h : it.length ≤ line + 1) (hn : panel.next = none) (t : Int) :
    s.toPart.lineStrobed e panel line t = (s.withEngine e { s.eng e with
      state := .ejecting, panel := none, line := none, motion := some .eject }).toPart := by
  rw [Part.lineStrobed, State.headLength_eq hq hit, if_neg (Nat.not_lt.mpr h)]
  simp only [hn]
  exact s.modEng_part e _

end

/-! ### Strobe passes -/

/-- The engine once the line in drive has been strobed (R188). -/
def Engine.strobed (en : Engine) (d : Drive) : Engine :=
  { en with hdu := { en.hdu with prev := some d.codes, drive := none } }

section
variable {s : State} {e : EngineId} {d : Drive} {panel : Panel} {line : Nat} (hd : (s.eng e).hdu.drive = some d)
  (hp : (s.eng e).panel = some panel) (hl : (s.eng e).line = some line)
include hd hp hl

/-- A pass with another one to follow (R188). -/
theorem State.passDone_next (h : d.fired + 1 < d.groups) (t : Int) :
    s.toPart.passDone e t = (s.withEngine e { s.eng e with
      hdu := { (s.eng e).hdu with drive := some { d with fired := d.fired + 1 } } }).toPart := by
  have fires : s.toPart.passDone e t = s.toPart.modEng e fun en => { en with
      hdu := { en.hdu with drive := some { d with fired := d.fired + 1 } } } := by
    simp only [Part.passDone, hd, hp, hl, if_pos h]
  exact fires.trans (s.modEng_part e _)

/-- The last pass of a line (R188). -/
theorem State.passDone_last (h : d.groups ≤ d.fired + 1) (t : Int) :
    s.toPart.passDone e t = (s.withEngine e ((s.eng e).strobed d)).toPart.lineStrobed e panel line t := by
  have ends : s.toPart.passDone e t = (s.toPart.modEng e fun en => en.strobed d).lineStrobed e panel line t := by
    simp only [Part.passDone, hd, hp, hl, if_neg (Nat.not_lt.mpr h)]
    rfl
  rw [ends, s.modEng_part]

section
variable {id : Fin 64} {waiting : List (Fin 64)} {it : Item} (hq : (s.eng e).queue = id :: waiting)
  (hit : s.ord.items[id] = some it) (h : d.groups ≤ d.fired + 1) {t : Int}
include hq hit h

/-- The last pass of a line before another line (R169, R188). -/
theorem State.passDone_line (more : line + 1 < it.length) : s.toPart.passDone e t
    = (s.withEngine e { (s.eng e).strobed d with line := some (line + 1) }).toPart.lineStart e t := by
  have own := s.withEngine_eng e ((s.eng e).strobed d)
  rw [State.passDone_last hd hp hl h, State.lineStrobed_next (by rw [own]; exact hq)
    (by rw [s.withEngine_ord]; exact hit) more, own, State.withEngine_twice]

theorem State.passDone_cool (more : line + 1 < it.length) (cool : t < (s.eng e).params.stop) : s.toPart.passDone e t
    = (s.withEngine e { (s.eng e).strobed d with
        line := some (line + 1), temperature := t, readWaiting := true }).toPart := by
  rw [State.passDone_line hd hp hl hq hit h more, State.lineStart_cool (by rw [State.withEngine_eng]; exact cool),
    State.withEngine_eng, State.withEngine_twice]

theorem State.passDone_hot (more : line + 1 < it.length) (hot : (s.eng e).params.stop ≤ t) : s.toPart.passDone e t
    = (s.withEngine e { (s.eng e).strobed d with
        line := some (line + 1), temperature := t }).toPart.faultPrinting e .headHot := by
  rw [State.passDone_line hd hp hl hq hit h more, State.lineStart_hot (by rw [State.withEngine_eng]; exact hot),
    State.withEngine_eng, State.withEngine_twice]

/-- The last pass of a panel before another panel (R168, R183, R188). -/
theorem State.passDone_panel (ends : it.length ≤ line + 1) {next : Panel} (hn : panel.next = some next) :
    s.toPart.passDone e t = (s.withEngine e { (s.eng e).strobed d with
      motion := some (.panelStart next)
      hdu := { energy := (s.eng e).hdu.energy, prev := some (List.replicate it.width 0), drive := none } }).toPart := by
  let w := s.withEngine e ((s.eng e).strobed d)
  have own : w.eng e = (s.eng e).strobed d := s.withEngine_eng e _
  have queue : (w.eng e).queue = id :: waiting := by rw [own]; exact hq
  have item : w.ord.items[id] = some it := by rw [s.withEngine_ord]; exact hit
  rw [State.passDone_last hd hp hl h, State.lineStrobed_panel queue item ends hn, State.panelStart_eq queue item, own,
    State.withEngine_twice]
  rfl

/-- The last pass of the last panel (R170, R188). -/
theorem State.passDone_eject (ends : it.length ≤ line + 1) (hn : panel.next = none) :
    s.toPart.passDone e t = (s.withEngine e { (s.eng e).strobed d with
      state := .ejecting, panel := none, line := none, motion := some .eject }).toPart := by
  have own := s.withEngine_eng e ((s.eng e).strobed d)
  rw [State.passDone_last hd hp hl h, State.lineStrobed_eject (by rw [own]; exact hq)
    (by rw [s.withEngine_ord]; exact hit) ends hn, own, State.withEngine_twice]

end

end

theorem exec_thermistorSample {s : State} {e : EngineId} {t : Int} (hr : s.inReset = false) :
    exec (.thermistorSample e t) s = .next { s with toPart := s.toPart.sample e t } :=
  exec_running hr nofun

theorem exec_strobePassDone {s : State} {e : EngineId} {t : Int} (hr : s.inReset = false) :
    exec (.strobePassDone e t) s = .next { s with toPart := s.toPart.passDone e t } :=
  exec_running hr nofun

/-- Settles O56: the head data dot by dot, the sensor reports by the engine's state, the samples, and the passes by what
follows them. -/
theorem sensorsSamplesAndPasses : Obligations.SensorsSamplesAndPasses := by
  unfold Obligations.SensorsSamplesAndPasses
  intro s e running hm en sensed changes now
  have sensing (x : Sensors) : s.sensing e x = sensed x := by cases e <;> rfl
  have sets {r : SensorReport} {x : Sensors} (h : now.update r = (x, none)) : changes r = .next (sensed x) :=
    sensing x ▸ exec_sensorFaultCondition (Part.sensorChange_sets h)
  have ignores (idle : en.state ≠ .idle) (still : en.state.printing = false) {r : SensorReport} {x : Sensors}
      {k : FaultKind} (h : now.update r = (x, some k)) : changes r = .next (sensed x) :=
    sensing x ▸ exec_sensorFaultCondition (Part.sensorChange_ignored h running idle still)
  refine ⟨congrArg (Option.map · _) (funext Drive.headData_eq), fun kind => sets rfl, sets rfl, sets rfl, sets rfl,
    fun idle still => ⟨ignores idle still rfl, ignores idle still rfl, ignores idle still rfl⟩, ?_, ?_, fun t => ?_, ?_⟩
  · intro printing moves fails
    have stops {r : SensorReport} {x : Sensors} {k : FaultKind} (h : now.update r = (x, some k)) : fails r x k := by
      show (sensed x).copyFails e k (changes r)
      exact sensing x ▸ State.sensor_copyFails running hm h printing moves
    exact ⟨stops rfl, stops rfl, stops rfl⟩
  · intro ends empty faults
    have stops {r : SensorReport} {x : Sensors} {k : FaultKind} (h : now.update r = (x, some k)) :
        ∃ t, changes r = .next t ∧ faults x k t := by
      refine ⟨_, State.sensor_stops running hm h ends empty, ?_⟩
      cases e <;> rfl
    exact ⟨stops rfl, stops rfl, stops rfl⟩
  · rw [exec_thermistorSample running]
    refine ⟨fun off => ?_, fun present busy rests => ?_, fun panel hold hpanel cool => ⟨fun start => ?_, fun hot => ?_⟩⟩
    · have same : s.toPart.sample e t = s.toPart := by
        rcases off with h | h <;> simp only [Part.sample, show (s.toPart.eng e).state = _ from h]
      rw [same]
    · rw [State.sample_keeps present busy rests]
      exact congrArg _ (s.withEngine_of rfl)
    · rw [State.sample_cools hold hpanel cool, State.lineStart_cool (by rw [State.withEngine_eng]; exact start),
        State.withEngine_eng, State.withEngine_twice]
      exact congrArg _ (s.withEngine_of rfl)
    · rw [State.sample_cools hold hpanel cool, State.lineStart_hot (by rw [State.withEngine_eng]; exact hot),
        State.withEngine_eng, State.withEngine_twice]
      exact State.withEngine_copyFails rfl rfl nofun
  intro d panel line id waiting it t drive hpanel hline queue item strobed after
  have answers {x : Engine} (h : s.toPart.passDone e t = (s.withEngine e x).toPart) : after x :=
    (exec_strobePassDone running).trans (congrArg _ (s.withEngine_of h))
  refine ⟨fun h => answers (State.passDone_next drive hpanel hline h t),
    fun h more cool => answers (State.passDone_cool drive hpanel hline queue item h more cool),
    fun h more hot printing moves => ?_, fun h more hot alone => ?_, fun h ends colour => answers ?_,
    fun h ends coat => answers (State.passDone_eject drive hpanel hline queue item h ends (by rw [coat]; rfl))⟩
  · rw [exec_strobePassDone running, State.passDone_hot drive hpanel hline queue item h more hot]
    exact State.withEngine_copyFails rfl printing moves
  · let x : Engine := { strobed with line := some (line + 1), temperature := t }
    have xqueue : ((s.withEngine e x).eng e).queue = [id] := by rw [s.withEngine_eng, ← alone]; exact queue
    have xitem : (s.withEngine e x).ord.items[id] = some it := by rw [s.withEngine_ord]; exact item
    obtain ⟨casing, captured⟩ := Part.faultPrinting_faulted xqueue xitem .headHot
    rw [s.withEngine_eng] at casing
    refine ⟨_, exec_strobePassDone running, ?_⟩
    rw [State.passDone_hot drive hpanel hline queue item h more hot]
    exact ⟨congrArg Engine.state casing, congrArg Engine.fault casing, congrArg Engine.temperature casing,
      congrArg Engine.readWaiting casing, congrArg (fun x : Engine => x.hdu.drive) casing, captured⟩
  · cases panel with
    | F => exact absurd rfl colour
    | Y | M | C => exact State.passDone_panel drive hpanel hline queue item h ends rfl

end Sys2Proof.Machine
end

section
/-! PROOFS. The access port of the spool (R142, R143, R150, R159): which requester is served, and what a completed access
does. -/

set_option Elab.async false

open Sys2Proof Sys2Proof.Machine

namespace Sys2Proof.Machine

/-! ### The grant -/

/-- The first element that passes a test, none before it passing. -/
theorem find?_of_takeWhile {α : Type} [DecidableEq α] {l : List α} {f : α → Bool} {w : α} (hw : w ∈ l) (hf : f w = true)
    (before : ∀ v ∈ l.takeWhile (· != w), f v = false) : l.find? f = some w := by
  induction l with
  | nil => exact absurd hw List.not_mem_nil
  | cons x l ih =>
    by_cases h : x = w
    · rw [h, List.find?_cons_of_pos hf]
    · rw [List.takeWhile_cons_of_pos (p := (· != w)) (bne_iff_ne.mpr h)] at before
      rw [List.find?_cons_of_neg (by rw [before x (List.mem_cons_self ..)]; nofun)]
      exact ih (List.mem_of_ne_of_mem (Ne.symm h) hw) fun v hv => before v (List.mem_cons_of_mem _ hv)

theorem Requester.mem_cycle (v w : Requester) : w ∈ v.cycle := by
  rcases v with _ | _ | _ <;> rcases w with _ | _ | _ <;> decide

/-- A requester that has nothing to ask (R159). -/
def Part.asksNothing (p : Part) (w : Requester) : Prop :=
  match w with
  | .intake => ∀ b, p.rin.conv = some b → b.writes = []
  | .engine e => (p.eng e).readWaiting = false

theorem Part.waits_false {p : Part} {w : Requester} (h : p.asksNothing w) : p.waits w = false := by
  cases w with
  | intake =>
    cases hb : p.rin.conv with
    | none => simp only [Part.waits, Part.waitingWrite, hb, Option.isSome_none]
    | some b => simp [Part.waits, Part.waitingWrite, hb, chooseWrite, h b hb]
  | engine e => simp only [Part.waits, Part.waitingRead, show (p.eng e).readWaiting = false from h, Option.isSome_none]

theorem Part.grant_eq {p : Part} {w : Requester} (hp : p.spl.port = none) (hw : p.waits w = true)
    (first : ∀ v ∈ p.spl.lastServed.cycle.takeWhile (· != w), p.asksNothing v) (pick : Nat) :
    p.grant pick = p.grantTo w pick := by
  have next : p.nextRequester = some w :=
    find?_of_takeWhile (p.spl.lastServed.mem_cycle w) hw fun v hv => Part.waits_false (first v hv)
  simp only [Part.grant, hp, next]

/-- A plane write is granted (R150, R159). -/
theorem Part.grantTo_intake {p : Part} {b : BandConv} {w : PlaneWrite} {pick : Nat} (hb : p.rin.conv = some b)
    (hw : b.writes[pick % b.writes.length]? = some w) :
    p.waits .intake = true ∧ p.grantTo .intake pick = { p with
      rin := { p.rin with conv := some { b with writes := b.writes.eraseIdx (pick % b.writes.length) } }
      spl := { p.spl with
        lastServed := .intake
        port := some { who := .intake, addr := w.addr, len := w.bytes.length, bytes := w.bytes, live := true } } } := by
  constructor
  · have some_write : 0 < b.writes.length := Nat.zero_lt_of_lt (List.getElem?_eq_some_iff.mp hw).1
    simp [Part.waits, Part.waitingWrite, hb, chooseWrite, some_write]
  · simp only [Part.grantTo, Part.waitingWrite, hb, chooseWrite, hw, Option.map_some, Part.grantPort]

/-- A line read is granted (R159, R169). -/
theorem State.grantTo_engine {s : State} {e : EngineId} {id : Fin 64} {items : List (Fin 64)} {panel : Panel} {line : Nat}
    {it : Item} (hr : (s.eng e).readWaiting = true) (hq : (s.eng e).queue = id :: items) (hp : (s.eng e).panel = some panel)
    (hl : (s.eng e).line = some line) (hit : s.ord.items[id] = some it) (pick : Nat) :
    s.toPart.waits (.engine e) = true ∧ ({ s with toPart := s.toPart.grantTo (.engine e) pick } : State)
      = { s.withEngine e { s.eng e with readWaiting := false } with
          spl := { s.spl with
            lastServed := .engine e
            port := some
              { who := .engine e, addr := s.spl.regions[it.region].dotAddr panel.code line it.width 0
                len := it.width, bytes := [], live := true } } } := by
  have waiting : s.toPart.waitingRead e = some (s.spl.regions[it.region].dotAddr panel.code line it.width 0, it.width) := by
    simp only [Part.waitingRead, hr, hq, hp, hl, hit]
  refine ⟨by rw [Part.waits, waiting]; rfl, ?_⟩
  simp only [Part.grantTo, waiting, Part.grantPort, s.modEng_part]
  cases e <;> rfl

/-! ### A write is made -/

/-- The spool once a write is made and the port is free (R159). -/
def Part.written (p : Part) (a : Access) : Part :=
  { p with spl := { p.spl with port := none, mem := memWriteRun p.spl.mem a.addr a.bytes } }

section
variable {p : Part} {a : Access}

/-- A write that nobody wants, or after which the band has more writes, completes no segment (R142, R159). -/
theorem Part.writeDone_stays
    (h : a.live = false ∨ p.rin.conv = none ∨ ∃ b, p.rin.conv = some b ∧ b.writes ≠ []) : p.writeDone a = p.written a := by
  simp only [Part.writeDone]
  split
  next b live conv =>
    have more : b.writes.isEmpty = false := by
      obtain dead | idle | ⟨b', hb, hw⟩ := h
      · exact absurd (live.symm.trans dead) nofun
      · exact absurd (conv.symm.trans idle) nofun
      · obtain rfl : b' = b := Option.some.inj (hb.symm.trans conv)
        exact List.isEmpty_eq_false_iff.mpr hw
    rw [more]
    rfl
  next => rfl

variable {b : BandConv} {x : Intake} {it : Item}

/-- The last write of a band (R142). -/
theorem Part.writeDone_last (hl : a.live = true) (hb : p.rin.conv = some b) (hw : b.writes = []) :
    p.writeDone a = (p.written a).bandWritten b := by
  simp only [Part.writeDone, hl, hb, hw, List.isEmpty_nil, if_true]
  rfl

variable (hx : p.rin.intake[b.item] = some x) (hit : p.ord.items[b.item] = some it)
include hx hit

/-- A segment that the item has already (R142). -/
theorem Part.bandWritten_again (h : (b.row, b.half) ∈ x.segments) :
    p.bandWritten b = { p with rin := { p.rin with conv := none } } := by
  simp only [Part.bandWritten, hx, hit, List.contains_iff_mem.mpr h, if_true]

/-- The item once the segment has joined it. -/
def Part.segmentJoined (p : Part) (b : BandConv) (x : Intake) (it : Item) : Part :=
  { p with
    rin := { p.rin with
      conv := none, intake := p.rin.intake.set b.item (some { x with segments := x.segments ++ [(b.row, b.half)] }) }
    ord := { p.ord with items := p.ord.items.set b.item (some { it with received := it.received + 1 }) } }

/-- A new segment (R142, R143). -/
theorem Part.bandWritten_new (h : (b.row, b.half) ∉ x.segments) :
    p.bandWritten b = if x.segments.length + 1 = 2 * it.length then
      (p.segmentJoined b x it).completeItem b.item { x with segments := x.segments ++ [(b.row, b.half)] }
    else p.segmentJoined b x it := by
  have new : x.segments.contains (b.row, b.half) = false := by
    rw [← Bool.not_eq_true, List.contains_iff_mem]
    exact h
  simp only [Part.bandWritten, hx, hit, new, Bool.false_eq_true, if_false, List.length_append, List.length_cons,
    List.length_nil, Part.setIntake, Part.modItem, Option.map_some]
  rfl

end

/-! ### The item is complete -/

/-- The part once the last segment of an item has been written, before the walk: no item waited in the release list
(R142, R143). -/
def Part.spooled (p : Part) (b : BandConv) (x : Intake) (it : Item) : Part :=
  { p with
    svc := p.svc.capture .itemSpooled
    rin := { p.rin with
      conv := none
      intake := p.rin.intake.set b.item (some { segments := x.segments ++ [(b.row, b.half)], receiving := false }) }
    ord := { p.ord with
      items := p.ord.items.set b.item (some { it with received := it.received + 1, state := .spooled })
      release := [{ item := b.item, marked := false }] } }

theorem Part.completeItem_eq {p : Part} {b : BandConv} {x : Intake} {it : Item} (hr : p.ord.release = []) :
    (p.segmentJoined b x it).completeItem b.item { x with segments := x.segments ++ [(b.row, b.half)] }
      = (p.spooled b x it).walk.dropBands b.item := by
  have own : (p.ord.items.set b.item (some { it with received := it.received + 1 }))[b.item]
    = some { it with received := it.received + 1 } := Vector.getElem_set_self _
  simp only [Part.completeItem, Part.segmentJoined, Part.setIntake, Part.capture, Part.modItem, own, hr, Vector.set_set,
    Option.map_some]
  rfl

theorem Part.dropBands_none {p : Part} {id : Fin 64} (h : ∀ band ∈ p.rin.queue, bandNames id band = false) :
    p.dropBands id = p := by
  have none_named : p.rin.queue.any (bandNames id) = false :=
    List.any_eq_false.mpr fun band hband => by rw [h band hband]; nofun
  rw [Part.dropBands, none_named]
  rfl

theorem State.copyBegun_rin (s : State) (e : EngineId) (id : Fin 64) (it : Item) :
    (s.copyBegun e id it).rin = s.rin := by
  unfold State.copyBegun
  dsimp only
  split
  · cases e <;> rfl
  · split
    · split <;> cases e <;> rfl
    · cases e <;> rfl

theorem State.released_rin (s : State) (e : EngineId) (id : Fin 64) (it : Item) (o : Order) :
    (s.released e id it o).rin = s.rin := by
  unfold State.released
  dsimp only
  split
  · rw [State.copyBegun_rin]
    cases e <;> rfl
  · cases e <;> rfl

/-- Which engine takes an item is a matter of the engines and of the item's masks and media (R88). -/
theorem State.takes.congr {s t : State} {v w : Item} {e : EngineId} (ht : s.takes e w) (engA : t.engA = s.engA)
    (engB : t.engB = s.engB) (hr : v.routing = w.routing) : t.takes e v := by
  have may (e : EngineId) : t.mayTake e v ↔ s.mayTake e w :=
    State.mayTake_congr (by cases e; exacts [engA, engB]) hr
  obtain ⟨able, shorter⟩ := ht
  refine ⟨(may e).mpr able, ?_⟩
  cases e with
  | A => exact fun other => engA ▸ engB ▸ shorter ((may .B).mp other)
  | B => exact fun other => engA ▸ engB ▸ shorter ((may .A).mp other)

section
variable {s : State} {x : ReleaseEntry} {it : Item} {o : Order} (hr : s.ord.release = [x])
  (hit : s.ord.items[x.item] = some it) (ho : s.ord.orders[it.order] = some o)
include hr hit ho

/-- A walk leaves the one entry of the release list where it is (R86, R87). -/
theorem State.walk_one_stays (h : s.svc.mode.dark = true ∨ ¬ o.letsItemGo it ∨ ∀ e, ¬ s.mayTake e it) :
    s.toPart.walk = s.toPart := by
  cases dark : s.svc.mode.dark with
  | true => exact if_pos dark
  | false =>
    rw [Part.walk_one dark hr]
    exact State.tryEntry_stays hit ho (h.resolve_left (by rw [dark]; nofun))

/-- A walk releases the one entry of the release list (R87, R96). -/
theorem State.walk_one_goes (hm : s.svc.mode.dark = false) (goes : o.letsItemGo it) {e : EngineId} (ht : s.takes e it)
    (rests : (s.eng e).state = .idle → (s.eng e).queue = []) :
    ({ s with toPart := s.toPart.walk } : State) = s.released e x.item it o := by
  rw [Part.walk_one hm hr, State.tryEntry_goes hit ho goes ht]
  exact State.releaseTo_eq hm hr hit ho rests

end

/-! ### A read is made -/

/-- A row that nobody wants, or whose engine has left the line (R159). -/
theorem Part.readDone_unwanted {p : Part} {a : Access} {e : EngineId} (h : a.live = false ∨ (p.eng e).panel = none) :
    p.readDone a e = { p with spl := { p.spl with port := none } } := by
  have left (hp : (p.eng e).panel = none) (row : List Byte) :
      Part.lineReceived { p with spl := { p.spl with port := none } } e row = { p with spl := { p.spl with port := none } } := by
    have same : (Part.eng { p with spl := { p.spl with port := none } } e).panel = none := by cases e <;> exact hp
    simp only [Part.lineReceived, same]
  rcases h with dead | gone
  · rw [Part.readDone, dead]
    rfl
  · simp only [Part.readDone, left gone, ite_self]

/-- The head drive unit receives a line (R183 to R188). -/
theorem State.lineReceived_eq {s : State} {e : EngineId} {panel : Panel} (hp : (s.eng e).panel = some panel)
    (row : List Byte) :
    let en := s.eng e
    let codes := lineCodes en.hdu.energy en.params panel en.temperature (en.hdu.prev.getD []) row
    let drive : Drive :=
      { codes := finalCodes codes en.params.budget, groups := groupCount codes en.params.budget, fired := 0 }
    let t := s.withEngine e { en with hdu := { en.hdu with drive := some drive } }
    ({ s with toPart := s.toPart.lineReceived e row } : State)
      = if lineClipped codes en.params.budget then t.captured .budgetClip else t := by
  simp only [Part.lineReceived, hp, s.modEng_part]
  split <;> cases e <;> rfl

theorem exec_spoolGrant {s : State} {pick : Nat} (hr : s.inReset = false) :
    exec (.spoolGrant pick) s = .next { s with toPart := s.toPart.grant pick } :=
  exec_running hr nofun

/-- Settles O53: the grant by the first requester that waits, the writes by what is left of the band and of the item, and the
reads by whether the engine still wants the row. -/
theorem thePortServesOneAccess : Obligations.ThePortServesOneAccess := by
  unfold Obligations.ThePortServesOneAccess
  intro s pick running cycle rests first
  have firsts {w : Requester} (h : first w) : ∀ v ∈ s.spl.lastServed.cycle.takeWhile (· != w), s.toPart.asksNothing v := by
    have same : cycle = s.spl.lastServed.cycle := by
      simp only [cycle]
      rcases s.spl.lastServed with _ | _ | _ <;> rfl
    intro v hv
    have asks := h v (by rw [same]; exact hv)
    cases v <;> exact asks
  refine ⟨fun free => ⟨fun b w hb hw hfirst => ?_,
    fun e id items panel line it waiting queue hpanel hline item hfirst => ?_⟩, ?_⟩
  · obtain ⟨waits, granted⟩ := Part.grantTo_intake hb hw
    rw [exec_spoolGrant running, Part.grant_eq free waits (firsts hfirst), granted]
  · obtain ⟨waits, granted⟩ := State.grantTo_engine waiting queue hpanel hline item pick
    rw [exec_spoolGrant running, Part.grant_eq free waits (firsts hfirst), granted]
    rfl
  intro a port inside freed
  have done : exec .spoolAccessDone s = .next { s with toPart := s.toPart.accessDone a } :=
    exec_accessDone running port (decide_eq_true inside)
  have writes (h : a.who = .intake) : s.toPart.accessDone a = s.toPart.writeDone a := by rw [Part.accessDone, h]
  have reads {e : EngineId} (h : a.who = .engine e) : s.toPart.accessDone a = s.toPart.readDone a e := by
    rw [Part.accessDone, h]
  let mem := memWriteRun s.spl.mem a.addr a.bytes
  have bytes (ok : s.memoryOk = true) (y : Nat) : memRead mem y
      = if a.addr ≤ y ∧ y < a.addr + a.bytes.length then a.bytes.getD (y - a.addr) 0 else memRead s.spl.mem y :=
    memRead_memWriteRun (le_trans (Nat.add_le_add_left (le_max_right ..) _) inside) ok
  refine ⟨fun who ok stays => ?_, fun b x it who ok live conv none_left hx item more => ?_,
    fun b x it o who ok live conv none_left hx item full new order release unnamed => ?_, fun e who => ⟨fun gone => ?_,
      fun panel live hpanel => ?_⟩⟩
  · rw [done, writes who, Part.writeDone_stays stays]
    exact ⟨_, rfl, rfl, bytes ok⟩
  · have ends := (writes who).trans (Part.writeDone_last live conv none_left)
    by_cases again : (b.row, b.half) ∈ x.segments
    · rw [done, ends, Part.bandWritten_again (p := s.toPart.written a) hx item again]
      exact ⟨_, rfl, (if_pos again).symm, bytes ok⟩
    · rw [done, ends, Part.bandWritten_new (p := s.toPart.written a) hx item again, if_neg (Nat.ne_of_lt more)]
      exact ⟨_, rfl, (if_neg again).symm, bytes ok⟩
  · intro it' joined
    let j := joined mem
    have ends : s.toPart.accessDone a = j.toPart.walk.dropBands b.item := by
      rw [writes who, Part.writeDone_last live conv none_left, Part.bandWritten_new (p := s.toPart.written a) hx item new,
        if_pos full, Part.completeItem_eq (p := s.toPart.written a) release]
      rfl
    have own : j.ord.items[b.item] = some it' := Vector.getElem_set_self _
    have may (e : EngineId) : j.mayTake e it' ↔ s.mayTake e it := State.mayTake_congr (by cases e <;> rfl) rfl
    refine ⟨mem, bytes ok, fun stays => ?_, fun e light goes takes idle => ?_⟩
    · have still : j.toPart.walk = j.toPart :=
        State.walk_one_stays rfl own order (stays.imp_right (Or.imp_right fun no e => mt (may e).mp (no e)))
      rw [done, ends, still, Part.dropBands_none (p := j.toPart) unnamed]
      rfl
    · have takes' : j.takes e it' := takes.congr rfl rfl rfl
      have released : ({ j with toPart := j.toPart.walk } : State) = j.released e b.item it' o :=
        State.walk_one_goes (x := { item := b.item, marked := false }) rfl own order light goes takes'
          (by cases e <;> exact idle)
      have rin : j.toPart.walk.rin = j.rin := (congrArg (fun t : State => t.rin) released).trans (j.released_rin ..)
      rw [done, ends, Part.dropBands_none (by rw [rin]; exact unnamed)]
      exact congrArg _ released
  · rw [done, reads who, Part.readDone_unwanted gone]
  · have received := State.lineReceived_eq (s := freed s) (e := e) (by cases e <;> exact hpanel)
      (memReadRun s.spl.mem a.addr a.len)
    rw [done, reads who, Part.readDone, live]
    refine congrArg _ (received.trans ?_)
    cases e <;> rfl

end Sys2Proof.Machine
end

section
/-! PROOFS. What leaves the order table and the tally as they are: the order link, the transfer path, the card slots and the
ports of the spool (R10, R11, R35 to R67, R159). -/

set_option Elab.async false

open Sys2Proof Sys2Proof.Machine

namespace Sys2Proof.Machine

/-- The order table and the tally with its channels: the blocks that hold money. -/
def Part.ledger (p : Part) : OrderTable × Payment := (p.ord, p.pay)

theorem Part.ord_of_ledger {p q : Part} (h : q.ledger = p.ledger) : q.ord = p.ord := congrArg Prod.fst h

/-! ### The transfer path -/

theorem Part.kick_ledger (p : Part) : p.kick.ledger = p.ledger := by
  unfold Part.kick
  split
  · rfl
  · split
    · rfl
    · split <;> rfl

theorem Part.pushReply_ledger (p : Part) (r : Reply) : (p.pushReply r).ledger = p.ledger := Part.kick_ledger _

theorem Part.feed_ledger (p : Part) : p.feed.ledger = p.ledger := by
  rw [Part.feed, Part.refill_eq]
  show p.refill.kick.ledger = p.ledger
  rw [Part.kick_ledger, Part.refill_eq]
  rfl

theorem Part.endTurn_beginTurn_ledger (p : Part) (i : Fin 4) : (p.endTurn i).beginTurn.ledger = p.ledger := by
  rw [Part.endTurn_beginTurn]
  rfl

theorem Part.endRead_ledger (p : Part) (i : Fin 4) (o : ReadOutcome) (r : ReadReq) :
    (p.endRead i o r).ledger = p.ledger := by
  rw [Part.endRead_eq]
  rfl

/-- A request ends, its slot's turn ends, and the frames move (R60, R63). -/
theorem Part.endServed_ledger (p : Part) (i : Fin 4) (o : ReadOutcome) (r : ReadReq) :
    (((p.endRead i o r).endTurn i).beginTurn).feed.ledger = p.ledger := by
  rw [Part.feed_ledger, Part.endTurn_beginTurn_ledger, Part.endRead_ledger]

theorem Part.endAllReads_ledger (p : Part) (i : Fin 4) (o : ReadOutcome) : (p.endAllReads i o).ledger = p.ledger := by
  rw [Part.endAllReads, Part.feed_ledger, Part.endTurn_beginTurn_ledger]
  exact foldl_reads (fun p r => Part.endRead_ledger p i o r) _ p

theorem Part.cancelReads_ledger (p : Part) (i : Fin 4) : (p.cancelReads i).ledger = p.ledger := by
  unfold Part.cancelReads
  split
  · exact (Part.feed_ledger _).trans (foldl_reads (fun p r => Part.endRead_ledger p i .cancelled r) _ _)
  · exact p.endAllReads_ledger i .cancelled

theorem Part.releaseSlot_ledger (p : Part) (i : Fin 4) : (p.releaseSlot i).ledger = p.ledger := by
  simp only [Part.releaseSlot]
  split
  · exact Part.cancelReads_ledger _ i
  · rfl

theorem Part.slotFault_ledger (p : Part) (i : Fin 4) : (p.slotFault i).ledger = p.ledger :=
  Part.endAllReads_ledger _ i .readError

theorem Part.removeCard_ledger (p : Part) (i : Fin 4) : (p.removeCard i).ledger = p.ledger :=
  Part.endAllReads_ledger _ i .cardGone

/-! ### The identify -/

theorem Part.identifySuccess_other_ledger {p : Part} (c : Identity) (s : Slot) {fresh : SlotState → Nat → Part}
    (h : ∀ st a, (fresh st a).ledger = p.ledger) : (Part.identifySuccess.other p c s fresh).ledger = p.ledger := by
  unfold Part.identifySuccess.other
  split
  · exact h _ _
  · split
    · exact h _ _
    · exact h .foreign 0

theorem Part.identifySuccess_ledger (p : Part) (i : Fin 4) (c : Identity) : (p.identifySuccess i c).ledger = p.ledger := by
  simp only [Part.identifySuccess]
  split
  · split
    · rfl
    · exact Part.identifySuccess_other_ledger c _ fun _ _ => rfl
  · split
    · split <;> rfl
    · exact Part.identifySuccess_other_ledger c _ fun _ _ => rfl
  · exact Part.identifySuccess_other_ledger c _ fun _ _ => rfl

theorem Part.identifyStep_ledger (p : Part) (i : Fin 4) (cmd : CardCmd) (data : List Byte) :
    (p.identifyStep i cmd data).ledger = p.ledger := by
  unfold Part.identifyStep
  split
  · split <;> rfl
  · split <;> rfl
  · split
    · split
      · exact p.identifySuccess_ledger i _
      · rfl
    · rfl
  · rfl
  · rfl

theorem Part.identifyResponse_ledger (p : Part) (i : Fin 4) (status : Byte) (data : List Byte) (check : Byte) :
    (p.identifyResponse i status data check).ledger = p.ledger := by
  unfold Part.identifyResponse
  split
  case h_6 =>
    split
    · exact p.identifyStep_ledger i _ data
    · rfl
    · rfl
  all_goals rfl

/-! ### Events of the card slots -/

theorem Part.settled_ledger (p : Part) (i : Fin 4) : (p.settled i).ledger = p.ledger := by
  unfold Part.settled
  split
  · split <;> rfl
  · rfl

theorem Part.identifyExpired_ledger (p : Part) (i : Fin 4) : (p.identifyExpired i).ledger = p.ledger := by
  unfold Part.identifyExpired
  split <;> rfl

theorem Part.responseTimeout_ledger (p : Part) (i : Fin 4) : (p.responseTimeout i).ledger = p.ledger := by
  unfold Part.responseTimeout
  split
  case h_5 => exact p.slotFault_ledger i
  all_goals rfl

theorem Part.busyRetry_ledger (p : Part) (i : Fin 4) : (p.busyRetry i).ledger = p.ledger := by
  unfold Part.busyRetry
  split <;> rfl

theorem Part.readBlockResponse_ledger (p : Part) (i : Fin 4) (status check : Byte) :
    (p.readBlockResponse i status check).ledger = p.ledger := by
  unfold Part.readBlockResponse
  split
  · split <;> rfl
  · rfl

theorem Part.afterSector_ledger (p : Part) (i : Fin 4) (r : ReadReq) (n : Nat) :
    (p.afterSector i r n).ledger = p.ledger := by
  unfold Part.afterSector
  split
  · exact (Part.endTurn_beginTurn_ledger _ i).trans (p.endRead_ledger i .cancelled r)
  · split
    · exact (Part.endTurn_beginTurn_ledger _ i).trans (p.endRead_ledger i .ok r)
    · split
      · exact p.endTurn_beginTurn_ledger i
      · rfl

theorem Part.produceSector_ledger (p : Part) (i : Fin 4) (data : List Byte) :
    (p.produceSector i data).ledger = p.ledger := by
  unfold Part.produceSector
  split
  · split
    · exact (Part.feed_ledger _).trans (Part.afterSector_ledger _ i _ _)
    · rfl
  · rfl

theorem Part.dataComplete_ledger (p : Part) (i : Fin 4) (data check : List Byte) :
    (p.dataComplete i data check).ledger = p.ledger := by
  unfold Part.dataComplete
  split
  · split
    · split
      · rfl
      · exact p.produceSector_ledger i data
    · rfl
  · rfl

theorem Part.dataTimeout_ledger (p : Part) (i : Fin 4) : (p.dataTimeout i).ledger = p.ledger := by
  unfold Part.dataTimeout
  split <;> rfl

theorem Part.readBusyExpired_ledger (p : Part) (i : Fin 4) : (p.readBusyExpired i).ledger = p.ledger := by
  unfold Part.readBusyExpired
  split <;> rfl

theorem Part.stopAnswered_ledger (p : Part) (i : Fin 4) : (p.stopAnswered i).ledger = p.ledger := by
  unfold Part.stopAnswered
  split
  · rfl
  · split
    · split
      · exact Part.endServed_ledger _ i _ _
      · rfl
    · rfl

theorem Part.stopResponse_ledger (p : Part) (i : Fin 4) (status check : Byte) :
    (p.stopResponse i status check).ledger = p.ledger := by
  unfold Part.stopResponse
  split
  · split
    · exact p.stopAnswered_ledger i
    · rfl
    · exact p.slotFault_ledger i
  · rfl

theorem Part.stopBusyExpired_ledger (p : Part) (i : Fin 4) : (p.stopBusyExpired i).ledger = p.ledger := by
  unfold Part.stopBusyExpired
  split
  · exact p.slotFault_ledger i
  · rfl

theorem Part.beginSector_ledger (p : Part) : p.beginSector.ledger = p.ledger := by
  unfold Part.beginSector
  split
  · rfl
  · split
    · rfl
    · split <;> rfl

/-! ### Requests of the card slots -/

theorem Part.sectorRead_ledger (p : Part) (tag : Nat) (args : List Byte) :
    (p.sectorRead tag args).part.ledger = p.ledger := by
  have accept (i : Fin 4) (first count : Nat) : (p.acceptRead i tag first count).part.ledger = p.ledger := by
    simp only [Part.acceptRead, Served.done_part]
    rw [Part.beginTurn_eq]
    rfl
  simp only [Part.sectorRead]
  split
  · rfl
  · repeat (split; · rfl)
    exact accept _ _ _

theorem Part.readCancel_ledger (p : Part) (args : List Byte) : (p.readCancel args).part.ledger = p.ledger := by
  have cancel (i : Fin 4) (r : ReadReq) : (p.cancelRead i r).ledger = p.ledger := by
    unfold Part.cancelRead
    split
    · split
      · rfl
      · exact p.endServed_ledger i .cancelled r
    · exact (Part.feed_ledger _).trans (p.endRead_ledger i .cancelled r)
  simp only [Part.readCancel]
  split
  · rfl
  · split
    · rfl
    · exact cancel _ _

/-! ### The link and the control handler -/

theorem Part.headerTaken_ledger (p : Part) (b : Byte) : (p.headerTaken b).ledger = p.ledger := by
  simp only [Part.headerTaken]
  split
  · split
    · rfl
    · split <;> rfl
  · rfl

theorem Part.linkGapExpires_ledger (p : Part) : p.linkGapExpires.ledger = p.ledger := by
  unfold Part.linkGapExpires
  split <;> rfl

theorem Part.offerCtrl_ledger (p : Part) (tag : Nat) (payload : List Byte) :
    (p.offerCtrl tag payload).ledger = p.ledger := by
  unfold Part.offerCtrl
  split
  · rfl
  · split
    · exact p.pushReply_ledger _
    · rfl

theorem Part.offerBand_ledger (p : Part) (payload : List Byte) : (p.offerBand payload).ledger = p.ledger := by
  unfold Part.offerBand
  split <;> rfl

theorem Part.handOver_ledger (p : Part) : p.handOver.ledger = p.ledger := by
  have apply (h : Handover) : (p.applyHandover h).ledger = p.ledger := by cases h <;> rfl
  unfold Part.handOver
  split
  · split
    · exact (Part.pushReply_ledger _ _).trans (apply _)
    · rfl
  all_goals rfl

theorem Part.transmitDone_ledger (p : Part) : p.transmitDone.ledger = p.ledger := by
  unfold Part.transmitDone
  split
  · rfl
  · exact Part.feed_ledger _

theorem Part.takeRequest_ledger (p : Part) (rest : List CtrlEntry) : (p.takeRequest rest).ledger = p.ledger := by
  unfold Part.takeRequest
  split <;> rfl

theorem Part.refuseUnknown_ledger (p : Part) : p.refuseUnknown.ledger = p.ledger := by
  unfold Part.refuseUnknown
  split
  · split
    · exact p.takeRequest_ledger _
    · rfl
  · rfl

/-! ### Requests that read the blocks or set flags of the service controller -/

theorem Part.tableRead_ledger (p : Part) (args : List Byte) : (p.tableRead args).part.ledger = p.ledger := by
  simp only [Part.tableRead]
  split
  · rfl
  · split <;> rfl

theorem Part.statusRead_ledger (p : Part) (args : List Byte) : (p.statusRead args).part.ledger = p.ledger := by
  simp only [Part.statusRead]
  split <;> rfl

theorem Part.setMask_ledger (p : Part) (args : List Byte) : (p.setMask args).part.ledger = p.ledger := by
  simp only [Part.setMask]
  split <;> rfl

theorem Part.checkLive_ledger (p : Part) (args : List Byte) : (p.checkLive args).part.ledger = p.ledger := by
  simp only [Part.checkLive]
  split <;> rfl

theorem Part.askPark_ledger (p : Part) : p.askPark.part.ledger = p.ledger := by
  simp only [Part.askPark]
  split
  · rfl
  · split <;> rfl

theorem Part.wakeSet_ledger (p : Part) (args : List Byte) : (p.wakeSet args).part.ledger = p.ledger := by
  simp only [Part.wakeSet]
  split <;> rfl

theorem Part.orderRead_ledger (p : Part) (args : List Byte) : (p.orderRead args).part.ledger = p.ledger := by
  simp only [Part.orderRead]
  split <;> rfl

/-! ### Debounces, engines and the spool -/

theorem Part.failDebounce_ledger (p : Part) (w : WakeSource) : (p.failDebounce w).ledger = p.ledger := by
  unfold Part.failDebounce
  split
  · split <;> rfl
  · rfl

theorem Part.keyFalls_ledger (p : Part) : p.keyFalls.ledger = p.ledger := by
  unfold Part.keyFalls
  split
  · dsimp only
    split
    · rfl
    · exact Part.failDebounce_ledger (p.setKey false) .key
  · rfl

theorem Part.detectFalls_ledger (p : Part) (i : Fin 4) : (p.detectFalls i).ledger = p.ledger := by
  unfold Part.detectFalls
  split
  · dsimp only
    split
    · rfl
    · rw [Part.failDebounce_ledger]
      split
      · exact Part.removeCard_ledger _ i
      · rfl
  · rfl

theorem Part.modEng_ledger (p : Part) (e : EngineId) (f : Engine → Engine) : (p.modEng e f).ledger = p.ledger := by
  cases e <;> rfl

theorem Part.grant_ledger (p : Part) (pick : Nat) : (p.grant pick).ledger = p.ledger := by
  have granted (w : Requester) : (p.grantTo w pick).ledger = p.ledger := by
    unfold Part.grantTo
    split
    · split <;> rfl
    · split
      · exact Part.modEng_ledger _ _ _
      · rfl
  unfold Part.grant
  split
  · exact granted _
  · rfl

theorem Part.regionOpen_ledger (p : Part) (args : List Byte) : (p.regionOpen args).part.ledger = p.ledger := by
  simp only [Part.regionOpen]
  split
  · rfl
  · repeat (split; · rfl)
    rfl

theorem Part.regionClose_ledger (p : Part) (args : List Byte) : (p.regionClose args).part.ledger = p.ledger := by
  simp only [Part.regionClose]
  split
  · rfl
  · split
    · rfl
    · split <;> rfl

end Sys2Proof.Machine
end

section
/-! PROOFS. The money of the orders under the shared operations (R92, R93): settlement, withdrawal, faults, and the release
walk, whose funding test is what keeps a debit within the funds (R94 to R96). -/

set_option Elab.async false

open Sys2Proof Sys2Proof.Machine

namespace Sys2Proof.Machine

/-! ### Orders that keep to their funds -/

/-- Where every live order record of `p` keeps to its funds, so does every one of `q`. -/
def Part.KeepsMoney (p q : Part) : Prop :=
  (∀ k : Fin 32, ∀ o, p.ord.orders[k] = some o → o.moneyOk) → ∀ k : Fin 32, ∀ o, q.ord.orders[k] = some o → o.moneyOk

theorem Part.KeepsMoney.of_orders {p q : Part} (h : q.ord.orders = p.ord.orders) : p.KeepsMoney q := by
  intro held
  rwa [h]

theorem Part.KeepsMoney.of_ord {p q : Part} (h : q.ord = p.ord) : p.KeepsMoney q := .of_orders (congrArg _ h)

theorem Part.KeepsMoney.of_ledger {p q : Part} (h : q.ledger = p.ledger) : p.KeepsMoney q := .of_ord (Part.ord_of_ledger h)

theorem Part.KeepsMoney.refl (p : Part) : p.KeepsMoney p := .of_ord rfl

theorem Part.KeepsMoney.trans {p q r : Part} (h : p.KeepsMoney q) (h' : q.KeepsMoney r) : p.KeepsMoney r :=
  fun held => h' (h held)

/-- One record is written: it is enough that what is written there keeps to its funds. -/
theorem Part.KeepsMoney.of_set {p q : Part} {k : Fin 32} {x : Option Order} (hq : q.ord.orders = p.ord.orders.set k x)
    (h : (∀ o, p.ord.orders[k] = some o → o.moneyOk) → ∀ o, x = some o → o.moneyOk) : p.KeepsMoney q := by
  intro held j o ho
  rw [hq] at ho
  by_cases hj : j = k
  · subst hj
    rw [show (p.ord.orders.set j x)[j] = x from Vector.getElem_set_self _] at ho
    exact h (held j) o ho
  · rw [orders_set_ne _ _ hj] at ho
    exact held j o ho

/-- The same of a record that is changed where it is live. -/
theorem Part.KeepsMoney.of_map {p q : Part} {k : Fin 32} {f : Order → Order}
    (hq : q.ord.orders = p.ord.orders.set k ((p.ord.orders[k]).map f))
    (h : ∀ o, p.ord.orders[k] = some o → o.moneyOk → (f o).moneyOk) : p.KeepsMoney q := by
  refine .of_set hq fun held o ho => ?_
  obtain ⟨o', ho', rfl⟩ := Option.map_eq_some_iff.mp ho
  exact h o' ho' (held o' ho')

/-- A change of other records before it. -/
theorem Part.KeepsMoney.after {p p' q : Part} (h : p'.KeepsMoney q) (same : p'.ord.orders = p.ord.orders) :
    p.KeepsMoney q := .trans (.of_orders same) h

/-- A capture after it. -/
theorem Part.KeepsMoney.captured {p q : Part} (h : p.KeepsMoney q) (k : CaptureKind) : p.KeepsMoney (q.capture k) := h

/-- A change of an engine after it. -/
theorem Part.KeepsMoney.modEng {p q : Part} (h : p.KeepsMoney q) (e : EngineId) (f : Engine → Engine) :
    p.KeepsMoney (q.modEng e f) := h.trans (.of_ord (q.modEng_ord e f))

theorem Part.modOrder_keepsMoney {p : Part} {k : Fin 32} {f : Order → Order}
    (h : ∀ o, p.ord.orders[k] = some o → o.moneyOk → (f o).moneyOk) : p.KeepsMoney (p.modOrder k f) := .of_map rfl h

theorem foldl_keepsMoney {α : Type} {f : Part → α → Part} (h : ∀ (p : Part) x, p.KeepsMoney (f p x)) (l : List α)
    (p : Part) : p.KeepsMoney (l.foldl f p) := by
  induction l generalizing p with
  | nil => exact .refl p
  | cons x l ih => exact (h p x).trans (ih _)

/-- A cashless state that only an approval leads to puts no bound on the authorized amount (R131). -/
theorem Order.moneyOk.approved {o : Order} (h : o.moneyOk) {c : Cashless}
    (hc : c.state ≠ .none ∧ c.state ≠ .pending ∧ c.state ≠ .declined ∧ c.state ≠ .timedOut) :
    Order.moneyOk { o with cashless := c } := by
  obtain ⟨funds, -⟩ := h
  obtain ⟨none, pending, declined, timedOut⟩ := hc
  refine ⟨funds, fun early => ?_⟩
  rcases early with h | h | h | h
  · exact absurd h none
  · exact absurd h pending
  · exact absurd h declined
  · exact absurd h timedOut

/-- More cash is more funds (R93). -/
theorem Order.moneyOk.credited {o : Order} (h : o.moneyOk) (amount : Nat) :
    Order.moneyOk { o with cashIn := o.cashIn + amount } := by
  obtain ⟨funds, unapproved⟩ := h
  exact ⟨by dsimp only; omega, unapproved⟩

/-- A reversal gives back (R97). -/
theorem Order.moneyOk.reversed {o : Order} (h : o.moneyOk) (back : Nat) :
    Order.moneyOk { o with consumed := o.consumed - back } := by
  obtain ⟨funds, unapproved⟩ := h
  exact ⟨by dsimp only; omega, unapproved⟩

/-- The funding test lets an item go only while its price is available (R94, R95). -/
theorem Order.price_le_of_fundsItem {o : Order} {price : Nat} (h : o.fundsItem price = true) :
    o.consumed + price ≤ o.cashIn + o.cardAuth := by
  have available : (price : Int) ≤ o.available := by
    unfold Order.fundsItem at h
    split at h
    · simp only [Bool.and_eq_true, decide_eq_true_eq] at h
      obtain ⟨⟨-, enough⟩, -⟩ := h
      exact enough
    · simp only [Bool.and_eq_true, decide_eq_true_eq] at h
      obtain ⟨⟨-, enough⟩, -⟩ := h
      exact enough
  unfold Order.available at available
  omega

/-- A debit that the funding test allows (R96). -/
theorem Order.moneyOk.debited {o : Order} (h : o.moneyOk) {price : Nat} (funds : o.fundsItem price = true) :
    Order.moneyOk { o with consumed := o.consumed + price } := by
  obtain ⟨-, unapproved⟩ := h
  exact ⟨Order.price_le_of_fundsItem funds, unapproved⟩

/-! ### The cashless operation queue -/

/-- A settlement operation is handed over: CAPTURING and RELEASING come after an approval (R101). -/
theorem Part.markHanded_keepsMoney (p : Part) (op : CashlessOp) : p.KeepsMoney (p.markHanded op) := by
  unfold Part.markHanded
  split
  · refine Part.modOrder_keepsMoney fun o _ ok => ok.approved ?_
    dsimp only
    split <;> decide
  · exact .refl p

theorem Part.pump_keepsMoney (p : Part) : p.KeepsMoney p.pump := by
  unfold Part.pump
  split
  · dsimp only
    split
    · exact (Part.markHanded_keepsMoney _ _).after rfl
    · exact .of_ord rfl
    · exact .of_ord rfl
  · exact .refl p

theorem Part.joinOp_keepsMoney (p : Part) (op : CashlessOp) : p.KeepsMoney (p.joinOp op) :=
  (Part.pump_keepsMoney _).after rfl

theorem Part.endOp_keepsMoney (p : Part) : p.KeepsMoney p.endOp := (Part.pump_keepsMoney _).after rfl

theorem Part.handOp_keepsMoney (p : Part) (op : CashlessOp) : p.KeepsMoney (p.handOp op) := by
  unfold Part.handOp
  split
  · exact (p.markHanded_keepsMoney op).trans (Part.joinOp_keepsMoney _ op)
  · exact .of_orders rfl

/-! ### Settlement -/

theorem Part.loseFocus_ord (p : Part) (n : Nat) : (p.loseFocus n).ord = p.ord := by rw [Part.loseFocus_eq]

theorem Part.dropBinding_keepsMoney (p : Part) (k : Fin 32) : p.KeepsMoney (p.dropBinding k) := by
  unfold Part.dropBinding
  split
  · split
    · refine .trans (Part.modOrder_keepsMoney (k := k) ?_) (.of_ledger (Part.releaseSlot_ledger _ _))
      exact fun _ _ ok => ok
    · exact .refl p
  · exact .refl p

theorem Part.closeOrder_keepsMoney (p : Part) (k : Fin 32) (captured : Option Nat) :
    p.KeepsMoney (p.closeOrder k captured) := by
  by_cases settling : ∃ o, p.ord.orders[k] = some o ∧ o.state = .settling
  · obtain ⟨o, ho, hs⟩ := settling
    rw [Part.closeOrder_settling ho hs]
    refine .trans ?_ (Part.dropBinding_keepsMoney _ k)
    refine .captured (.trans ?_ (.of_ord (Part.loseFocus_ord _ _))) .orderClosed
    exact .of_set rfl fun held x hx => Option.some.inj hx ▸ held o ho
  · have stays : p.closeOrder k captured = p := by
      unfold Part.closeOrder
      split
      next o ho => exact if_neg fun hs => settling ⟨o, ho, beq_iff_eq.mp hs⟩
      next => rfl
    rw [stays]
    exact .refl p

theorem Part.enterSettling_keepsMoney (p : Part) (k : Fin 32) : p.KeepsMoney (p.enterSettling k) := by
  cases ho : p.ord.orders[k] with
  | none => rw [show p.enterSettling k = p by simp only [Part.enterSettling, ho]]; exact .refl p
  | some o =>
    have entered : p.KeepsMoney (p.unfocusing k o) :=
      .of_set rfl fun held x hx => Option.some.inj hx ▸ held o ho
    rw [Part.enterSettling_unfocused ho]
    split
    · exact entered.trans (Part.closeOrder_keepsMoney _ k _)
    · exact entered.trans (Part.handOp_keepsMoney _ _)

theorem Part.checkSettling_keepsMoney (p : Part) (k : Fin 32) : p.KeepsMoney (p.checkSettling k) := by
  unfold Part.checkSettling
  split
  · split
    · exact p.enterSettling_keepsMoney k
    · exact .refl p
  · exact .refl p

theorem Part.checkItemOrder_keepsMoney (p : Part) (id : Fin 64) : p.KeepsMoney (p.checkItemOrder id) := by
  unfold Part.checkItemOrder
  split
  · exact p.checkSettling_keepsMoney _
  · exact .refl p

theorem Part.fundedCheck_ord (p : Part) (k : Fin 32) (before : Bool) : (p.fundedCheck k before).ord = p.ord := by
  unfold Part.fundedCheck
  split <;> rfl

/-! ### Withdrawal -/

theorem Part.reverse_keepsMoney (p : Part) (id : Fin 64) : p.KeepsMoney (p.reverse id) := by
  cases hit : p.ord.items[id] with
  | none => rw [show p.reverse id = p by simp only [Part.reverse, hit]]; exact .refl p
  | some it =>
    rw [Part.reverse_eq hit]
    exact .of_map rfl fun o _ ok => ok.reversed it.reversal

theorem Part.clearHolder_ord (p : Part) (id : Fin 64) : (p.clearHolder id).ord = p.ord := by
  unfold Part.clearHolder
  split <;> rfl

theorem Part.withdrawItem_keepsMoney (p : Part) (id : Fin 64) (reason : Option FailReason) :
    p.KeepsMoney (p.withdrawItem id reason) := by
  cases hit : p.ord.items[id] with
  | none => rw [show p.withdrawItem id reason = p by simp only [Part.withdrawItem, hit]]; exact .refl p
  | some it =>
    rw [Part.withdrawItem_eq hit]
    exact .of_map rfl fun o _ ok => ok.reversed it.reversal

theorem Part.withdrawReturned_keepsMoney (p : Part) (id : Fin 64) : p.KeepsMoney (p.withdrawReturned id) :=
  (p.withdrawItem_keepsMoney id none).trans (Part.checkItemOrder_keepsMoney _ id)

/-! ### Faults -/

theorem Part.enterFault_keepsMoney (p : Part) (e : EngineId) (k : FaultKind) : p.KeepsMoney (p.enterFault e k) :=
  .of_ord (by cases e <;> rfl)

theorem Part.returnItems_keepsMoney (p : Part) (e : EngineId) (ids : List (Fin 64)) :
    p.KeepsMoney (p.returnItems e ids) := by
  refine .trans ?_ (foldl_keepsMoney Part.withdrawReturned_keepsMoney _ _)
  refine .of_orders ?_
  exact (foldl_reads (f := Part.respool) (g := fun p => p.ord.orders) (fun _ _ => rfl) _ _).trans
    (congrArg OrderTable.orders (Part.modEng_ord _ _ _))

theorem Part.failItem_keepsMoney (p : Part) (id : Fin 64) : p.KeepsMoney (p.failItem id) := by
  refine .trans ?_ (Part.checkItemOrder_keepsMoney _ id)
  refine .captured ((p.reverse_keepsMoney id).trans (.of_orders ?_)) .itemFailed
  rw [Part.clearHolder_ord]
  rfl

theorem Part.faultCore_keepsMoney (p : Part) (e : EngineId) (k : FaultKind) (copyFails : Bool) :
    p.KeepsMoney (p.faultCore e k copyFails).1 := by
  refine (p.enterFault_keepsMoney e k).trans ?_
  simp only [Part.faultCore]
  split
  · split
    · exact (Part.failItem_keepsMoney _ _).trans (Part.returnItems_keepsMoney _ e _)
    · exact (Part.returnItems_keepsMoney _ e _).after rfl
  · exact Part.returnItems_keepsMoney _ e _

/-! ### Copies and the release walk -/

theorem Part.loadStart_keepsMoney (p : Part) (e : EngineId) : p.KeepsMoney (p.loadStart e).1 := by
  have loading : p.KeepsMoney (p.modEng e fun en => { en with state := .loading }) := (KeepsMoney.refl p).modEng e _
  simp only [Part.loadStart]
  split
  · exact loading.trans (Part.faultCore_keepsMoney _ e .mediaMismatch false)
  · split
    · exact (loading.modEng e _).captured .mediaLow
    · exact loading.modEng e _

theorem Part.beginCopy_keepsMoney (p : Part) (e : EngineId) : p.KeepsMoney (p.beginCopy e).1 := by
  unfold Part.beginCopy
  split
  · split
    · exact ((KeepsMoney.refl p).modEng e _).captured .mediaOut
    · refine (Part.loadStart_keepsMoney _ e).after ?_
      split <;> rfl
  · exact .refl p

theorem Part.enterIdle_keepsMoney (p : Part) (e : EngineId) : p.KeepsMoney (p.enterIdle e).1 := by
  refine ((KeepsMoney.refl p).modEng e Engine.idled).trans ?_
  cases h : (p.sensors e).condition with
  | some k => rw [Part.enterIdle_reported h]; exact Part.faultCore_keepsMoney _ e k false
  | none => rw [Part.enterIdle_clear h]; exact Part.beginCopy_keepsMoney _ e

theorem Part.resumeIdle_keepsMoney (p : Part) (e : EngineId) : p.KeepsMoney (p.resumeIdle e) := by
  unfold Part.resumeIdle
  split
  · exact p.enterIdle_keepsMoney e
  · exact .refl p

/-- An item that its order lets go is released: a debit is one that the funding test has allowed (R87, R96). -/
theorem Part.releaseTo_keepsMoney {p : Part} {it : Item} {o : Order} (ho : p.ord.orders[it.order] = some o)
    (goes : o.letsGo it = true) (id : Fin 64) (e : EngineId) : p.KeepsMoney (p.releaseTo id it e) := by
  have debit : p.KeepsMoney (if it.debited then p
      else p.modOrder it.order fun o => { o with consumed := o.consumed + it.price }) := by
    by_cases hd : it.debited = true
    · rw [if_pos hd]
      exact .refl p
    · rw [if_neg hd]
      have funds : o.fundsItem it.price = true := by
        simpa [Order.letsGo, hd] using And.right (Bool.and_eq_true_iff.mp goes)
      refine Part.modOrder_keepsMoney fun o' ho' ok => ?_
      obtain rfl : o = o' := Option.some.inj (ho.symm.trans ho')
      exact ok.debited funds
  refine .trans (.modEng ?_ e _) (Part.beginCopy_keepsMoney _ e)
  exact debit.trans (.of_orders rfl)

theorem Part.tryEntry_keepsMoney (p : Part) (x : ReleaseEntry) : p.KeepsMoney (p.tryEntry x) := by
  unfold Part.tryEntry
  split
  next it _ =>
    split
    next o ho =>
      split
      next goes =>
        split
        · exact Part.releaseTo_keepsMoney ho goes x.item _
        · exact .refl p
      next => exact .refl p
    next => exact .refl p
  next => exact .refl p

theorem Part.walk_keepsMoney (p : Part) : p.KeepsMoney p.walk := by
  unfold Part.walk
  split
  · exact .refl p
  · exact foldl_keepsMoney Part.tryEntry_keepsMoney _ p

theorem Part.walkIf_keepsMoney {p : Part} {r : Part × Bool} (h : p.KeepsMoney r.1) : p.KeepsMoney (Part.walkIf r) := by
  unfold Part.walkIf
  split
  · exact h.trans (Part.walk_keepsMoney _)
  · exact h

theorem Part.faultPrinting_keepsMoney (p : Part) (e : EngineId) (k : FaultKind) : p.KeepsMoney (p.faultPrinting e k) :=
  Part.walkIf_keepsMoney (p.faultCore_keepsMoney e k _)

theorem Part.lineStart_keepsMoney (p : Part) (e : EngineId) (t : Int) : p.KeepsMoney (p.lineStart e t) := by
  have sampled : p.KeepsMoney (p.modEng e fun en => { en with temperature := t }) := (KeepsMoney.refl p).modEng e _
  simp only [Part.lineStart]
  split
  · exact sampled.trans (Part.faultPrinting_keepsMoney _ e .headHot)
  · exact sampled.modEng e _

theorem Part.afterEject_keepsMoney (p : Part) (e : EngineId) : p.KeepsMoney (p.afterEject e).1 := by
  unfold Part.afterEject
  split
  · exact (KeepsMoney.refl p).modEng e _
  · exact p.enterIdle_keepsMoney e

/-! ### Waking -/

theorem Part.wakeToLive_keepsMoney (p : Part) : p.KeepsMoney p.wakeToLive := by
  have slots : p.KeepsMoney (Part.capture { p with
      svc := { p.svc with mode := .live, debounce := Vector.replicate 5 none, enable := 0 } } .wake).wakeSlots := by
    rw [Part.wakeSlots_eq]
    exact .of_ord rfl
  exact slots.trans ((Part.resumeIdle_keepsMoney _ .A).trans ((Part.resumeIdle_keepsMoney _ .B).trans
    (Part.walk_keepsMoney _)))

theorem Part.wakeCondition_keepsMoney (p : Part) (w : WakeSource) : p.KeepsMoney (p.wakeCondition w) := by
  unfold Part.wakeCondition
  split
  case h_2 | h_4 => exact p.wakeToLive_keepsMoney
  all_goals exact .of_ord rfl

theorem Part.raiseWake_keepsMoney (p : Part) (w : WakeSource) : p.KeepsMoney (p.raiseWake w) := by
  simp only [Part.raiseWake]
  split
  · exact (Part.wakeCondition_keepsMoney _ w).after rfl
  · exact .of_ord rfl

theorem Part.controlArrival_keepsMoney (p : Part) : p.KeepsMoney p.controlArrival := by
  unfold Part.controlArrival
  split
  case h_2 | h_3 => exact p.wakeToLive_keepsMoney
  all_goals exact .of_ord rfl

end Sys2Proof.Machine
end

section
/-! PROOFS. The money of the orders under the requests (R8): the table writes, the orders and items, cash, CARD_AUTHORIZE and
the engines. -/

set_option Elab.async false

open Sys2Proof Sys2Proof.Machine

namespace Sys2Proof.Machine

/-! ### Postings -/

theorem Part.creditOrder_keepsMoney (p : Part) (k : Fin 32) (amount : Nat) : p.KeepsMoney (p.creditOrder k amount) := by
  refine .trans ?_ (Part.walk_keepsMoney _)
  refine .trans (Part.modOrder_keepsMoney (k := k) ?_) (.of_ord (Part.fundedCheck_ord _ k _))
  exact fun o _ ok => ok.credited amount

theorem Part.post_keepsMoney (p : Part) (c : Fin 6) (amount : Nat) : p.KeepsMoney (p.post c amount) := by
  unfold Part.post
  split
  · exact .of_ord rfl
  · split
    · dsimp only
      split
      · exact .of_ord rfl
      · exact (Part.creditOrder_keepsMoney _ _ amount).after rfl
    · exact .of_ord rfl

theorem Part.endTrain_keepsMoney (p : Part) (c : Fin 6) : p.KeepsMoney (p.endTrain c) := by
  unfold Part.endTrain
  split
  · exact (Part.post_keepsMoney _ c _).after rfl
  · exact .refl p

theorem Part.endDueTrain_keepsMoney (p : Part) (c : Fin 6) : p.KeepsMoney (p.endDueTrain c) := by
  unfold Part.endDueTrain
  split
  · split
    · exact p.endTrain_keepsMoney c
    · exact .refl p
  · exact .refl p

theorem Part.jamByPulse_keepsMoney (p : Part) (c : Fin 6) : p.KeepsMoney (p.jamByPulse c) :=
  (p.endTrain_keepsMoney c).trans (.of_ord rfl)

theorem Part.channelDue_keepsMoney (p : Part) (c : Fin 6) : p.KeepsMoney (p.channelDue c) := by
  simp only [Part.channelDue]
  refine .trans ?_ (Part.endDueTrain_keepsMoney _ c)
  split
  · split
    · exact p.jamByPulse_keepsMoney c
    · exact .refl p
  · exact .refl p

/-! ### Tables and cards -/

theorem Part.writeTable_keepsMoney (p : Part) (T : TableId) (ms first count : Nat) (bytes : List Byte) :
    p.KeepsMoney (p.writeTable T ms first count bytes) := by
  have stores (q : Part) (T : TableId) : q.KeepsMoney (q.storeTable T first count bytes) := by
    cases T with
    | energy e | params e => exact (KeepsMoney.refl q).modEng e _
    | _ => exact .of_orders rfl
  unfold Part.writeTable
  split
  · have before := foldl_keepsMoney Part.channelDue_keepsMoney
      (((List.finRange 6).filter fun c => first ≤ c.val && c.val < first + count).foldr p.insertByDue []) (p.advance ms)
    exact (before.after rfl).trans ((stores _ .channels).trans (foldl_keepsMoney Part.channelDue_keepsMoney _ _))
  · exact stores p _

theorem Part.tableWrite_keepsMoney (p : Part) (ms : Nat) (args : List Byte) :
    p.KeepsMoney (p.tableWrite ms args).part := by
  simp only [Part.tableWrite]
  split
  · exact .refl p
  · split
    · exact .refl p
    · split
      · exact .refl p
      · exact p.writeTable_keepsMoney _ ms _ _ _

theorem Part.slotUnbind_keepsMoney (p : Part) (args : List Byte) : p.KeepsMoney (p.slotUnbind args).part := by
  simp only [Part.slotUnbind]
  split
  · exact .refl p
  · split
    · exact .refl p
    · split
      · exact .refl p
      · exact p.dropBinding_keepsMoney _

/-! ### Orders and items -/

/-- A new order has consumed nothing (R71). -/
theorem Order.moneyOk_opening (number : Nat) (funding : Funding) (slot : Option (Fin 4)) (locked : Option Identity) :
    (Order.opening number funding slot locked).moneyOk := ⟨Nat.zero_le _, fun _ => rfl⟩

theorem Part.orderOpen_keepsMoney (p : Part) (args : List Byte) : p.KeepsMoney (p.orderOpen args).part := by
  have opens (k : Fin 32) (number : Nat) (funding : Funding) (slot : Option (Fin 4)) :
      p.KeepsMoney (p.openOrder k number funding slot).part := by
    cases slot with
    | none => exact .of_set (k := k) rfl fun _ o ho => Option.some.inj ho ▸ Order.moneyOk_opening number funding none none
    | some i =>
      exact .of_set (k := k) rfl fun _ o ho =>
        Option.some.inj ho ▸ Order.moneyOk_opening number funding (some i) p.csu.slots[i].identity
  simp only [Part.orderOpen]
  split
  · repeat (split; · exact .refl p)
    split
    · exact opens _ _ _ _
    · exact .refl p
  · exact .refl p

theorem Part.itemAdd_keepsMoney (p : Part) (args : List Byte) : p.KeepsMoney (p.itemAdd args).part := by
  have adds (k : Fin 32) (o : Order) (id : Fin 64) (row : ProductRow) (code copies w l : Nat) (r : Fin 16) :
      p.KeepsMoney (p.addItem k o id row code copies w l r).part :=
    .of_map (k := k) (f := fun o => { o with items := o.items ++ [id], total := o.total + row.itemPrice copies }) rfl
      fun _ _ ok => ok
  simp only [Part.itemAdd]
  split
  · exact .refl p
  · split
    · exact .refl p
    · split
      · exact .refl p
      · split
        · exact .refl p
        · repeat (split; · exact .refl p)
          exact adds _ _ _ _ _ _ _ _ _

theorem Part.withdrawWithWalk_keepsMoney (p : Part) (id : Fin 64) : p.KeepsMoney (p.withdrawWithWalk id) := by
  unfold Part.withdrawWithWalk
  split
  next it _ =>
    have withdrawn : p.KeepsMoney ((p.withdrawItem id none).fundedCheck it.order (p.orderFunded it.order)) :=
      (p.withdrawItem_keepsMoney id none).trans (.of_ord (Part.fundedCheck_ord ..))
    dsimp only
    split
    · exact withdrawn.trans (Part.walk_keepsMoney _)
    · exact withdrawn
  next => exact .refl p

theorem Part.itemWithdraw_keepsMoney (p : Part) (args : List Byte) : p.KeepsMoney (p.itemWithdraw args).part := by
  have withdraws (id : Fin 64) (it : Item) : p.KeepsMoney ((p.withdrawWithWalk id).checkSettling it.order) :=
    (p.withdrawWithWalk_keepsMoney id).trans (Part.checkSettling_keepsMoney _ _)
  simp only [Part.itemWithdraw]
  split
  · exact .refl p
  · split
    · exact .refl p
    · split
      case h_6 | h_7 | h_8 | h_5 => exact withdraws _ _
      all_goals exact .refl p

theorem Part.orderCommit_keepsMoney (p : Part) (args : List Byte) : p.KeepsMoney (p.orderCommit args).part := by
  simp only [Part.orderCommit]
  split
  · exact .refl p
  · split
    · exact .refl p
    · refine .trans ?_ ((Part.checkSettling_keepsMoney _ _).trans (Part.walk_keepsMoney _))
      refine .trans (Part.modOrder_keepsMoney (k := _) ?_) (.of_ord (Part.fundedCheck_ord ..))
      exact fun _ _ ok => ok

theorem Part.orderCancel_keepsMoney (p : Part) (args : List Byte) : p.KeepsMoney (p.orderCancel args).part := by
  have item (q : Part) (id : Fin 64) : q.KeepsMoney (q.cancelItem id) := by
    unfold Part.cancelItem
    split
    · split
      · exact q.withdrawWithWalk_keepsMoney id
      · exact .refl q
    · exact .refl q
  have cancels (k : Fin 32) (o : Order) : p.KeepsMoney (p.cancelOrder k o) := by
    refine .trans (.trans (Part.modOrder_keepsMoney (k := k) ?_) (foldl_keepsMoney item o.items _))
      (Part.checkSettling_keepsMoney _ k)
    exact fun _ _ ok => ok
  simp only [Part.orderCancel]
  split
  · exact .refl p
  · split
    · exact .refl p
    · split
      · exact .refl p
      · exact cancels _ _

theorem Part.orderResume_keepsMoney (p : Part) (args : List Byte) : p.KeepsMoney (p.orderResume args).part := by
  simp only [Part.orderResume]
  split
  · exact .refl p
  · split
    · exact Part.modOrder_keepsMoney fun _ _ ok => ok
    · exact .refl p

/-- A record that becomes free holds no order (R84). -/
theorem Part.orderRelease_keepsMoney (p : Part) (args : List Byte) : p.KeepsMoney (p.orderRelease args).part := by
  simp only [Part.orderRelease]
  split
  · exact .refl p
  next k o _ =>
    split
    · have freed : (o.items.foldl Part.freeItemEntry p).ord.orders = p.ord.orders :=
        foldl_reads (f := Part.freeItemEntry) (g := fun p => p.ord.orders) (fun _ _ => rfl) _ _
      refine (KeepsMoney.of_orders freed).trans ?_
      exact .of_set (k := k) (x := none) rfl fun _ _ h => nomatch h
    · exact .refl p

/-! ### Cash -/

theorem Part.focusSet_ord (p : Part) (args : List Byte) : (p.focusSet args).part.ord = p.ord := by
  simp only [Part.focusSet]
  split
  · rfl
  · split <;> rfl

theorem Part.poolPayout_ord (p : Part) (args : List Byte) : (p.poolPayout args).part.ord = p.ord := by
  simp only [Part.poolPayout]
  split <;> rfl

theorem Part.channelReset_keepsMoney (p : Part) (ms : Nat) (args : List Byte) :
    p.KeepsMoney (p.channelReset ms args).part := by
  simp only [Part.channelReset]
  split
  · exact .refl p
  next c _ =>
    have due : p.KeepsMoney ((p.advance ms).channelDue c) := (Part.channelDue_keepsMoney _ c).after rfl
    split
    · refine due.trans (.of_ord ?_)
      show (Part.unjam _ c).ord = _
      unfold Part.unjam
      dsimp only
      split <;> rfl
    · exact .refl p

theorem Part.poolApply_keepsMoney (p : Part) (args : List Byte) : p.KeepsMoney (p.poolApply args).part := by
  simp only [Part.poolApply]
  split
  · exact .refl p
  · repeat (split; · exact .refl p)
    exact (Part.creditOrder_keepsMoney _ _ _).after rfl

/-- An order that asks for an authorization has none, so it stands at no authorized amount while PENDING (R130). -/
theorem Part.cardAuthorize_keepsMoney (p : Part) (args : List Byte) : p.KeepsMoney (p.cardAuthorize args).part := by
  simp only [Part.cardAuthorize]
  split
  · exact .refl p
  next k o live =>
    split
    · exact .refl p
    next admitted =>
      repeat (split; · exact .refl p)
      refine .trans (Part.modOrder_keepsMoney (k := k) ?_) (Part.joinOp_keepsMoney _ _)
      intro o' ho' ok
      obtain rfl : o = o' := by
        unfold Part.liveOrder at live
        split at live
        · split at live
          next own => cases live; exact Option.some.inj (own.symm.trans ho')
          next => cases live
        · cases live
      obtain ⟨funds, unapproved⟩ := ok
      have early : o.cashless.state = .none ∨ o.cashless.state = .declined := by
        simp only [Bool.or_eq_true, not_or, Bool.not_eq_true', beq_iff_eq, Bool.not_eq_false] at admitted
        exact admitted.2
      exact ⟨funds, fun _ => unapproved (early.imp_right fun h => .inr (.inl h))⟩

/-! ### Engines -/

theorem Part.engineOnline_keepsMoney (p : Part) (args : List Byte) : p.KeepsMoney (p.engineOnline args).part := by
  have resumes (e : EngineId) : p.KeepsMoney (if (p.eng e).offlinePending then
      Served.engineDone (p.modEng e fun en => { en with offlinePending := false }).walk e []
      else .engineRefuse p e .wrongState).part := by
    split
    · exact ((KeepsMoney.refl p).modEng e _).trans (Part.walk_keepsMoney _)
    · exact .refl p
  simp only [Part.engineOnline]
  split
  · exact .refl p
  next e _ =>
    split
    · exact .refl p
    · exact (p.enterIdle_keepsMoney e).trans (Part.walk_keepsMoney _)
    all_goals exact resumes e

theorem Part.engineOffline_keepsMoney (p : Part) (args : List Byte) : p.KeepsMoney (p.engineOffline args).part := by
  simp only [Part.engineOffline]
  split
  · exact .refl p
  · split
    · exact .refl p
    · exact .refl p
    all_goals exact (KeepsMoney.refl p).modEng _ _

theorem Part.engineClear_keepsMoney (p : Part) (args : List Byte) : p.KeepsMoney (p.engineClear args).part := by
  have clears (e : EngineId) : p.KeepsMoney (p.clearFault e) := by
    have cleared : p.KeepsMoney ((p.modEng e fun en => { en with fault := none }).afterEject e).1 :=
      ((KeepsMoney.refl p).modEng e _).trans (Part.afterEject_keepsMoney _ e)
    simp only [Part.clearFault]
    split
    · exact cleared
    · exact cleared.trans (Part.walk_keepsMoney _)
  simp only [Part.engineClear]
  split
  · exact .refl p
  · split
    · split
      · exact .refl p
      · exact clears _
    · exact .refl p

theorem Part.mediaSet_keepsMoney (p : Part) (args : List Byte) : p.KeepsMoney (p.mediaSet args).part := by
  have loads (e : EngineId) (kind count : Nat) : p.KeepsMoney (p.loadMedia e kind count) := by
    have loaded : p.KeepsMoney (p.modEng e fun en => { en with mediaKind := kind, prints := count }) :=
      (KeepsMoney.refl p).modEng e _
    simp only [Part.loadMedia]
    split
    · exact loaded.trans (Part.afterEject_keepsMoney _ e)
    · exact loaded
  simp only [Part.mediaSet]
  split
  · exact .refl p
  · repeat (split; · exact .refl p)
    exact (loads _ _ _).trans (Part.walk_keepsMoney _)

/-! ### The handler -/

/-- A request that the handler takes does to the money what its owning block does (R8). -/
theorem Part.serve_keepsMoney (p : Part) (code : Byte) (lengthOk : Nat → Bool) (admits : Mode → Option Status)
    {run : Part → Nat → List Byte → Served} (h : ∀ (q : Part) tag args, q.KeepsMoney (run q tag args).part) :
    p.KeepsMoney (p.serve code lengthOk admits run) := by
  unfold Part.serve
  split
  next e rest _ _ =>
    split
    · refine .trans (.of_ledger (p.takeRequest_ledger rest)) ?_
      show KeepsMoney _ (Part.checked _ lengthOk admits e.payload _).part
      unfold Part.checked
      split
      · split
        · split
          · exact .refl _
          · exact h _ _ _
        · exact .refl _
      · exact .refl _
    · exact .refl p
  next => exact .refl p

end Sys2Proof.Machine
end

section
/-! PROOFS. The money of the orders under the events, the answers of the terminal among them (R131 to R136), and under every
step (R92, R93). -/

set_option Elab.async false

open Sys2Proof Sys2Proof.Machine

namespace Sys2Proof.Machine

/-! ### The answers of the terminal -/

/-- The next operation that is sent leaves every account as it was (R129). -/
theorem Part.endOp_account {p : Part} {k : Fin 32} {o o' : Order} (ho : p.ord.orders[k] = some o)
    (ho' : p.endOp.ord.orders[k] = some o') : o'.account = o.account := by
  have same := Part.account_of_aside (p := p.endOp) (Part.pump_aside _) k
  rw [ho', Option.map_some] at same
  exact Option.some.inj (same.trans (congrArg (Option.map Order.account) ho))

/-- A PENDING order, the next operation sent: no amount is authorized and the cash covers what is consumed (R92, R131). -/
theorem Order.moneyOk.pending {o o' : Order} (ok : o.moneyOk) (hp : o.cashless.state = .pending)
    (same : o'.account = o.account) : o'.cardAuth = 0 ∧ o'.consumed ≤ o'.cashIn := by
  obtain ⟨funds, unapproved⟩ := ok
  have cash : o'.cashIn = o.cashIn := congrArg Account.cashIn same
  have card : o'.cardAuth = o.cardAuth := congrArg Account.cardAuth same
  have used : o'.consumed = o.consumed := congrArg Account.consumed same
  have none : o.cardAuth = 0 := unapproved (.inr (.inl hp))
  omega

/-- A change of a PENDING order's record as its AUTHORIZE ends (R131 to R133). -/
theorem Part.endOp_modOrder_keepsMoney {p : Part} {k : Fin 32} {o : Order} (ho : p.ord.orders[k] = some o)
    (hp : o.cashless.state = .pending) {f : Order → Order}
    (h : ∀ o' : Order, o'.cardAuth = 0 → o'.consumed ≤ o'.cashIn → (f o').moneyOk) :
    p.KeepsMoney (p.endOp.modOrder k f) := by
  intro held
  refine Part.modOrder_keepsMoney (fun o' ho' _ => ?_) (p.endOp_keepsMoney held)
  obtain ⟨none, funds⟩ := (held k o ho).pending hp (Part.endOp_account ho ho')
  exact h o' none funds

/-- An AUTHORIZE ends without an approval (R132, R133). -/
theorem Part.authEnds_keepsMoney {p : Part} {k : Fin 32} {o : Order} (ho : p.ord.orders[k] = some o)
    (hp : o.cashless.state = .pending) (st : CashlessState) (reason : Option Nat) :
    p.KeepsMoney (p.authEnds k st reason) := by
  refine .trans (.captured ?_ .authResult) (Part.checkSettling_keepsMoney _ k)
  exact Part.endOp_modOrder_keepsMoney ho hp fun o' none funds => ⟨Nat.le_add_right_of_le funds, fun _ => none⟩

/-- An AUTHORIZE is approved: the amount adds to the cash, which covers what is consumed (R93, R131). -/
theorem Part.authApproved_keepsMoney {p : Part} {k : Fin 32} {o : Order} (ho : p.ord.orders[k] = some o)
    (hp : o.cashless.state = .pending) (amount : Nat) : p.KeepsMoney (p.authApproved k o amount) := by
  refine .trans ?_ ((Part.walk_keepsMoney _).trans (Part.checkSettling_keepsMoney _ k))
  refine .trans (.captured ?_ .authResult) (.of_ord (Part.fundedCheck_ord _ k _))
  exact Part.endOp_modOrder_keepsMoney ho hp fun o' _ funds => ⟨Nat.le_add_right_of_le funds, by simp⟩

theorem Part.lateApproval_keepsMoney (p : Part) (k : Fin 32) (ref : Nat) : p.KeepsMoney (p.lateApproval k ref) := by
  have seen (q : Part) : q.KeepsMoney (q.modCashless k fun c => { c with lateSeen := true }) :=
    Part.modOrder_keepsMoney fun _ _ ok => ok
  simp only [Part.lateApproval]
  split
  · exact ((seen _).trans (Part.joinOp_keepsMoney _ _)).after rfl
  · split
    · exact (seen _).after rfl
    · exact .of_ord rfl

theorem Part.orders_of_liveOrder {p : Part} {n : Nat} {k : Fin 32} {o : Order} (h : p.liveOrder n = some (k, o)) :
    p.ord.orders[k] = some o := by
  unfold Part.liveOrder at h
  split at h
  · split at h
    next own => cases h; exact own
    next => cases h
  · cases h

theorem Part.takeApproved_keepsMoney (p : Part) (ref amount : Nat) : p.KeepsMoney (p.takeApproved ref amount) := by
  unfold Part.takeApproved
  split
  · exact .of_ord rfl
  next k o live =>
    split
    next hp =>
      split
      · split
        · exact Part.authEnds_keepsMoney (Part.orders_of_liveOrder live) hp _ _
        · exact Part.authApproved_keepsMoney (Part.orders_of_liveOrder live) hp amount
      · exact .of_ord rfl
    next =>
      split
      · exact .of_ord rfl
      · exact p.lateApproval_keepsMoney k ref
    all_goals exact .of_ord rfl

theorem Part.takeDeclined_keepsMoney (p : Part) (ref reason : Nat) : p.KeepsMoney (p.takeDeclined ref reason) := by
  unfold Part.takeDeclined
  split
  · exact .of_ord rfl
  next k o live =>
    split
    next hp =>
      split
      · exact Part.authEnds_keepsMoney (Part.orders_of_liveOrder live) hp _ _
      · exact .of_ord rfl
    all_goals exact .of_ord rfl

theorem Part.authTimesOut_keepsMoney (p : Part) (ref : Nat) : p.KeepsMoney (p.authTimesOut ref) := by
  unfold Part.authTimesOut
  split
  next k o live =>
    split
    next hp => exact Part.authEnds_keepsMoney (Part.orders_of_liveOrder live) (beq_iff_eq.mp hp) _ _
    next => exact p.endOp_keepsMoney
  next => exact p.endOp_keepsMoney

/-- A settlement ends in a state that comes after an approval (R134). -/
theorem Part.settlementEnds_keepsMoney (p : Part) (ref : Nat) {st : CashlessState}
    (hst : st = .captured ∨ st = .released ∨ st = .unconfirmed) (kind : CaptureKind) (captured : Order → Option Nat) :
    p.KeepsMoney (p.settlementEnds ref st kind captured) := by
  refine p.endOp_keepsMoney.trans ?_
  simp only [Part.settlementEnds]
  split
  · refine .trans (.captured (Part.modOrder_keepsMoney fun o _ ok => ok.approved ?_) kind)
      (Part.closeOrder_keepsMoney _ _ _)
    show st ≠ .none ∧ st ≠ .pending ∧ st ≠ .declined ∧ st ≠ .timedOut
    rcases hst with rfl | rfl | rfl <;> decide
  · exact .of_ord rfl

theorem Part.takeCaptured_keepsMoney (p : Part) (ref : Nat) : p.KeepsMoney (p.takeCaptured ref) := by
  unfold Part.takeCaptured
  split
  · exact p.endOp_keepsMoney
  · split
    · exact p.settlementEnds_keepsMoney ref (.inl rfl) _ _
    · exact .of_ord rfl

theorem Part.takeReleased_keepsMoney (p : Part) (ref : Nat) : p.KeepsMoney (p.takeReleased ref) := by
  unfold Part.takeReleased
  split
  · exact p.endOp_keepsMoney
  · split
    · exact p.settlementEnds_keepsMoney ref (.inr (.inl rfl)) _ _
    · exact .of_ord rfl

/-! ### Pulses -/

theorem Part.billPulse_keepsMoney (p : Part) (c : Fin 6) (value : Nat) : p.KeepsMoney (p.billPulse c value) := by
  unfold Part.billPulse
  split
  · exact .of_ord rfl
  · dsimp only
    split
    · exact (Part.endTrain_keepsMoney _ c).after rfl
    · exact .of_ord rfl

theorem Part.validPulse_keepsMoney (p : Part) (c : Fin 6) : p.KeepsMoney (p.validPulse c) := by
  refine .trans ?_ (Part.raiseWake_keepsMoney _ .pulse)
  split
  · exact p.post_keepsMoney c _
  · exact p.billPulse_keepsMoney c _

theorem Part.classify_keepsMoney (p : Part) (c : Fin 6) (w : Nat) (jammer : Bool) :
    p.KeepsMoney (p.classify c w jammer) := by
  simp only [Part.classify]
  split
  · split
    · exact (p.endTrain_keepsMoney c).trans (.of_ord rfl)
    · split
      · exact .of_ord rfl
      · exact p.validPulse_keepsMoney c
  · split <;> exact .of_ord rfl

theorem Part.pulseRises_keepsMoney (p : Part) (c : Fin 6) (ms : Nat) : p.KeepsMoney (p.pulseRises c ms) := by
  unfold Part.pulseRises
  split
  · exact .refl p
  · dsimp only
    split
    · exact .of_ord rfl
    · refine .trans ?_ (.of_ord rfl)
      exact (Part.endDueTrain_keepsMoney ((p.advance ms).setPulsePin c true) c).after rfl

theorem Part.pulseFalls_keepsMoney (p : Part) (c : Fin 6) (ms : Nat) : p.KeepsMoney (p.pulseFalls c ms) := by
  unfold Part.pulseFalls
  split
  · dsimp only
    split
    · exact .of_ord rfl
    · split
      · exact (Part.classify_keepsMoney _ c _ _).after rfl
      · exact .of_ord rfl
  · exact .refl p

theorem Part.pulseJams_keepsMoney (p : Part) (c : Fin 6) : p.KeepsMoney (p.pulseJams c) := by
  simp only [Part.pulseJams]
  split
  · exact (Part.jamByPulse_keepsMoney _ c).after rfl
  · exact .refl p

theorem Part.gapExpires_keepsMoney (p : Part) (c : Fin 6) : p.KeepsMoney (p.gapExpires c) := by
  unfold Part.gapExpires
  split
  · exact (Part.endTrain_keepsMoney _ c).after rfl
  · exact .refl p

/-! ### Bands and the spool -/

theorem Part.takeBand_keepsMoney (p : Part) : p.KeepsMoney p.takeBand := by
  unfold Part.takeBand
  split
  · dsimp only
    split <;> exact .of_orders rfl
  · exact .refl p

theorem Part.completeItem_keepsMoney (p : Part) (id : Fin 64) (x : Intake) : p.KeepsMoney (p.completeItem id x) := by
  unfold Part.completeItem
  rw [Part.dropBands_eq]
  exact (Part.walk_keepsMoney _).after rfl

theorem Part.bandWritten_keepsMoney (p : Part) (b : BandConv) : p.KeepsMoney (p.bandWritten b) := by
  simp only [Part.bandWritten]
  split
  · split
    · exact .of_ord rfl
    · split
      · exact (Part.completeItem_keepsMoney _ _ _).after rfl
      · exact .of_orders rfl
  · exact .of_ord rfl

theorem Part.lineReceived_keepsMoney (p : Part) (e : EngineId) (row : List Byte) : p.KeepsMoney (p.lineReceived e row) := by
  simp only [Part.lineReceived]
  split
  · exact .refl p
  · split
    · exact ((KeepsMoney.refl p).modEng e _).captured .budgetClip
    · exact (Part.KeepsMoney.refl p).modEng e _

theorem Part.accessDone_keepsMoney (p : Part) (a : Access) : p.KeepsMoney (p.accessDone a) := by
  unfold Part.accessDone
  split
  · simp only [Part.writeDone]
    split
    · split
      · exact (Part.bandWritten_keepsMoney _ _).after rfl
      · exact .of_ord rfl
    · exact .of_ord rfl
  · simp only [Part.readDone]
    split
    · exact (Part.lineReceived_keepsMoney _ _ _).after rfl
    · exact .of_ord rfl

/-! ### The mechanism and the strobe passes -/

theorem Part.panelReady_keepsMoney (p : Part) (e : EngineId) (panel : Panel) (panelTemp lineTemp : Int) :
    p.KeepsMoney (p.panelReady e panel panelTemp lineTemp) := by
  have sampled : p.KeepsMoney (p.modEng e fun en => { en with temperature := panelTemp }) :=
    (KeepsMoney.refl p).modEng e _
  simp only [Part.panelReady]
  split
  · exact (sampled.modEng e _).trans (Part.lineStart_keepsMoney _ e lineTemp)
  · exact (sampled.modEng e _).captured .heatHold

theorem Part.copyEjected_keepsMoney (p : Part) (e : EngineId) (head : Fin 64) : p.KeepsMoney (p.copyEjected e head) := by
  simp only [Part.copyEjected]
  split
  · split
    · refine .trans ?_ ((Part.checkItemOrder_keepsMoney _ head).trans
        ((Part.afterEject_keepsMoney _ e).trans (Part.walk_keepsMoney _)))
      refine .captured (.trans ?_ (.of_ord (Part.clearHolder_ord _ head))) .itemDone
      refine .modEng ?_ e _
      exact .of_orders rfl
    · exact Part.walkIf_keepsMoney ((Part.afterEject_keepsMoney _ e).after rfl)
  · exact .of_orders rfl

theorem Part.sample_keepsMoney (p : Part) (e : EngineId) (t : Int) : p.KeepsMoney (p.sample e t) := by
  have sampled : p.KeepsMoney (p.modEng e fun en => { en with temperature := t }) := (KeepsMoney.refl p).modEng e _
  unfold Part.sample
  split
  · exact .refl p
  · exact .refl p
  case h_9 =>
    dsimp only
    split
    · split
      · exact (sampled.modEng e _).trans (Part.lineStart_keepsMoney _ e t)
      · exact sampled
    · exact sampled
  all_goals exact sampled

theorem Part.passDone_keepsMoney (p : Part) (e : EngineId) (t : Int) : p.KeepsMoney (p.passDone e t) := by
  have strobed (q : Part) (panel : Panel) (line : Nat) : q.KeepsMoney (q.lineStrobed e panel line t) := by
    unfold Part.lineStrobed
    split
    · exact ((KeepsMoney.refl q).modEng e _).trans (Part.lineStart_keepsMoney _ e t)
    · split <;> exact (KeepsMoney.refl q).modEng e _
  simp only [Part.passDone]
  split
  · split
    · exact (Part.KeepsMoney.refl p).modEng e _
    · exact ((KeepsMoney.refl p).modEng e _).trans (strobed _ _ _)
  · exact .refl p

theorem Part.sensorChange_keepsMoney (p : Part) (e : EngineId) (report : SensorReport) :
    p.KeepsMoney (p.sensorChange e report) := by
  have sensed (x : Sensors) : p.KeepsMoney (p.setSensors e x) := .of_ord (p.setSensors_ord e x)
  simp only [Part.sensorChange]
  split
  · split
    · exact (sensed _).trans (Part.faultPrinting_keepsMoney _ e _)
    · exact sensed _
  · exact sensed _

/-! ### Frames, wake sources and resets -/

theorem Part.frameTaken_keepsMoney (p : Part) (b : Byte) : p.KeepsMoney (p.frameTaken b) := by
  have dispatched (q : Part) (bytes : List Byte) : q.KeepsMoney (q.dispatch bytes) := by
    unfold Part.dispatch
    split
    · exact q.controlArrival_keepsMoney.trans (.of_ledger (Part.offerCtrl_ledger _ _ _))
    · split
      · exact .of_ledger (q.offerBand_ledger _)
      · exact .of_ord rfl
  simp only [Part.frameTaken]
  split
  · split
    · exact (dispatched _ _).after rfl
    · exact .of_ord rfl
  · exact .refl p

theorem Part.keyRises_keepsMoney (p : Part) : p.KeepsMoney p.keyRises := by
  unfold Part.keyRises
  split
  · exact .refl p
  · dsimp only
    split
    · exact .of_ord rfl
    · exact (Part.raiseWake_keepsMoney _ .key).after rfl

theorem Part.detectAssert_keepsMoney (p : Part) (i : Fin 4) : p.KeepsMoney (p.detectAssert i) := by
  simp only [Part.detectAssert]
  split
  · exact (Part.raiseWake_keepsMoney _ _).after rfl
  all_goals exact .of_ord rfl

theorem Part.detectRises_keepsMoney (p : Part) (i : Fin 4) : p.KeepsMoney (p.detectRises i) := by
  unfold Part.detectRises
  split
  · exact .refl p
  · dsimp only
    split
    · exact .of_ord rfl
    · exact (Part.detectAssert_keepsMoney _ i).after rfl

theorem Part.graceExpires_keepsMoney (p : Part) : p.KeepsMoney p.graceExpires := by
  have parks : p.KeepsMoney p.enterParked := by
    simp only [Part.enterParked]
    split
    · exact (Part.wakeCondition_keepsMoney _ .pulse).after rfl
    · exact (foldl_keepsMoney Part.wakeCondition_keepsMoney _ _).after rfl
  unfold Part.graceExpires
  split
  · split
    · exact parks
    · exact .of_ord rfl
  · exact .refl p

theorem Part.debounceExpires_keepsMoney (p : Part) (t : Fin 5) : p.KeepsMoney (p.debounceExpires t) := by
  unfold Part.debounceExpires
  split
  · split
    · exact p.wakeToLive_keepsMoney
    · exact .of_ledger (p.failDebounce_ledger _)
  · exact .refl p

theorem Part.resetRelease_keepsMoney (p : Part) (ms : Nat) (strap : Strap) (tempA tempB : Int) :
    p.KeepsMoney (p.resetRelease ms strap tempA tempB) := by
  have slotLine (q : Part) (i : Fin 4) : q.KeepsMoney (q.releaseSlotLine i) := by
    unfold Part.releaseSlotLine
    split
    · exact q.detectAssert_keepsMoney i
    · exact .refl q
  have pulseLine (q : Part) (c : Fin 6) : q.KeepsMoney (q.releasePulseLine c) := by
    unfold Part.releasePulseLine
    split <;> exact .of_ord rfl
  unfold Part.resetRelease
  split
  · have slots := foldl_keepsMoney slotLine (List.finRange 4) ((p.advance ms).latch strap tempA tempB)
    exact (slots.after rfl).trans (foldl_keepsMoney pulseLine _ _)
  · exact .refl p

/-- No order is left (R91). -/
theorem Part.powerOnReset_keepsMoney (p : Part) : p.KeepsMoney p.powerOnReset := by
  intro _ k o ho
  rw [show p.powerOnReset.ord.orders[k] = none from Vector.getElem_replicate k.isLt] at ho
  exact nomatch ho

theorem Part.pathResetBlocks_keepsMoney (p : Part) : p.KeepsMoney p.pathResetBlocks := by
  have item (q : Part) (id : Fin 64) : q.KeepsMoney (q.resetItem id) := by
    unfold Part.resetItem
    split
    · split
      · exact .refl q
      · exact q.withdrawItem_keepsMoney id _
    · exact .refl q
  have halt (q : Part) (k : Fin 32) : q.KeepsMoney (q.haltOrder k) := by
    unfold Part.haltOrder
    split
    · split
      · refine .trans (Part.modOrder_keepsMoney (k := k) ?_) (.of_ord (Part.loseFocus_ord _ _))
        exact fun _ _ ok => ok
      · exact .refl q
    · exact .refl q
  have leave (q : Part) (e : EngineId) : q.KeepsMoney (q.leaveNeedsMedia e) := by
    unfold Part.leaveNeedsMedia
    split
    · exact q.enterIdle_keepsMoney e
    · exact .refl q
  have orders (q : Part) : q.KeepsMoney q.resetOrders :=
    (foldl_keepsMoney halt _ q).trans (foldl_keepsMoney Part.checkSettling_keepsMoney _ _)
  have regions (q : Part) : q.KeepsMoney q.resetRegions := .of_ord rfl
  have items := foldl_keepsMoney item (List.finRange 64) p.resetCleared
  rw [Part.pathResetBlocks_eq]
  exact (items.after rfl).trans ((orders _).trans ((regions _).trans ((leave _ .A).trans (leave _ .B))))

theorem Part.pathResetEffects_keepsMoney (p : Part) : p.KeepsMoney p.pathResetEffects := by
  have blocks := p.pathResetBlocks_keepsMoney
  have fed (q : Part) : q.KeepsMoney q.feed := .of_ledger (Part.feed_ledger q)
  have sent (q : Part) : q.KeepsMoney (Part.feed { q with lnk := { q.lnk with tx := none } }) :=
    .of_ledger (Part.feed_ledger _)
  unfold Part.pathResetEffects
  generalize p.pathResetBlocks = q at blocks
  split
  · exact blocks.trans (fed q)
  · split
    · exact blocks.trans (sent q)
    · exact .refl p
  · exact .refl p

/-! ### Every step -/

/-- Command by command, what each does to the money of the orders. -/
theorem runOf_keepsMoney (c : Instr) (p : Part) : p.KeepsMoney (runOf c p) := by
  cases c with simp only [runOf]
  | powerOnReset => exact p.powerOnReset_keepsMoney
  | resetRelease ms strap tempA tempB => exact p.resetRelease_keepsMoney ms strap tempA tempB
  | frameHeaderTaken b => exact .of_ledger (p.headerTaken_ledger b)
  | frameTaken b => exact p.frameTaken_keepsMoney b
  | linkGapExpiry => exact .of_ledger p.linkGapExpires_ledger
  | unknownRequest => exact .of_ledger p.refuseUnknown_ledger
  | replyHandover => exact .of_ledger p.handOver_ledger
  | frameTransmitDone => exact .of_ledger p.transmitDone_ledger
  | tableWrite ms => exact p.serve_keepsMoney _ _ _ fun q _ args => q.tableWrite_keepsMoney ms args
  | tableRead => exact p.serve_keepsMoney _ _ _ fun q _ args => .of_ledger (q.tableRead_ledger args)
  | statusRead => exact p.serve_keepsMoney _ _ _ fun q _ args => .of_ledger (q.statusRead_ledger args)
  | eventMask => exact p.serve_keepsMoney _ _ _ fun q _ args => .of_ledger (q.setMask_ledger args)
  | goLive => exact p.serve_keepsMoney _ _ _ fun q _ args => .of_ledger (q.checkLive_ledger args)
  | drain | resume | pathReset => exact p.serve_keepsMoney _ _ _ fun q _ _ => .refl q
  | park => exact p.serve_keepsMoney _ _ _ fun q _ _ => .of_ledger q.askPark_ledger
  | wakeSet => exact p.serve_keepsMoney _ _ _ fun q _ args => .of_ledger (q.wakeSet_ledger args)
  | pathResetEffects => exact p.pathResetEffects_keepsMoney
  | graceExpiry => exact p.graceExpires_keepsMoney
  | serviceKeyAssert => exact p.keyRises_keepsMoney
  | serviceKeyDeassert => exact .of_ledger p.keyFalls_ledger
  | debounceExpiry src => exact p.debounceExpires_keepsMoney src
  | cardDetectAssert i => exact p.detectRises_keepsMoney i
  | cardRemoval i => exact .of_ledger (p.detectFalls_ledger i)
  | settlingExpiry i => exact .of_ledger (p.settled_ledger i)
  | identifyResponse i status data check => exact .of_ledger (p.identifyResponse_ledger i status data check)
  | identifyLimitExpiry i => exact .of_ledger (p.identifyExpired_ledger i)
  | cardResponseTimeout i => exact .of_ledger (p.responseTimeout_ledger i)
  | busyRetryExpiry i => exact .of_ledger (p.busyRetry_ledger i)
  | readBlockResponse i status check => exact .of_ledger (p.readBlockResponse_ledger i status check)
  | dataPhaseComplete i data check => exact .of_ledger (p.dataComplete_ledger i data check)
  | dataPhaseTimeout i => exact .of_ledger (p.dataTimeout_ledger i)
  | readBusyLimit i => exact .of_ledger (p.readBusyExpired_ledger i)
  | stopResponse i status check => exact .of_ledger (p.stopResponse_ledger i status check)
  | stopBusyLimit i => exact .of_ledger (p.stopBusyExpired_ledger i)
  | slotUnbind => exact p.serve_keepsMoney _ _ _ fun q _ args => q.slotUnbind_keepsMoney args
  | sectorRead => exact p.serve_keepsMoney _ _ _ fun q tag args => .of_ledger (q.sectorRead_ledger tag args)
  | readCancel => exact p.serve_keepsMoney _ _ _ fun q _ args => .of_ledger (q.readCancel_ledger args)
  | sectorAttemptStart => exact .of_ledger p.beginSector_ledger
  | orderOpen => exact p.serve_keepsMoney _ _ _ fun q _ args => q.orderOpen_keepsMoney args
  | itemAdd => exact p.serve_keepsMoney _ _ _ fun q _ args => q.itemAdd_keepsMoney args
  | itemWithdraw => exact p.serve_keepsMoney _ _ _ fun q _ args => q.itemWithdraw_keepsMoney args
  | orderCommit => exact p.serve_keepsMoney _ _ _ fun q _ args => q.orderCommit_keepsMoney args
  | orderCancel => exact p.serve_keepsMoney _ _ _ fun q _ args => q.orderCancel_keepsMoney args
  | orderResume => exact p.serve_keepsMoney _ _ _ fun q _ args => q.orderResume_keepsMoney args
  | orderRead => exact p.serve_keepsMoney _ _ _ fun q _ args => .of_ledger (q.orderRead_ledger args)
  | orderRelease => exact p.serve_keepsMoney _ _ _ fun q _ args => q.orderRelease_keepsMoney args
  | pulseAssert ch ms => exact p.pulseRises_keepsMoney ch ms
  | pulseEnd ch ms => exact p.pulseFalls_keepsMoney ch ms
  | pulseJam ch => exact p.pulseJams_keepsMoney ch
  | trainGapExpiry ch => exact p.gapExpires_keepsMoney ch
  | focusSet => exact p.serve_keepsMoney _ _ _ fun q _ args => .of_ord (q.focusSet_ord args)
  | focusClear | tallyRead | tallyClear => exact p.serve_keepsMoney _ _ _ fun q _ _ => .of_ord rfl
  | channelReset ms => exact p.serve_keepsMoney _ _ _ fun q _ args => q.channelReset_keepsMoney ms args
  | poolApply => exact p.serve_keepsMoney _ _ _ fun q _ args => q.poolApply_keepsMoney args
  | poolPayout => exact p.serve_keepsMoney _ _ _ fun q _ args => .of_ord (q.poolPayout_ord args)
  | cardAuthorize => exact p.serve_keepsMoney _ _ _ fun q _ args => q.cardAuthorize_keepsMoney args
  | cashlessMessageSent => exact .of_ord rfl
  | approved b =>
    split
    · exact (Part.takeApproved_keepsMoney _ _ _).after rfl
    · exact .refl p
  | declined b =>
    split
    · exact (Part.takeDeclined_keepsMoney _ _ _).after rfl
    · exact .refl p
  | captured b =>
    split
    · exact (Part.takeCaptured_keepsMoney _ _).after rfl
    · exact .refl p
  | released b =>
    split
    · exact (Part.takeReleased_keepsMoney _ _).after rfl
    · exact .refl p
  | unknownTerminalMessage b | cashlessCheckDiscard b => split <;> exact .of_ord rfl
  | cashlessGapExpiry => split <;> exact .of_ord rfl
  | cashlessStopBitError => exact .of_ord rfl
  | authorizeTimeout =>
    split
    · exact p.authTimesOut_keepsMoney _
    · exact .refl p
  | settlementOpTimeout =>
    split
    · exact p.settlementEnds_keepsMoney _ (.inr (.inr rfl)) _ _
    · exact p.settlementEnds_keepsMoney _ (.inr (.inr rfl)) _ _
    · exact .refl p
  | lateReleaseTimeout =>
    split
    · exact p.endOp_keepsMoney.captured .cashlessUnconfirmed
    · exact .refl p
  | bandTake => exact p.takeBand_keepsMoney
  | regionOpen => exact p.serve_keepsMoney _ _ _ fun q _ args => .of_ledger (q.regionOpen_ledger args)
  | regionClose => exact p.serve_keepsMoney _ _ _ fun q _ args => .of_ledger (q.regionClose_ledger args)
  | spoolGrant pick => exact .of_ledger (p.grant_ledger pick)
  | spoolAccessDone =>
    split
    · exact p.accessDone_keepsMoney _
    · exact .refl p
  | engineOnline => exact p.serve_keepsMoney _ _ _ fun q _ args => q.engineOnline_keepsMoney args
  | engineOffline => exact p.serve_keepsMoney _ _ _ fun q _ args => q.engineOffline_keepsMoney args
  | engineClear => exact p.serve_keepsMoney _ _ _ fun q _ args => q.engineClear_keepsMoney args
  | mediaSet => exact p.serve_keepsMoney _ _ _ fun q _ args => q.mediaSet_keepsMoney args
  | drawComplete e =>
    split
    · exact (Part.KeepsMoney.refl p).modEng e _
    · exact .refl p
  | panelMotionComplete e panelTemp lineTemp =>
    split
    · exact p.panelReady_keepsMoney e _ panelTemp lineTemp
    · exact .refl p
  | motionTimeout e =>
    split
    · exact p.faultPrinting_keepsMoney e .paperJam
    · exact .refl p
  | sensorFaultCondition e report => exact p.sensorChange_keepsMoney e report
  | thermistorSample e temp => exact p.sample_keepsMoney e temp
  | strobePassDone e lineTemp => exact p.passDone_keepsMoney e lineTemp
  | ejectComplete e =>
    split
    · exact p.copyEjected_keepsMoney e _
    · exact .refl p
  | linkByteReceived b => exact .of_ord rfl
  | cashlessByteReceived b => exact .of_ord rfl
  | abortEjectComplete e =>
    split
    · exact Part.walkIf_keepsMoney (p.afterEject_keepsMoney e)
    · exact .refl p

/-- Settles O59: a step idles or carries a command out, and no command takes an order beyond its funds. -/
theorem ordersStayWithinTheirFunds : Obligations.OrdersStayWithinTheirFunds := by
  unfold Obligations.OrdersStayWithinTheirFunds
  intro s t held ht
  unfold step at ht
  split at ht
  · cases ht
    exact held
  · obtain ⟨rfl, -, -⟩ | ⟨rfl, -, -⟩ := exec_next ht
    · exact runOf_keepsMoney _ s.toPart held
    · exact held

end Sys2Proof.Machine
end

section
/-! PROOFS. The invariants at reset (R92, R119, R153, 13.4). -/

set_option Elab.async false

open Sys2Proof Sys2Proof.Machine

namespace Sys2Proof.Machine

/-- After reset no order is live, so nothing is counted and no funds are held. -/
theorem State.reset_orders (k : Fin 32) : State.reset.ord.orders[k] = none := by simp [State.reset, OrderTable.reset]

theorem State.reset_tablesSized : State.reset.tablesSized := by
  refine ⟨fun k => ?_, fun e => ?_⟩
  · have tones : State.reset.rin.tones[k] = toneReset := by simp [State.reset, RasterIntake.reset]
    rw [tones]
    exact toneReset_shape.1
  · rw [State.reset_eng]
    exact List.length_replicate

theorem State.reset_tallyHolds : State.reset.tallyHolds := by
  have none_open : (State.reset.ord.orders.toList.map openCash).sum = 0 := by
    simp [State.reset, OrderTable.reset, openCash]
  unfold State.tallyHolds
  rw [none_open]
  rfl

/-- Settles O4: the spool is empty, each table has its full length, and no order is live. -/
theorem invariantsHoldAtReset : Obligations.InvariantsHoldAtReset := by
  refine ⟨rfl, State.reset_tablesSized, State.reset_tallyHolds, fun k o live => ?_⟩
  rw [State.reset_orders] at live
  exact nomatch live

end Sys2Proof.Machine
end

section
/-! PROOFS. The end of an AUTHORIZE: its answer, its timeout, and the answers that come after it (R131 to R133, R136). -/

set_option Elab.async false

open Sys2Proof Sys2Proof.Machine

namespace Sys2Proof.Machine

/-! ### The messages of the terminal (13.5) -/

theorem le4_value {n : Nat} (h : n < 4294967296) :
    (byte n).toNat + 256 * (byte (n / 256)).toNat
      + 65536 * ((byte (n / 65536)).toNat + 256 * (byte (n / 16777216)).toNat) = n := by
  simp only [byte, BitVec.toNat_ofNat]
  omega

/-- A message whose body has the length of its type is taken whole (R127, R193). -/
theorem State.Heard.isMessage_of_length {s : State} {type b : Byte} {body : List Byte} (h : s.Heard type body b)
    (ht : terminalBody type = some (byte body.length).toNat) : s.clc.rx.isMessage b type = true := by
  simp only [Receiver.isMessage, Receiver.ends, h.sum, h.bytes, h.check, ht, beq_self_eq_true, List.head?_cons,
    Bool.true_and]
  exact beq_self_eq_true _

theorem State.exec_approved {s : State} {b : Byte} {ref amount : Nat} (h : s.Heard 0x81 (le2 ref ++ le4 amount) b)
    (hr : ref < 65536) (ha : amount < 4294967296) :
    exec (.approved b) s = .next { s with toPart := (s.toPart.setRx Receiver.hunt).takeApproved ref amount } := by
  have names : u16 s.clc.rx.bytes 2 = ref := by
    rw [h.bytes]
    exact le2_value hr
  have carries : u32 s.clc.rx.bytes 4 = amount := by
    rw [h.bytes]
    exact le4_value ha
  rw [exec_running (c := .approved b) h.running nofun]
  simp only [runOf, h.isMessage_of_length rfl, names, carries, if_true]

theorem State.exec_declined {s : State} {b : Byte} {ref reason : Nat} (h : s.Heard 0x82 (le2 ref ++ [byte reason]) b)
    (hr : ref < 65536) (hn : reason < 256) :
    exec (.declined b) s = .next { s with toPart := (s.toPart.setRx Receiver.hunt).takeDeclined ref reason } := by
  have names : u16 s.clc.rx.bytes 2 = ref := by
    rw [h.bytes]
    exact le2_value hr
  have gives : u8 s.clc.rx.bytes 4 = reason := by
    rw [h.bytes]
    exact (BitVec.toNat_ofNat reason 8).trans (Nat.mod_eq_of_lt hn)
  rw [exec_running (c := .declined b) h.running nofun]
  simp only [runOf, h.isMessage_of_length rfl, names, gives, if_true]

theorem State.exec_authorizeTimeout {s : State} {x : Outstanding} (hr : s.inReset = false)
    (hx : s.clc.outstanding = some x) (ht : x.timer ≠ none) (hk : x.op.kind = .authorize) :
    exec .authorizeTimeout s = .next { s with toPart := s.toPart.authTimesOut x.op.ref } := by
  rw [exec_running (c := .authorizeTimeout) hr nofun]
  simp only [runOf, Part.timedOp_eq (p := s.toPart) hx ht]
  obtain ⟨⟨kind, ref, amount⟩, timer⟩ := x
  obtain rfl : kind = .authorize := hk
  rfl

/-! ### An AUTHORIZE that ends (R131 to R133) -/

/-- An order that neither is committed nor wants to be cancelled does not settle (R99). -/
theorem Part.maySettle_uncommitted (p : Part) {o : Order} (hs : o.state ≠ .committed) (hc : o.cancel = false) :
    p.maySettle o = false := by
  simp only [Part.maySettle, hc, beq_eq_false_iff_ne.mpr hs, Bool.false_and, Bool.or_self]

/-- The order is not to settle, as it stands or while one of its items still works (R99). -/
def Part.StaysUnsettled (p : Part) (o : Order) : Prop :=
  (o.state ≠ .committed ∧ o.cancel = false)
    ∨ ∃ id ∈ o.items, ∃ it, p.ord.items[id] = some it ∧ it.state.terminal = false

theorem Part.StaysUnsettled.maySettle {p : Part} {o : Order} (h : p.StaysUnsettled o) : p.maySettle o = false := by
  obtain ⟨hs, hc⟩ | ⟨id, hid, it, hit, hw⟩ := h
  · exact p.maySettle_uncommitted hs hc
  · exact Part.maySettle_working hid hit hw

section
variable {s : State} {k : Fin 32} {o : Order} (hq : s.clc.queue = []) (ho : s.ord.orders[k] = some o)
  (rests : s.toPart.StaysUnsettled o)
include hq ho rests

/-- An AUTHORIZE ends without an approval, and the order's record takes the outcome (R132, R133). -/
theorem State.authEnds_eq (st : CashlessState) (why : Option Nat) :
    ({ s with toPart := s.toPart.authEnds k st why } : State)
      = (s.operationEnded.withOrder k { o with cashless := { o.cashless with state := st, reason := why } }).captured
          .authResult := by
  let o' : Order := { o with cashless := { o.cashless with state := st, reason := why } }
  let u : State := (s.operationEnded.withOrder k o').captured .authResult
  have idle : s.toPart.endOp = s.operationEnded.toPart := Part.endOp_idle hq
  have ended : (s.toPart.endOp.modCashless k fun c => { c with state := st, reason := why }).capture .authResult
      = u.toPart := by
    rw [idle, Part.modCashless, Part.modOrder_eq (p := s.operationEnded.toPart) ho]
    rfl
  have own : u.ord.orders[k] = some o' := Vector.getElem_set_self _
  have unsettled : u.toPart.checkSettling k = u.toPart := by
    refine Part.checkSettling_rests fun o₁ h₁ => ?_
    cases own.symm.trans h₁
    exact Part.StaysUnsettled.maySettle (p := u.toPart) rests
  rw [Part.authEnds, ended, unsettled]
  rfl

/-- An AUTHORIZE ends with an approval: the order holds the amount, and may be funded by it (R93, R98, R131). -/
theorem State.authApproved_eq (walks : s.ord.release = []) (amount : Nat) :
    let a := min amount o.cashless.requested
    let u := (s.operationEnded.withOrder k
      { o with cardAuth := a, cashless := { o.cashless with state := .approved, approved := a } }).captured .authResult
    ({ s with toPart := s.toPart.authApproved k o amount } : State)
      = if o.state = .committed ∧ o.cancel = false ∧ o.cashIn + o.cardAuth < o.total ∧ o.total ≤ o.cashIn + a
        then u.captured .orderFunded else u := by
  intro a u
  let o' : Order := { o with cardAuth := a, cashless := { o.cashless with state := .approved, approved := a } }
  have own : u.ord.orders[k] = some o' := Vector.getElem_set_self _
  have idle : s.toPart.endOp = s.operationEnded.toPart := Part.endOp_idle hq
  have ended : (s.toPart.endOp.modOrder k fun o => { o with
      cardAuth := a, cashless := { o.cashless with state := .approved, approved := a } }).capture .authResult
      = u.toPart := by
    rw [idle, Part.modOrder_eq (p := s.operationEnded.toPart) ho]
    rfl
  have funds : (u.toPart.orderFunded k && !s.toPart.orderFunded k) = true
      ↔ o.state = .committed ∧ o.cancel = false ∧ o.cashIn + o.cardAuth < o.total ∧ o.total ≤ o.cashIn + a := by
    have before : s.toPart.orderFunded k = o.isFunded := by rw [Part.orderFunded, ho]
    have after : u.toPart.orderFunded k = o'.isFunded := by rw [Part.orderFunded, own]
    rw [before, after]
    simp only [Order.isFunded, o', Bool.and_eq_true, beq_iff_eq, Bool.not_eq_true', decide_eq_true_eq]
    grind
  have settles (v : State) (hv : v.ord = u.ord) : v.toPart.walk.checkSettling k = v.toPart := by
    have still : v.toPart.walk = v.toPart := Part.walk_nil ((congrArg OrderTable.release hv).trans walks)
    rw [still]
    refine Part.checkSettling_rests fun o₁ h₁ => ?_
    rw [hv] at h₁
    cases own.symm.trans h₁
    refine Part.StaysUnsettled.maySettle (p := v.toPart) ?_
    rw [Part.StaysUnsettled, hv]
    exact rests
  rw [Part.authApproved, ended, Part.fundedCheck]
  simp only [funds]
  split
  · exact congrArg (fun p => ({ s with toPart := p } : State)) (settles (u.captured .orderFunded) rfl)
  · exact congrArg (fun p => ({ s with toPart := p } : State)) (settles u rfl)

end

/-! ### A late approval (R133) -/

/-- The record of an order that has had its late approval (R133). -/
def Order.lateNoted (o : Order) : Order := { o with cashless := { o.cashless with lateSeen := true } }

/-- A late approval whose release joins the operation queue (R133). -/
theorem Part.lateApproval_queued {p : Part} {k : Fin 32} {o : Order} (ho : p.ord.orders[k] = some o) (ref : Nat)
    (room : p.clc.queue.length < 8) :
    p.lateApproval k ref
      = Part.joinOp
          { p with
            ord := { p.ord with orders := p.ord.orders.set k (some o.lateNoted) }, svc := p.svc.capture .lateApproval }
          { kind := .lateRelease, ref := ref, amount := 0 } := by
  refine (if_pos room).trans (congrArg (Part.joinOp · _) ?_)
  exact Part.modOrder_eq (p := p.capture .lateApproval) ho _

/-- A late approval whose release waits in the late list (R133). -/
theorem Part.lateApproval_listed {p : Part} {k : Fin 32} {o : Order} (ho : p.ord.orders[k] = some o) (ref : Nat)
    (full : 8 ≤ p.clc.queue.length) (room : p.clc.late.length < 8) :
    p.lateApproval k ref
      = { p with
          ord := { p.ord with orders := p.ord.orders.set k (some o.lateNoted) }, svc := p.svc.capture .lateApproval
          clc := { p.clc with late := p.clc.late ++ [ref] } } := by
  refine (if_neg full.not_gt).trans ((if_pos room).trans ?_)
  let listed : Part := { p.capture .lateApproval with clc := { p.clc with late := p.clc.late ++ [ref] } }
  exact Part.modOrder_eq (p := listed) ho _

/-- A late approval for which neither list has room is stray (R133, R136). -/
theorem Part.lateApproval_stray (p : Part) (k : Fin 32) (ref : Nat) (full : 8 ≤ p.clc.queue.length)
    (full' : 8 ≤ p.clc.late.length) : p.lateApproval k ref = (p.capture .lateApproval).stray :=
  (if_neg full.not_gt).trans (if_neg full'.not_gt)

/-- An operation that joins the queue behind an outstanding one waits there (R129). -/
theorem Part.joinOp_waits {p : Part} (h : p.clc.outstanding ≠ none) (op : CashlessOp) :
    p.joinOp op = { p with clc := { p.clc with queue := p.clc.queue ++ [op] } } := by
  obtain ⟨frame, -, clc⟩ := Part.joinOp_frame (.inl h) op
  rw [frame, clc h]

/-- An operation that joins an idle interface is sent at once (R129). -/
theorem Part.joinOp_sent {p : Part} (hq : p.clc.queue = []) (hx : p.clc.outstanding = none) (hw : p.ord.waiting = [])
    (hl : p.clc.late = []) (op : CashlessOp) :
    p.joinOp op = { p with clc := { p.clc with outstanding := some { op := op, timer := none } } } := by
  simp only [Part.joinOp, Part.pump, hq, hx, hw, hl, List.nil_append]

/-! ### Which message does what (R131 to R133, R136) -/

section
variable {p : Part} {ref : Nat}

theorem Part.takeApproved_unknown (h : p.orderIdx ref = none) (amount : Nat) : p.takeApproved ref amount = p.stray := by
  simp only [Part.takeApproved, Part.liveOrder_none h]

theorem Part.takeDeclined_unknown (h : p.orderIdx ref = none) (reason : Nat) : p.takeDeclined ref reason = p.stray := by
  simp only [Part.takeDeclined, Part.liveOrder_none h]

variable {k : Fin 32} {o : Order} (hk : p.orderIdx ref = some k) (ho : p.ord.orders[k] = some o)
include hk ho

theorem Part.takeApproved_pending (pending : o.cashless.state = .pending) (waits : p.waitsFor .authorize ref = true)
    (amount : Nat) :
    p.takeApproved ref amount = if amount = 0 then p.authEnds k .declined none else p.authApproved k o amount := by
  simp only [Part.takeApproved, Part.liveOrder_eq hk ho, pending, waits, if_true]

theorem Part.takeDeclined_pending (pending : o.cashless.state = .pending) (waits : p.waitsFor .authorize ref = true)
    (reason : Nat) : p.takeDeclined ref reason = p.authEnds k .declined (some reason) := by
  simp only [Part.takeDeclined, Part.liveOrder_eq hk ho, pending, waits, if_true]

theorem Part.authTimesOut_pending (pending : o.cashless.state = .pending) :
    p.authTimesOut ref = p.authEnds k .timedOut o.cashless.reason := by
  simp only [Part.authTimesOut, Part.liveOrder_eq hk ho, pending, beq_self_eq_true, if_true]

theorem Part.takeApproved_timedOut (timedOut : o.cashless.state = .timedOut) (amount : Nat) :
    p.takeApproved ref amount = if o.cashless.lateSeen = true then p.stray else p.lateApproval k ref := by
  simp only [Part.takeApproved, Part.liveOrder_eq hk ho, timedOut]

theorem Part.takeDeclined_timedOut (timedOut : o.cashless.state = .timedOut) (reason : Nat) :
    p.takeDeclined ref reason = p := by
  simp only [Part.takeDeclined, Part.liveOrder_eq hk ho, timedOut]

end

/-- Settles O49: each message is looked up by the number it carries, and what it does follows the record's cashless state. -/
theorem authorizationsEnd : Obligations.AuthorizationsEnd := by
  unfold Obligations.AuthorizationsEnd
  intro s b ref amount reason hr ha hn approves declines t
  have approved (h : approves) : exec (.approved b) s = .next { s with toPart := t.toPart.takeApproved ref amount } :=
    State.exec_approved h hr ha
  have declined (h : declines) : exec (.declined b) s = .next { s with toPart := t.toPart.takeDeclined ref reason } :=
    State.exec_declined h hr hn
  refine ⟨fun unknown => ⟨fun h => ?_, fun h => ?_⟩, fun k o hk ho => ?_⟩
  · rw [approved h, Part.takeApproved_unknown (p := t.toPart) unknown]
    rfl
  · rw [declined h, Part.takeDeclined_unknown (p := t.toPart) unknown]
    rfl
  intro cl ends
  refine ⟨fun x hx hkind href hq pending walks rests => ?_, fun timedOut => ?_⟩
  · have waits : t.toPart.waitsFor .authorize ref = true := by
      rw [Part.waitsFor_eq (p := t.toPart) hx, hkind, href, beq_self_eq_true, beq_self_eq_true, Bool.and_self]
    have answer := Part.takeApproved_pending (p := t.toPart) hk ho pending waits amount
    refine ⟨fun h positive => ?_, fun h zero => ?_, fun h => ?_, fun running timed => ?_⟩
    · rw [approved h, answer, if_neg (Nat.ne_of_gt positive)]
      exact congrArg _ (State.authApproved_eq (s := t) hq ho rests walks amount)
    · rw [approved h, answer, if_pos zero]
      exact congrArg _ (State.authEnds_eq (s := t) hq ho rests ..)
    · rw [declined h, Part.takeDeclined_pending (p := t.toPart) hk ho pending waits]
      exact congrArg _ (State.authEnds_eq (s := t) hq ho rests ..)
    · rw [State.exec_authorizeTimeout running hx timed hkind, href, Part.authTimesOut_pending hk ho pending]
      exact congrArg _ (State.authEnds_eq hq ho rests ..)
  · intro late op
    have answer := Part.takeApproved_timedOut (p := t.toPart) hk ho timedOut amount
    have first (h : approves) (unseen : o.cashless.lateSeen = false) {q : Part} (owes : t.toPart.lateApproval k ref = q) :
        exec (.approved b) s = .next { s with toPart := q } := by
      rw [approved h, answer, if_neg (ne_true_of_eq_false unseen), owes]
    have joins (room : s.clc.queue.length < 8) :
        t.toPart.lateApproval k ref = (late.captured .lateApproval).toPart.joinOp op :=
      Part.lateApproval_queued (p := t.toPart) ho ref room
    refine ⟨fun h => ?_, fun h seen => ?_, fun h unseen room busy => ?_,
      fun h unseen empty idle none_waits none_late => ?_, fun h unseen full room => ?_, fun h unseen full full' => ?_⟩
    · rw [declined h, Part.takeDeclined_timedOut (p := t.toPart) hk ho timedOut]
      rfl
    · rw [approved h, answer, if_pos seen]
      rfl
    · exact first h unseen
        ((joins room).trans (Part.joinOp_waits (p := (late.captured .lateApproval).toPart) busy op))
    · have room : s.clc.queue.length < 8 := by simp [empty]
      exact first h unseen ((joins room).trans
        (Part.joinOp_sent (p := (late.captured .lateApproval).toPart) empty idle none_waits none_late op))
    · exact first h unseen (Part.lateApproval_listed (p := t.toPart) ho ref full room)
    · exact first h unseen (t.toPart.lateApproval_stray k ref full full')

end Sys2Proof.Machine
end

section
/-! PROOFS. What the tally has counted beside kept, the pool and the cash of the open orders (R119), under the shared
operations: none of them changes it, and a closing order hands its cash to kept and the pool (R100, R102, R120). -/

set_option Elab.async false

open Sys2Proof Sys2Proof.Machine

namespace Sys2Proof.Machine

/-! ### The surplus of the tally -/

/-- What PAY has counted beyond kept, the pool and the cash of the open orders among `v` (R119). -/
def Payment.surplus (y : Payment) (v : Vector (Option Order) 32) : Int :=
  (y.counted : Int) - y.kept - y.pool - (v.toList.map openCash).sum

/-- The surplus of a part: 0 while its tally is balanced (R119). -/
def Part.surplus (p : Part) : Int := p.pay.surplus p.ord.orders

theorem State.tallyHolds_iff (s : State) : s.tallyHolds ↔ s.toPart.surplus = 0 := by
  unfold State.tallyHolds Part.surplus Payment.surplus
  omega

theorem Part.surplus_of_ledger {p q : Part} (h : q.ledger = p.ledger) : q.surplus = p.surplus :=
  congrArg (fun x : OrderTable × Payment => x.2.surplus x.1.orders) h

/-- One record is written: what it held leaves the open cash, and what it now holds joins it. -/
theorem Payment.surplus_set (y : Payment) (v : Vector (Option Order) 32) (k : Fin 32) (x : Option Order) :
    y.surplus (v.set k x) = y.surplus v + openCash v[k] - openCash x := by
  have own : (v.toList.map openCash).set k (openCash v[k]) = v.toList.map openCash := by
    rw [← List.map_set, ← Vector.toList_set k.isLt]
    exact congrArg (fun v : Vector (Option Order) 32 => v.toList.map openCash) (set_self v k)
  have before := List.sum_set (v.toList.map openCash) k (openCash v[k])
  have after := List.sum_set (v.toList.map openCash) k (openCash x)
  have live : k.val < (v.toList.map openCash).length := by
    rw [List.length_map, Vector.length_toList]
    exact k.isLt
  rw [own, if_pos live] at before
  rw [if_pos live] at after
  unfold Payment.surplus
  rw [Vector.toList_set, List.map_set]
  omega

/-- A record is changed where it is live, and its open cash is not. -/
theorem Part.modOrder_surplus {p : Part} {k : Fin 32} {f : Order → Order}
    (h : ∀ o, p.ord.orders[k] = some o → openCash (some (f o)) = openCash (some o)) :
    (p.modOrder k f).surplus = p.surplus := by
  have same : openCash ((p.ord.orders[k]).map f) = openCash p.ord.orders[k] := by
    cases ho : p.ord.orders[k] with
    | none => rfl
    | some o => exact h o ho
  refine (p.pay.surplus_set p.ord.orders k _).trans ?_
  rw [same, add_sub_cancel_right]
  rfl

/-- The cash of an order that is not CLOSED is open cash (R119). -/
theorem openCash_live {o : Order} (h : o.state ≠ .closed) : openCash (some o) = o.cashIn :=
  if_neg (mt beq_iff_eq.mp h)

@[simp] theorem Part.capture_surplus (p : Part) (k : CaptureKind) : (p.capture k).surplus = p.surplus := rfl
@[simp] theorem Part.modItem_surplus (p : Part) (id : Fin 64) (f : Item → Item) :
    (p.modItem id f).surplus = p.surplus := rfl
@[simp] theorem Part.modEng_surplus (p : Part) (e : EngineId) (f : Engine → Engine) :
    (p.modEng e f).surplus = p.surplus :=
  Part.surplus_of_ledger (p.modEng_ledger e f)

theorem foldl_surplus {α : Type} {f : Part → α → Part} (h : ∀ p x, (f p x).surplus = p.surplus) (l : List α) (p : Part) :
    (l.foldl f p).surplus = p.surplus := foldl_reads h l p

/-! ### The cashless operation queue -/

@[simp] theorem Part.modCashless_surplus (p : Part) (k : Fin 32) (f : Cashless → Cashless) :
    (p.modCashless k f).surplus = p.surplus := Part.modOrder_surplus fun _ _ => rfl

@[simp] theorem Part.markHanded_surplus (p : Part) (op : CashlessOp) : (p.markHanded op).surplus = p.surplus := by
  unfold Part.markHanded
  split
  · exact Part.modOrder_surplus fun _ _ => rfl
  · rfl

@[simp] theorem Part.pump_surplus (p : Part) : p.pump.surplus = p.surplus := by
  unfold Part.pump
  split
  · dsimp only
    split
    · exact Part.markHanded_surplus _ _
    · rfl
    · rfl
  · rfl

@[simp] theorem Part.joinOp_surplus (p : Part) (op : CashlessOp) : (p.joinOp op).surplus = p.surplus :=
  Part.pump_surplus _

@[simp] theorem Part.endOp_surplus (p : Part) : p.endOp.surplus = p.surplus := Part.pump_surplus _

@[simp] theorem Part.handOp_surplus (p : Part) (op : CashlessOp) : (p.handOp op).surplus = p.surplus := by
  unfold Part.handOp
  split
  · exact (Part.joinOp_surplus _ op).trans (p.markHanded_surplus op)
  · rfl

/-! ### Settlement -/

@[simp] theorem Part.loseFocus_surplus (p : Part) (n : Nat) : (p.loseFocus n).surplus = p.surplus := by
  rw [Part.loseFocus_eq]
  rfl

@[simp] theorem Part.dropBinding_surplus (p : Part) (k : Fin 32) : (p.dropBinding k).surplus = p.surplus := by
  unfold Part.dropBinding
  split
  · split
    · exact (Part.surplus_of_ledger (Part.releaseSlot_ledger _ _)).trans (Part.modOrder_surplus fun _ _ => rfl)
    · rfl
  · rfl

/-- The cash of a closing order goes to kept, as far as it was used, and its change to the pool (R100, R102, R120). -/
@[simp] theorem Part.closeOrder_surplus (p : Part) (k : Fin 32) (captured : Option Nat) :
    (p.closeOrder k captured).surplus = p.surplus := by
  by_cases settling : ∃ o, p.ord.orders[k] = some o ∧ o.state = .settling
  · obtain ⟨o, ho, hs⟩ := settling
    let y : Payment := { p.pay with kept := p.pay.kept + o.cashUsed, pool := p.pay.pool + o.changeDue }
    have whole : (o.cashUsed : Int) + o.changeDue = o.cashIn := by
      unfold Order.changeDue Order.cashUsed
      omega
    have paid : y.surplus p.ord.orders = p.surplus - o.cashIn := by
      simp only [y, Payment.surplus, Part.surplus]
      omega
    have closed : openCash (some { o with state := .closed, captured := captured }) = 0 := rfl
    rw [Part.closeOrder_settling ho hs, Part.dropBinding_surplus, Part.capture_surplus, Part.loseFocus_surplus]
    refine (y.surplus_set p.ord.orders k _).trans ?_
    rw [ho, openCash_live (by rw [hs]; decide), closed, paid]
    omega
  · have stays : p.closeOrder k captured = p := by
      unfold Part.closeOrder
      split
      next o ho => exact if_neg fun hs => settling ⟨o, ho, beq_iff_eq.mp hs⟩
      next => rfl
    rw [stays]

/-- An order that is not CLOSED enters SETTLING (R99). -/
theorem Part.enterSettling_surplus {p : Part} {k : Fin 32} {o : Order} (ho : p.ord.orders[k] = some o)
    (unclosed : o.state ≠ .closed) : (p.enterSettling k).surplus = p.surplus := by
  have entered : (p.unfocusing k o).surplus = p.surplus := by
    refine (Payment.surplus_set _ p.ord.orders k _).trans ?_
    rw [ho, openCash_live unclosed, show openCash (some (o.entering)) = o.cashIn from rfl]
    exact add_sub_cancel_right _ _
  rw [Part.enterSettling_unfocused ho]
  split
  · exact (Part.closeOrder_surplus _ k _).trans entered
  · exact (Part.handOp_surplus _ _).trans entered

/-- Only an order that is not CLOSED settles (R99). -/
theorem Part.open_of_maySettle {p : Part} {o : Order} (h : p.maySettle o = true) : o.state ≠ .closed := by
  intro closed
  simp [Part.maySettle, closed] at h

@[simp] theorem Part.checkSettling_surplus (p : Part) (k : Fin 32) : (p.checkSettling k).surplus = p.surplus := by
  unfold Part.checkSettling
  split
  next o ho =>
    split
    next settles => exact Part.enterSettling_surplus ho (Part.open_of_maySettle settles)
    next => rfl
  next => rfl

@[simp] theorem Part.checkItemOrder_surplus (p : Part) (id : Fin 64) : (p.checkItemOrder id).surplus = p.surplus := by
  unfold Part.checkItemOrder
  split
  · exact p.checkSettling_surplus _
  · rfl

@[simp] theorem Part.fundedCheck_surplus (p : Part) (k : Fin 32) (before : Bool) :
    (p.fundedCheck k before).surplus = p.surplus := by
  unfold Part.fundedCheck
  split <;> rfl

/-! ### Withdrawal and faults -/

@[simp] theorem Part.reverse_surplus (p : Part) (id : Fin 64) : (p.reverse id).surplus = p.surplus := by
  unfold Part.reverse
  split
  · split
    · exact (Part.modItem_surplus _ id _).trans (Part.modOrder_surplus fun _ _ => rfl)
    · rfl
  · rfl

@[simp] theorem Part.leaveQueues_surplus (p : Part) (id : Fin 64) : (p.leaveQueues id).surplus = p.surplus := rfl

@[simp] theorem Part.clearHolder_surplus (p : Part) (id : Fin 64) : (p.clearHolder id).surplus = p.surplus := by
  unfold Part.clearHolder
  split <;> rfl

@[simp] theorem Part.withdrawItem_surplus (p : Part) (id : Fin 64) (reason : Option FailReason) :
    (p.withdrawItem id reason).surplus = p.surplus := by
  cases hit : p.ord.items[id] with
  | none => simp only [Part.withdrawItem, hit]
  | some it =>
    rw [Part.withdrawItem_eq hit]
    exact Part.modOrder_surplus (p := p) (k := it.order) (f := it.resetCharge) fun _ _ => rfl

@[simp] theorem Part.withdrawReturned_surplus (p : Part) (id : Fin 64) :
    (p.withdrawReturned id).surplus = p.surplus := by
  simp [Part.withdrawReturned]

@[simp] theorem Part.enterFault_surplus (p : Part) (e : EngineId) (k : FaultKind) :
    (p.enterFault e k).surplus = p.surplus := by cases e <;> rfl

@[simp] theorem Part.returnItems_surplus (p : Part) (e : EngineId) (ids : List (Fin 64)) :
    (p.returnItems e ids).surplus = p.surplus := by
  refine (foldl_surplus Part.withdrawReturned_surplus _ _).trans ?_
  exact (foldl_surplus (f := Part.respool) (fun _ _ => rfl) _ _).trans (p.modEng_surplus e _)

@[simp] theorem Part.failItem_surplus (p : Part) (id : Fin 64) : (p.failItem id).surplus = p.surplus := by
  simp [Part.failItem]

@[simp] theorem Part.faultCore_surplus (p : Part) (e : EngineId) (k : FaultKind) (copyFails : Bool) :
    (p.faultCore e k copyFails).1.surplus = p.surplus := by
  simp only [Part.faultCore]
  split
  · split <;> simp
  · simp

/-! ### Copies and the release walk -/

@[simp] theorem Part.loadStart_surplus (p : Part) (e : EngineId) : (p.loadStart e).1.surplus = p.surplus := by
  simp only [Part.loadStart]
  split
  · simp
  · split <;> simp

@[simp] theorem Part.beginCopy_surplus (p : Part) (e : EngineId) : (p.beginCopy e).1.surplus = p.surplus := by
  unfold Part.beginCopy
  split
  · split
    · simp
    · refine (Part.loadStart_surplus _ e).trans ?_
      split <;> simp
  · rfl

@[simp] theorem Part.enterIdle_surplus (p : Part) (e : EngineId) : (p.enterIdle e).1.surplus = p.surplus := by
  simp only [Part.enterIdle]
  split <;> simp

@[simp] theorem Part.resumeIdle_surplus (p : Part) (e : EngineId) : (p.resumeIdle e).surplus = p.surplus := by
  unfold Part.resumeIdle
  split <;> simp

/-- A debit moves no cash (R96). -/
@[simp] theorem Part.releaseTo_surplus (p : Part) (id : Fin 64) (it : Item) (e : EngineId) :
    (p.releaseTo id it e).surplus = p.surplus := by
  have debit : (if it.debited then p
      else p.modOrder it.order fun o => { o with consumed := o.consumed + it.price }).surplus = p.surplus := by
    split
    · rfl
    · exact Part.modOrder_surplus fun _ _ => rfl
  exact ((Part.beginCopy_surplus _ e).trans (Part.modEng_surplus _ e _)).trans debit

@[simp] theorem Part.tryEntry_surplus (p : Part) (x : ReleaseEntry) : (p.tryEntry x).surplus = p.surplus := by
  unfold Part.tryEntry
  split
  · split
    · split
      · split <;> simp
      · rfl
    · rfl
  · rfl

@[simp] theorem Part.walk_surplus (p : Part) : p.walk.surplus = p.surplus := by
  unfold Part.walk
  split
  · rfl
  · exact foldl_surplus Part.tryEntry_surplus _ p

@[simp] theorem Part.walkIf_surplus (r : Part × Bool) : (Part.walkIf r).surplus = r.1.surplus := by
  unfold Part.walkIf
  split <;> simp

@[simp] theorem Part.faultPrinting_surplus (p : Part) (e : EngineId) (k : FaultKind) :
    (p.faultPrinting e k).surplus = p.surplus := by simp [Part.faultPrinting]

@[simp] theorem Part.lineStart_surplus (p : Part) (e : EngineId) (t : Int) : (p.lineStart e t).surplus = p.surplus := by
  simp only [Part.lineStart]
  split <;> simp

@[simp] theorem Part.afterEject_surplus (p : Part) (e : EngineId) : (p.afterEject e).1.surplus = p.surplus := by
  unfold Part.afterEject
  split <;> simp

/-! ### Waking -/

@[simp] theorem Part.wakeToLive_surplus (p : Part) : p.wakeToLive.surplus = p.surplus := by
  simp only [Part.wakeToLive, Part.wakeSlots_eq, Part.walk_surplus, Part.resumeIdle_surplus]
  rfl

@[simp] theorem Part.wakeCondition_surplus (p : Part) (w : WakeSource) : (p.wakeCondition w).surplus = p.surplus := by
  unfold Part.wakeCondition
  split
  case h_2 | h_4 => exact p.wakeToLive_surplus
  all_goals rfl

@[simp] theorem Part.raiseWake_surplus (p : Part) (w : WakeSource) : (p.raiseWake w).surplus = p.surplus := by
  simp only [Part.raiseWake]
  split
  · exact Part.wakeCondition_surplus _ w
  · rfl

@[simp] theorem Part.controlArrival_surplus (p : Part) : p.controlArrival.surplus = p.surplus := by
  unfold Part.controlArrival
  split
  case h_2 | h_3 => exact p.wakeToLive_surplus
  all_goals rfl

end Sys2Proof.Machine
end

section
/-! PROOFS. The surplus of the tally under the requests (R8, R119): a credit adds to the open cash, and the pool gives what it
pays out or what it applies (R114, R120 to R122, R124). -/

set_option Elab.async false

open Sys2Proof Sys2Proof.Machine

namespace Sys2Proof.Machine

/-! ### Postings -/

/-- Cash credited to an order that is not CLOSED is open cash (R93). -/
theorem Part.creditOrder_surplus {p : Part} {k : Fin 32} {o : Order} (ho : p.ord.orders[k] = some o)
    (unclosed : o.state ≠ .closed) (amount : Nat) : (p.creditOrder k amount).surplus = p.surplus - amount := by
  have credited : openCash (some { o with cashIn := o.cashIn + amount }) = o.cashIn + amount := openCash_live unclosed
  rw [Part.creditOrder, Part.walk_surplus, Part.fundedCheck_surplus, Part.modOrder_eq ho]
  refine (p.pay.surplus_set p.ord.orders k _).trans ?_
  rw [ho, openCash_live unclosed, credited, Part.surplus]
  omega

theorem Order.open_of_taking {o : Order} (h : o.taking = true) : o.state ≠ .closed := by
  rcases (Order.taking_iff o).mp h with h | h <;> rw [h] <;> decide

/-- A posting goes to an order that is not CLOSED (R114). -/
theorem Part.open_of_payee {p : Part} {k : Fin 32} (h : p.payee = some k) :
    ∃ o, p.ord.orders[k] = some o ∧ o.state ≠ .closed := by
  unfold Part.payee at h
  split at h
  · split at h
    next o ho =>
      split at h
      next owed =>
        obtain ⟨taking, -⟩ := Bool.and_eq_true_iff.mp owed
        cases h
        exact ⟨o, ho, Order.open_of_taking taking⟩
      next => cases h
    next => cases h
  · cases h

/-- What a posting counts goes to the focus order or to the pool (R114). -/
@[simp] theorem Part.post_surplus (p : Part) (c : Fin 6) (amount : Nat) : (p.post c amount).surplus = p.surplus := by
  have counted : Payment.surplus { p.pay with counted := p.pay.counted + amount } p.ord.orders = p.surplus + amount := by
    simp only [Part.surplus, Payment.surplus]
    omega
  unfold Part.post
  split
  · rfl
  · split
    next k payee =>
      obtain ⟨o, ho, unclosed⟩ := Part.open_of_payee payee
      dsimp only
      split
      next zero =>
        refine counted.trans ?_
        rw [zero]
        exact add_zero _
      next =>
        let q : Part := { p with pay := { p.pay with counted := p.pay.counted + amount } }
        refine (Part.creditOrder_surplus (p := q.capture .credit) ho unclosed amount).trans ?_
        show Payment.surplus { p.pay with counted := p.pay.counted + amount } p.ord.orders - amount = p.surplus
        rw [counted, add_sub_cancel_right]
    next =>
      show Payment.surplus { p.pay with counted := p.pay.counted + amount, pool := p.pay.pool + amount } p.ord.orders = _
      simp only [Part.surplus, Payment.surplus]
      omega

@[simp] theorem Part.endTrain_surplus (p : Part) (c : Fin 6) : (p.endTrain c).surplus = p.surplus := by
  unfold Part.endTrain
  split
  · exact Part.post_surplus _ c _
  · rfl

@[simp] theorem Part.endDueTrain_surplus (p : Part) (c : Fin 6) : (p.endDueTrain c).surplus = p.surplus := by
  unfold Part.endDueTrain
  split
  · split <;> simp
  · rfl

@[simp] theorem Part.jamByPulse_surplus (p : Part) (c : Fin 6) : (p.jamByPulse c).surplus = p.surplus :=
  p.endTrain_surplus c

@[simp] theorem Part.channelDue_surplus (p : Part) (c : Fin 6) : (p.channelDue c).surplus = p.surplus := by
  simp only [Part.channelDue, Part.endDueTrain_surplus]
  split
  · split <;> simp
  · rfl

/-! ### Tables and cards -/

theorem Part.writeTable_surplus (p : Part) (T : TableId) (ms first count : Nat) (bytes : List Byte) :
    (p.writeTable T ms first count bytes).surplus = p.surplus := by
  have stores (q : Part) (T : TableId) : (q.storeTable T first count bytes).surplus = q.surplus := by
    cases T with
    | energy e | params e => exact q.modEng_surplus e _
    | _ => rfl
  have due (l : List (Fin 6)) (q : Part) : (l.foldl Part.channelDue q).surplus = q.surplus :=
    foldl_surplus Part.channelDue_surplus l q
  unfold Part.writeTable
  split
  · exact (due _ _).trans ((stores _ .channels).trans (due _ _))
  · exact stores p _

theorem Part.tableWrite_surplus (p : Part) (ms : Nat) (args : List Byte) :
    (p.tableWrite ms args).part.surplus = p.surplus := by
  simp only [Part.tableWrite]
  split
  · rfl
  · split
    · rfl
    · split
      · rfl
      · exact p.writeTable_surplus _ ms _ _ _

theorem Part.slotUnbind_surplus (p : Part) (args : List Byte) : (p.slotUnbind args).part.surplus = p.surplus := by
  simp only [Part.slotUnbind]
  split
  · rfl
  · split
    · rfl
    · split
      · rfl
      · exact p.dropBinding_surplus _

/-! ### Orders and items -/

/-- A free record takes a new order, which has no cash (R71, R75). -/
theorem Part.orderOpen_surplus (p : Part) (args : List Byte) : (p.orderOpen args).part.surplus = p.surplus := by
  have opens {k : Fin 32} (hk : p.freeOrder = some k) (number : Nat) (funding : Funding) (slot : Option (Fin 4)) :
      (p.openOrder k number funding slot).part.surplus = p.surplus := by
    have free : p.ord.orders[k] = none := by
      have := List.find?_some hk
      exact Option.isNone_iff_eq_none.mp this
    have record (locked : Option Identity) :
        p.pay.surplus (p.ord.orders.set k (some (Order.opening number funding slot locked))) = p.surplus := by
      refine (p.pay.surplus_set p.ord.orders k _).trans ?_
      rw [free]
      exact add_sub_cancel_right _ _
    cases slot <;> exact record _
  simp only [Part.orderOpen]
  split
  · split
    · rfl
    · split
      · rfl
      · split
        · rfl
        next k hk =>
          split
          · exact opens hk _ _ _
          · rfl
  · rfl

theorem Part.itemAdd_surplus (p : Part) (args : List Byte) : (p.itemAdd args).part.surplus = p.surplus := by
  have adds (k : Fin 32) (o : Order) (id : Fin 64) (row : ProductRow) (code copies w l : Nat) (r : Fin 16) :
      (p.addItem k o id row code copies w l r).part.surplus = p.surplus :=
    Part.modOrder_surplus (p := p) (k := k)
      (f := fun o => { o with items := o.items ++ [id], total := o.total + row.itemPrice copies }) fun _ _ => rfl
  simp only [Part.itemAdd]
  split
  · rfl
  · split
    · rfl
    · split
      · rfl
      · split
        · rfl
        · repeat (split; · rfl)
          exact adds _ _ _ _ _ _ _ _ _

@[simp] theorem Part.withdrawWithWalk_surplus (p : Part) (id : Fin 64) :
    (p.withdrawWithWalk id).surplus = p.surplus := by
  unfold Part.withdrawWithWalk
  split
  · dsimp only
    split <;> simp
  · rfl

theorem Part.itemWithdraw_surplus (p : Part) (args : List Byte) : (p.itemWithdraw args).part.surplus = p.surplus := by
  simp only [Part.itemWithdraw]
  split
  · rfl
  · split
    · rfl
    · split <;> simp

theorem Part.orderCommit_surplus (p : Part) (args : List Byte) : (p.orderCommit args).part.surplus = p.surplus := by
  simp only [Part.orderCommit]
  split
  · rfl
  next k o live =>
    split
    · rfl
    next opened =>
      simp only [Served.done_part, Part.walk_surplus, Part.checkSettling_surplus, Part.fundedCheck_surplus]
      refine Part.modOrder_surplus fun o' ho' => ?_
      obtain rfl : o = o' := Option.some.inj ((Part.orders_of_liveOrder live).symm.trans ho')
      have state : o.state = .opened := by
        simpa using (Bool.or_eq_false_iff.mp (Bool.eq_false_iff.mpr opened)).1
      rw [openCash_live (o := o) (by rw [state]; decide)]
      rfl

theorem Part.orderCancel_surplus (p : Part) (args : List Byte) : (p.orderCancel args).part.surplus = p.surplus := by
  have item (q : Part) (id : Fin 64) : (q.cancelItem id).surplus = q.surplus := by
    unfold Part.cancelItem
    split
    · split <;> simp
    · rfl
  have cancels (k : Fin 32) (o : Order) : (p.cancelOrder k o).surplus = p.surplus :=
    (Part.checkSettling_surplus _ k).trans ((foldl_surplus item o.items _).trans (Part.modOrder_surplus fun _ _ => rfl))
  simp only [Part.orderCancel]
  split
  · rfl
  · split
    · rfl
    · split
      · rfl
      · exact cancels _ _

theorem Part.orderResume_surplus (p : Part) (args : List Byte) : (p.orderResume args).part.surplus = p.surplus := by
  simp only [Part.orderResume]
  split
  · rfl
  next k o live =>
    split
    next halted =>
      refine Part.modOrder_surplus fun o' ho' => ?_
      obtain rfl : o = o' := Option.some.inj ((Part.orders_of_liveOrder live).symm.trans ho')
      have state : o.state = .halted := beq_iff_eq.mp (Bool.and_eq_true_iff.mp halted).1
      rw [openCash_live (o := o) (by rw [state]; decide)]
      rfl
    next => rfl

/-- Only a CLOSED order's record becomes free, and the cash of such an order is not open (R84). -/
theorem Part.orderRelease_surplus (p : Part) (args : List Byte) : (p.orderRelease args).part.surplus = p.surplus := by
  simp only [Part.orderRelease]
  split
  · rfl
  next k o live =>
    split
    next closed =>
      let q := o.items.foldl Part.freeItemEntry p
      have kept : (q.pay, q.ord.orders) = (p.pay, p.ord.orders) :=
        foldl_reads (f := Part.freeItemEntry) (g := fun q => (q.pay, q.ord.orders)) (fun _ _ => rfl) o.items p
      have gone : openCash (some o) = 0 := if_pos closed
      obtain ⟨pay, orders⟩ := Prod.mk.inj kept
      refine (q.pay.surplus_set q.ord.orders k none).trans ?_
      rw [pay, orders, Part.orders_of_liveOrder live, gone]
      exact add_sub_cancel_right _ _
    next => rfl

/-! ### Cash -/

theorem Part.focusSet_surplus (p : Part) (args : List Byte) : (p.focusSet args).part.surplus = p.surplus := by
  simp only [Part.focusSet]
  split
  · rfl
  · split <;> rfl

theorem Part.channelReset_surplus (p : Part) (ms : Nat) (args : List Byte) :
    (p.channelReset ms args).part.surplus = p.surplus := by
  have reset (q : Part) (c : Fin 6) : (q.unjam c).surplus = q.surplus := by
    unfold Part.unjam
    dsimp only
    split <;> rfl
  simp only [Part.channelReset]
  split
  · rfl
  · split
    · exact (reset _ _).trans (Part.channelDue_surplus _ _)
    · rfl

/-- What leaves the pool joins the cash of an OPEN or COMMITTED order (R121). -/
theorem Part.poolApply_surplus (p : Part) (args : List Byte) : (p.poolApply args).part.surplus = p.surplus := by
  simp only [Part.poolApply]
  split
  · rfl
  next k o live =>
    split
    · rfl
    next taking =>
      split
      · rfl
      next covered =>
        split
        · rfl
        · have unclosed : o.state ≠ .closed := Order.open_of_taking (by simpa using taking)
          let q : Part := { p with pay := { p.pay with pool := p.pay.pool - u32 args 4 } }
          refine (Part.creditOrder_surplus (p := q) (Part.orders_of_liveOrder live) unclosed _).trans ?_
          simp only [q, Part.surplus, Payment.surplus]
          omega

theorem Part.cardAuthorize_surplus (p : Part) (args : List Byte) : (p.cardAuthorize args).part.surplus = p.surplus := by
  simp only [Part.cardAuthorize]
  split
  · rfl
  · repeat (split; · rfl)
    simp [Part.authorize]

/-- A balanced tally has counted at least what the pool holds, so POOL_PAYOUT takes the same from both (R122). -/
theorem Part.poolPayout_balanced {p : Part} (h : p.surplus = 0) (args : List Byte) :
    (p.poolPayout args).part.surplus = 0 := by
  simp only [Part.poolPayout]
  split
  · exact h
  · simp only [Served.done_part, Part.surplus, Payment.surplus] at h ⊢
    omega

/-- A balanced tally has counted at least what is kept (R124). -/
theorem Part.tallyClear_balanced {p : Part} (h : p.surplus = 0) : p.tallyClear.part.surplus = 0 := by
  simp only [Part.tallyClear, Served.done_part, Part.surplus, Payment.surplus] at h ⊢
  omega

/-! ### Engines -/

theorem Part.engineOnline_surplus (p : Part) (args : List Byte) : (p.engineOnline args).part.surplus = p.surplus := by
  simp only [Part.engineOnline]
  split
  · rfl
  · split
    · rfl
    · simp
    all_goals split <;> simp

theorem Part.engineOffline_surplus (p : Part) (args : List Byte) : (p.engineOffline args).part.surplus = p.surplus := by
  simp only [Part.engineOffline]
  split
  · rfl
  · split <;> simp

theorem Part.engineClear_surplus (p : Part) (args : List Byte) : (p.engineClear args).part.surplus = p.surplus := by
  have clears (e : EngineId) : (p.clearFault e).surplus = p.surplus := by
    simp only [Part.clearFault]
    split <;> simp
  simp only [Part.engineClear]
  split
  · rfl
  · split
    · split
      · rfl
      · exact clears _
    · rfl

theorem Part.mediaSet_surplus (p : Part) (args : List Byte) : (p.mediaSet args).part.surplus = p.surplus := by
  have loads (e : EngineId) (kind count : Nat) : (p.loadMedia e kind count).surplus = p.surplus := by
    simp only [Part.loadMedia]
    split <;> simp
  simp only [Part.mediaSet]
  split
  · rfl
  · repeat (split; · rfl)
    exact (Part.walk_surplus _).trans (loads _ _ _)

/-! ### The handler -/

/-- A request that the handler takes keeps the tally balanced where its owning block does (R8). -/
theorem Part.serve_balanced {p : Part} (held : p.surplus = 0) (code : Byte) (lengthOk : Nat → Bool)
    (admits : Mode → Option Status) {run : Part → Nat → List Byte → Served}
    (h : ∀ (q : Part) tag args, q.surplus = 0 → (run q tag args).part.surplus = 0) :
    (p.serve code lengthOk admits run).surplus = 0 := by
  unfold Part.serve
  split
  next e rest _ _ =>
    split
    · have taken : (p.takeRequest rest).surplus = 0 := (Part.surplus_of_ledger (p.takeRequest_ledger rest)).trans held
      show (Part.checked _ lengthOk admits e.payload _).part.surplus = 0
      unfold Part.checked
      split
      · split
        · split
          · exact taken
          · exact h _ _ _ taken
        · exact taken
      · exact taken
    · exact held
  next => exact held

/-- The same of a request whose owning block leaves the surplus as it was. -/
theorem Part.serve_keepsBalance {p : Part} (held : p.surplus = 0) (code : Byte) (lengthOk : Nat → Bool)
    (admits : Mode → Option Status) {run : Part → Nat → List Byte → Served}
    (h : ∀ (q : Part) tag args, (run q tag args).part.surplus = q.surplus) :
    (p.serve code lengthOk admits run).surplus = 0 :=
  Part.serve_balanced held code lengthOk admits fun q tag args balanced => (h q tag args).trans balanced

end Sys2Proof.Machine
end

section
/-! PROOFS. The surplus of the tally under the events, the answers of the terminal among them (R131 to R136), and under every
step (R119). -/

set_option Elab.async false

open Sys2Proof Sys2Proof.Machine

namespace Sys2Proof.Machine

/-! ### The answers of the terminal -/

@[simp] theorem Part.authEnds_surplus (p : Part) (k : Fin 32) (st : CashlessState) (reason : Option Nat) :
    (p.authEnds k st reason).surplus = p.surplus := by simp [Part.authEnds]

/-- An approval adds no cash (R131). -/
@[simp] theorem Part.authApproved_surplus (p : Part) (k : Fin 32) (o : Order) (amount : Nat) :
    (p.authApproved k o amount).surplus = p.surplus := by
  simp only [Part.authApproved, Part.checkSettling_surplus, Part.walk_surplus, Part.fundedCheck_surplus,
    Part.capture_surplus]
  refine (Part.modOrder_surplus ?_).trans p.endOp_surplus
  exact fun _ _ => rfl

@[simp] theorem Part.lateApproval_surplus (p : Part) (k : Fin 32) (ref : Nat) :
    (p.lateApproval k ref).surplus = p.surplus := by
  simp only [Part.lateApproval]
  split
  · simp
  · split
    · exact Part.modCashless_surplus _ k _
    · rfl

theorem Part.takeApproved_surplus (p : Part) (ref amount : Nat) : (p.takeApproved ref amount).surplus = p.surplus := by
  unfold Part.takeApproved
  split
  · rfl
  · split
    · split
      · split <;> simp
      · rfl
    · split
      · rfl
      · simp
    all_goals rfl

theorem Part.takeDeclined_surplus (p : Part) (ref reason : Nat) : (p.takeDeclined ref reason).surplus = p.surplus := by
  unfold Part.takeDeclined
  split
  · rfl
  · split
    · split
      · simp
      · rfl
    all_goals rfl

theorem Part.authTimesOut_surplus (p : Part) (ref : Nat) : (p.authTimesOut ref).surplus = p.surplus := by
  unfold Part.authTimesOut
  split
  · split <;> simp
  · simp

@[simp] theorem Part.settlementEnds_surplus (p : Part) (ref : Nat) (st : CashlessState) (kind : CaptureKind)
    (captured : Order → Option Nat) : (p.settlementEnds ref st kind captured).surplus = p.surplus := by
  simp only [Part.settlementEnds]
  split <;> simp

theorem Part.takeCaptured_surplus (p : Part) (ref : Nat) : (p.takeCaptured ref).surplus = p.surplus := by
  unfold Part.takeCaptured
  split
  · simp
  · split
    · simp
    · rfl

theorem Part.takeReleased_surplus (p : Part) (ref : Nat) : (p.takeReleased ref).surplus = p.surplus := by
  unfold Part.takeReleased
  split
  · simp
  · split
    · simp
    · rfl

/-! ### Pulses -/

@[simp] theorem Part.billPulse_surplus (p : Part) (c : Fin 6) (value : Nat) :
    (p.billPulse c value).surplus = p.surplus := by
  unfold Part.billPulse
  split
  · rfl
  · dsimp only
    split
    · exact Part.endTrain_surplus _ c
    · rfl

theorem Part.classify_surplus (p : Part) (c : Fin 6) (w : Nat) (jammer : Bool) :
    (p.classify c w jammer).surplus = p.surplus := by
  have valid : (p.validPulse c).surplus = p.surplus := by
    simp only [Part.validPulse, Part.raiseWake_surplus]
    split <;> simp
  simp only [Part.classify]
  split
  · split
    · exact p.endTrain_surplus c
    · split
      · rfl
      · exact valid
  · split <;> rfl

theorem Part.pulseRises_surplus (p : Part) (c : Fin 6) (ms : Nat) : (p.pulseRises c ms).surplus = p.surplus := by
  unfold Part.pulseRises
  split
  · rfl
  · dsimp only
    split
    · rfl
    · exact Part.endDueTrain_surplus ((p.advance ms).setPulsePin c true) c

theorem Part.pulseFalls_surplus (p : Part) (c : Fin 6) (ms : Nat) : (p.pulseFalls c ms).surplus = p.surplus := by
  unfold Part.pulseFalls
  split
  · dsimp only
    split
    · rfl
    · split
      · exact Part.classify_surplus _ c _ _
      · rfl
  · rfl

theorem Part.pulseJams_surplus (p : Part) (c : Fin 6) : (p.pulseJams c).surplus = p.surplus := by
  simp only [Part.pulseJams]
  split
  · exact Part.jamByPulse_surplus _ c
  · rfl

theorem Part.gapExpires_surplus (p : Part) (c : Fin 6) : (p.gapExpires c).surplus = p.surplus := by
  unfold Part.gapExpires
  split
  · exact Part.endTrain_surplus _ c
  · rfl

/-! ### Bands and the spool -/

theorem Part.takeBand_surplus (p : Part) : p.takeBand.surplus = p.surplus := by
  unfold Part.takeBand
  split
  · dsimp only
    split <;> rfl
  · rfl

theorem Part.completeItem_surplus (p : Part) (id : Fin 64) (x : Intake) :
    (p.completeItem id x).surplus = p.surplus := by
  rw [Part.completeItem, Part.dropBands_eq]
  exact Part.walk_surplus _

theorem Part.bandWritten_surplus (p : Part) (b : BandConv) : (p.bandWritten b).surplus = p.surplus := by
  simp only [Part.bandWritten]
  split
  · split
    · rfl
    · split
      · exact Part.completeItem_surplus _ _ _
      · rfl
  · rfl

theorem Part.lineReceived_surplus (p : Part) (e : EngineId) (row : List Byte) :
    (p.lineReceived e row).surplus = p.surplus := by
  simp only [Part.lineReceived]
  split
  · rfl
  · split <;> simp

theorem Part.accessDone_surplus (p : Part) (a : Access) : (p.accessDone a).surplus = p.surplus := by
  unfold Part.accessDone
  split
  · simp only [Part.writeDone]
    split
    · split
      · exact Part.bandWritten_surplus _ _
      · rfl
    · rfl
  · simp only [Part.readDone]
    split
    · exact Part.lineReceived_surplus _ _ _
    · rfl

/-! ### The mechanism and the strobe passes -/

theorem Part.panelReady_surplus (p : Part) (e : EngineId) (panel : Panel) (panelTemp lineTemp : Int) :
    (p.panelReady e panel panelTemp lineTemp).surplus = p.surplus := by
  simp only [Part.panelReady]
  split <;> simp [Part.enterPanel]

theorem Part.copyEjected_surplus (p : Part) (e : EngineId) (head : Fin 64) :
    (p.copyEjected e head).surplus = p.surplus := by
  simp only [Part.copyEjected]
  split
  · split <;> simp
  · simp

theorem Part.sample_surplus (p : Part) (e : EngineId) (t : Int) : (p.sample e t).surplus = p.surplus := by
  unfold Part.sample
  split
  case h_9 =>
    dsimp only
    split
    · split <;> simp [Part.enterPanel]
    · simp
  all_goals simp

theorem Part.passDone_surplus (p : Part) (e : EngineId) (t : Int) : (p.passDone e t).surplus = p.surplus := by
  have strobed (q : Part) (panel : Panel) (line : Nat) : (q.lineStrobed e panel line t).surplus = q.surplus := by
    unfold Part.lineStrobed
    split
    · simp
    · split <;> simp [Part.panelStart]
  simp only [Part.passDone]
  split
  · split
    · simp
    · exact (strobed _ _ _).trans (p.modEng_surplus e _)
  · rfl

theorem Part.sensorChange_surplus (p : Part) (e : EngineId) (report : SensorReport) :
    (p.sensorChange e report).surplus = p.surplus := by
  have sensed (x : Sensors) : (p.setSensors e x).surplus = p.surplus := by cases e <;> rfl
  simp only [Part.sensorChange]
  split
  · split <;> simp [sensed]
  · exact sensed _

/-! ### Frames, wake sources and resets -/

theorem Part.frameTaken_surplus (p : Part) (b : Byte) : (p.frameTaken b).surplus = p.surplus := by
  have dispatched (q : Part) (bytes : List Byte) : (q.dispatch bytes).surplus = q.surplus := by
    unfold Part.dispatch
    split
    · exact (Part.surplus_of_ledger (Part.offerCtrl_ledger _ _ _)).trans q.controlArrival_surplus
    · split
      · exact Part.surplus_of_ledger (q.offerBand_ledger _)
      · rfl
  simp only [Part.frameTaken]
  split
  · split
    · exact dispatched _ _
    · rfl
  · rfl

theorem Part.keyRises_surplus (p : Part) : p.keyRises.surplus = p.surplus := by
  unfold Part.keyRises
  split
  · rfl
  · dsimp only
    split
    · rfl
    · exact Part.raiseWake_surplus _ .key

theorem Part.detectAssert_surplus (p : Part) (i : Fin 4) : (p.detectAssert i).surplus = p.surplus := by
  simp only [Part.detectAssert]
  split
  · exact Part.raiseWake_surplus _ _
  all_goals rfl

theorem Part.detectRises_surplus (p : Part) (i : Fin 4) : (p.detectRises i).surplus = p.surplus := by
  unfold Part.detectRises
  split
  · rfl
  · dsimp only
    split
    · rfl
    · exact Part.detectAssert_surplus _ i

theorem Part.graceExpires_surplus (p : Part) : p.graceExpires.surplus = p.surplus := by
  have parks : p.enterParked.surplus = p.surplus := by
    simp only [Part.enterParked]
    split
    · exact Part.wakeCondition_surplus _ .pulse
    · exact foldl_surplus Part.wakeCondition_surplus _ _
  unfold Part.graceExpires
  split
  · split
    · exact parks
    · rfl
  · rfl

theorem Part.debounceExpires_surplus (p : Part) (t : Fin 5) : (p.debounceExpires t).surplus = p.surplus := by
  unfold Part.debounceExpires
  split
  · split
    · exact p.wakeToLive_surplus
    · exact Part.surplus_of_ledger (p.failDebounce_ledger _)
  · rfl

theorem Part.resetRelease_surplus (p : Part) (ms : Nat) (strap : Strap) (tempA tempB : Int) :
    (p.resetRelease ms strap tempA tempB).surplus = p.surplus := by
  have slotLine (q : Part) (i : Fin 4) : (q.releaseSlotLine i).surplus = q.surplus := by
    unfold Part.releaseSlotLine
    split
    · exact q.detectAssert_surplus i
    · rfl
  have pulseLine (q : Part) (c : Fin 6) : (q.releasePulseLine c).surplus = q.surplus := by
    unfold Part.releasePulseLine
    split <;> rfl
  unfold Part.resetRelease
  split
  · exact (foldl_surplus pulseLine _ _).trans (foldl_surplus slotLine _ ((p.advance ms).latch strap tempA tempB))
  · rfl

/-- No order is left, and kept becomes what is counted beyond the pool, of which a balanced tally has no less (R91, R119). -/
theorem Part.powerOnReset_balanced {p : Part} (h : p.surplus = 0) : p.powerOnReset.surplus = 0 := by
  have none_open : (OrderTable.reset.orders.toList.map openCash).sum = 0 := by simp [OrderTable.reset, openCash]
  show Payment.surplus (Payment.reset p.pay.counted p.pay.pool) OrderTable.reset.orders = 0
  simp only [Part.surplus, Payment.surplus, none_open, Payment.reset] at h ⊢
  omega

theorem Part.pathResetBlocks_surplus (p : Part) : p.pathResetBlocks.surplus = p.surplus := by
  have item (q : Part) (id : Fin 64) : (q.resetItem id).surplus = q.surplus := by
    unfold Part.resetItem
    split
    · split <;> simp
    · rfl
  have halt (q : Part) (k : Fin 32) : (q.haltOrder k).surplus = q.surplus := by
    unfold Part.haltOrder
    split
    next o ho =>
      split
      next taking =>
        refine (Part.loseFocus_surplus _ _).trans (Part.modOrder_surplus fun o' ho' => ?_)
        obtain rfl : o = o' := Option.some.inj (ho.symm.trans ho')
        rw [openCash_live (o := o) (Order.open_of_taking taking)]
        rfl
      next => rfl
    next => rfl
  have leave (q : Part) (e : EngineId) : (q.leaveNeedsMedia e).surplus = q.surplus := by
    unfold Part.leaveNeedsMedia
    split <;> simp
  have orders (q : Part) : q.resetOrders.surplus = q.surplus :=
    (foldl_surplus Part.checkSettling_surplus _ _).trans (foldl_surplus halt _ q)
  have regions (q : Part) : q.resetRegions.surplus = q.surplus := rfl
  rw [Part.pathResetBlocks_eq, leave, leave, regions, orders]
  exact foldl_surplus item (List.finRange 64) p.resetCleared

theorem Part.pathResetEffects_surplus (p : Part) : p.pathResetEffects.surplus = p.surplus := by
  have fed (q : Part) : q.feed.surplus = q.surplus := Part.surplus_of_ledger (Part.feed_ledger q)
  have sent (q : Part) : (Part.feed { q with lnk := { q.lnk with tx := none } }).surplus = q.surplus :=
    Part.surplus_of_ledger (Part.feed_ledger _)
  have blocks := p.pathResetBlocks_surplus
  unfold Part.pathResetEffects
  generalize p.pathResetBlocks = q at blocks
  split
  · exact (fed q).trans blocks
  · split
    · exact (sent q).trans blocks
    · rfl
  · rfl

/-! ### Every step -/

/-- Command by command, what each does to a balanced tally. -/
theorem runOf_balanced (c : Instr) {p : Part} (held : p.surplus = 0) : (runOf c p).surplus = 0 := by
  have ledger {q : Part} (h : q.ledger = p.ledger) : q.surplus = 0 := (Part.surplus_of_ledger h).trans held
  cases c with simp only [runOf]
  | powerOnReset => exact Part.powerOnReset_balanced held
  | resetRelease ms strap tempA tempB => exact (p.resetRelease_surplus ms strap tempA tempB).trans held
  | frameHeaderTaken b => exact ledger (p.headerTaken_ledger b)
  | frameTaken b => exact (p.frameTaken_surplus b).trans held
  | linkGapExpiry => exact ledger p.linkGapExpires_ledger
  | unknownRequest => exact ledger p.refuseUnknown_ledger
  | replyHandover => exact ledger p.handOver_ledger
  | frameTransmitDone => exact ledger p.transmitDone_ledger
  | tableWrite ms => exact Part.serve_keepsBalance held _ _ _ fun q _ args => q.tableWrite_surplus ms args
  | tableRead =>
    exact Part.serve_keepsBalance held _ _ _ fun q _ args => Part.surplus_of_ledger (q.tableRead_ledger args)
  | statusRead =>
    exact Part.serve_keepsBalance held _ _ _ fun q _ args => Part.surplus_of_ledger (q.statusRead_ledger args)
  | eventMask => exact Part.serve_keepsBalance held _ _ _ fun q _ args => Part.surplus_of_ledger (q.setMask_ledger args)
  | goLive => exact Part.serve_keepsBalance held _ _ _ fun q _ args => Part.surplus_of_ledger (q.checkLive_ledger args)
  | drain | resume | pathReset => exact Part.serve_keepsBalance held _ _ _ fun _ _ _ => rfl
  | park => exact Part.serve_keepsBalance held _ _ _ fun q _ _ => Part.surplus_of_ledger q.askPark_ledger
  | wakeSet => exact Part.serve_keepsBalance held _ _ _ fun q _ args => Part.surplus_of_ledger (q.wakeSet_ledger args)
  | pathResetEffects => exact p.pathResetEffects_surplus.trans held
  | graceExpiry => exact p.graceExpires_surplus.trans held
  | serviceKeyAssert => exact p.keyRises_surplus.trans held
  | serviceKeyDeassert => exact ledger p.keyFalls_ledger
  | debounceExpiry src => exact (p.debounceExpires_surplus src).trans held
  | cardDetectAssert i => exact (p.detectRises_surplus i).trans held
  | cardRemoval i => exact ledger (p.detectFalls_ledger i)
  | settlingExpiry i => exact ledger (p.settled_ledger i)
  | identifyResponse i status data check => exact ledger (p.identifyResponse_ledger i status data check)
  | identifyLimitExpiry i => exact ledger (p.identifyExpired_ledger i)
  | cardResponseTimeout i => exact ledger (p.responseTimeout_ledger i)
  | busyRetryExpiry i => exact ledger (p.busyRetry_ledger i)
  | readBlockResponse i status check => exact ledger (p.readBlockResponse_ledger i status check)
  | dataPhaseComplete i data check => exact ledger (p.dataComplete_ledger i data check)
  | dataPhaseTimeout i => exact ledger (p.dataTimeout_ledger i)
  | readBusyLimit i => exact ledger (p.readBusyExpired_ledger i)
  | stopResponse i status check => exact ledger (p.stopResponse_ledger i status check)
  | stopBusyLimit i => exact ledger (p.stopBusyExpired_ledger i)
  | slotUnbind => exact Part.serve_keepsBalance held _ _ _ fun q _ args => q.slotUnbind_surplus args
  | sectorRead =>
    exact Part.serve_keepsBalance held _ _ _ fun q tag args => Part.surplus_of_ledger (q.sectorRead_ledger tag args)
  | readCancel =>
    exact Part.serve_keepsBalance held _ _ _ fun q _ args => Part.surplus_of_ledger (q.readCancel_ledger args)
  | sectorAttemptStart => exact ledger p.beginSector_ledger
  | orderOpen => exact Part.serve_keepsBalance held _ _ _ fun q _ args => q.orderOpen_surplus args
  | itemAdd => exact Part.serve_keepsBalance held _ _ _ fun q _ args => q.itemAdd_surplus args
  | itemWithdraw => exact Part.serve_keepsBalance held _ _ _ fun q _ args => q.itemWithdraw_surplus args
  | orderCommit => exact Part.serve_keepsBalance held _ _ _ fun q _ args => q.orderCommit_surplus args
  | orderCancel => exact Part.serve_keepsBalance held _ _ _ fun q _ args => q.orderCancel_surplus args
  | orderResume => exact Part.serve_keepsBalance held _ _ _ fun q _ args => q.orderResume_surplus args
  | orderRead =>
    exact Part.serve_keepsBalance held _ _ _ fun q _ args => Part.surplus_of_ledger (q.orderRead_ledger args)
  | orderRelease => exact Part.serve_keepsBalance held _ _ _ fun q _ args => q.orderRelease_surplus args
  | pulseAssert ch ms => exact (p.pulseRises_surplus ch ms).trans held
  | pulseEnd ch ms => exact (p.pulseFalls_surplus ch ms).trans held
  | pulseJam ch => exact (p.pulseJams_surplus ch).trans held
  | trainGapExpiry ch => exact (p.gapExpires_surplus ch).trans held
  | focusSet => exact Part.serve_keepsBalance held _ _ _ fun q _ args => q.focusSet_surplus args
  | focusClear | tallyRead => exact Part.serve_keepsBalance held _ _ _ fun _ _ _ => rfl
  | channelReset ms => exact Part.serve_keepsBalance held _ _ _ fun q _ args => q.channelReset_surplus ms args
  | poolApply => exact Part.serve_keepsBalance held _ _ _ fun q _ args => q.poolApply_surplus args
  | poolPayout => exact Part.serve_balanced held _ _ _ fun _ _ args balanced => Part.poolPayout_balanced balanced args
  | tallyClear => exact Part.serve_balanced held _ _ _ fun _ _ _ balanced => Part.tallyClear_balanced balanced
  | cardAuthorize => exact Part.serve_keepsBalance held _ _ _ fun q _ args => q.cardAuthorize_surplus args
  | cashlessMessageSent => exact held
  | approved b =>
    split
    · exact (Part.takeApproved_surplus _ _ _).trans held
    · exact held
  | declined b =>
    split
    · exact (Part.takeDeclined_surplus _ _ _).trans held
    · exact held
  | captured b =>
    split
    · exact (Part.takeCaptured_surplus _ _).trans held
    · exact held
  | released b =>
    split
    · exact (Part.takeReleased_surplus _ _).trans held
    · exact held
  | unknownTerminalMessage b | cashlessCheckDiscard b => split <;> exact held
  | cashlessGapExpiry => split <;> exact held
  | cashlessStopBitError => exact held
  | authorizeTimeout =>
    split
    · exact (p.authTimesOut_surplus _).trans held
    · exact held
  | settlementOpTimeout =>
    split
    · exact (p.settlementEnds_surplus ..).trans held
    · exact (p.settlementEnds_surplus ..).trans held
    · exact held
  | lateReleaseTimeout =>
    split
    · exact p.endOp_surplus.trans held
    · exact held
  | bandTake => exact p.takeBand_surplus.trans held
  | regionOpen =>
    exact Part.serve_keepsBalance held _ _ _ fun q _ args => Part.surplus_of_ledger (q.regionOpen_ledger args)
  | regionClose =>
    exact Part.serve_keepsBalance held _ _ _ fun q _ args => Part.surplus_of_ledger (q.regionClose_ledger args)
  | spoolGrant pick => exact ledger (p.grant_ledger pick)
  | spoolAccessDone =>
    split
    · exact (p.accessDone_surplus _).trans held
    · exact held
  | engineOnline => exact Part.serve_keepsBalance held _ _ _ fun q _ args => q.engineOnline_surplus args
  | engineOffline => exact Part.serve_keepsBalance held _ _ _ fun q _ args => q.engineOffline_surplus args
  | engineClear => exact Part.serve_keepsBalance held _ _ _ fun q _ args => q.engineClear_surplus args
  | mediaSet => exact Part.serve_keepsBalance held _ _ _ fun q _ args => q.mediaSet_surplus args
  | drawComplete e =>
    split
    · exact (p.modEng_surplus e _).trans held
    · exact held
  | panelMotionComplete e panelTemp lineTemp =>
    split
    · exact (p.panelReady_surplus e _ panelTemp lineTemp).trans held
    · exact held
  | motionTimeout e =>
    split
    · exact (p.faultPrinting_surplus e .paperJam).trans held
    · exact held
  | sensorFaultCondition e report => exact (p.sensorChange_surplus e report).trans held
  | thermistorSample e temp => exact (p.sample_surplus e temp).trans held
  | strobePassDone e lineTemp => exact (p.passDone_surplus e lineTemp).trans held
  | ejectComplete e =>
    split
    · exact (p.copyEjected_surplus e _).trans held
    · exact held
  | linkByteReceived b => exact held
  | cashlessByteReceived b => exact held
  | abortEjectComplete e =>
    split
    · exact ((Part.walkIf_surplus _).trans (p.afterEject_surplus e)).trans held
    · exact held

/-- Settles O58: a step idles or carries a command out, and no command leaves a balanced tally with a surplus. -/
theorem theTallyStaysBalanced : Obligations.TheTallyStaysBalanced := by
  unfold Obligations.TheTallyStaysBalanced
  intro s t held ht
  rw [State.tallyHolds_iff] at held ⊢
  unfold step at ht
  split at ht
  · cases ht
    exact held
  · obtain ⟨rfl, -, -⟩ | ⟨rfl, -, -⟩ := exec_next ht
    · exact runOf_balanced _ held
    · exact held

end Sys2Proof.Machine
end

section
/-! PROOFS. The focus and the clearing of a jam (R116, R118), after what is due on the channel by then (R109, R112). -/

set_option Elab.async false

open Sys2Proof Sys2Proof.Machine

namespace Sys2Proof.Machine

/-! ### FOCUS_SET -/

section
variable {p : Part} {args : List Byte}

theorem Part.focusSet_unknown (h : p.orderIdx (u16 args 0) = none) : p.focusSet args = .refuse p .badArgument := by
  simp only [Part.focusSet, Part.liveOrder_none h]

/-- The focus goes to an order that takes cash (R116). -/
theorem Part.focusSet_known {k : Fin 32} {o : Order} (hk : p.orderIdx (u16 args 0) = some k)
    (ho : p.ord.orders[k] = some o) : p.focusSet args = if o.state = .opened ∨ o.state = .committed
      then .done (p.setFocus (some (u16 args 0))) (le2 (p.pay.focus.getD 0)) else .refuse p .wrongState := by
  simp only [Part.focusSet, Part.liveOrder_eq hk ho, Order.taking_iff, Part.orderIdx_number hk ho, optOrder_eq]

end

/-! ### The channel that is cleared -/

/-- A channel that becomes NORMAL; a line still asserted begins a pulse at that moment (R118). -/
def Channel.cleared (x : Channel) (asserted : Bool) (now : Nat) : Channel :=
  if asserted then
    { x with
      jammed := false, pulse := some { since := now, jammer := false }
      train := x.train.map fun y => { y with gapSince := none } }
  else { x with jammed := false }

theorem Part.unjam_eq (p : Part) (c : Fin 6) : p.unjam c = p.modChan c fun x => x.cleared p.pins.pulse[c] p.now := by
  unfold Part.unjam
  dsimp only
  split
  next asserted =>
    rw [show p.pins.pulse[c] = true from asserted]
    exact p.modChan_modChan c _ _
  next deasserted =>
    rw [show p.pins.pulse[c] = false from Bool.eq_false_of_not_eq_true deasserted]
    rfl

/-- The channel argument of a request names a channel below 6 (R118). -/
theorem channelArg_val {n : Nat} {c : Fin 6} (h : n = c.val) : channelArg n = some c := by
  subst h
  exact dif_pos c.isLt

section
variable {p r : Part} {ms : Nat} {args : List Byte}

theorem Part.channelReset_noChannel (h : 6 ≤ u8 args 0) : p.channelReset ms args = .refuse p .badArgument := by
  simp only [Part.channelReset, show channelArg (u8 args 0) = none from dif_neg (Nat.not_lt.mpr h)]

variable {c : Fin 6} (hc : u8 args 0 = c.val) (due : (p.advance ms).channelDue c = r)
include hc due

/-- A channel that is NORMAL once what is due on it has happened (R118). -/
theorem Part.channelReset_normal (h : r.pay.chans[c].jammed = false) :
    p.channelReset ms args = .refuse p .wrongState := by
  simp only [Part.channelReset, channelArg_val hc, due, h, Bool.false_eq_true, if_false]

/-- A channel that is JAMMED once what is due on it has happened (R118). -/
theorem Part.channelReset_jammed (h : r.pay.chans[c].jammed = true) :
    p.channelReset ms args = .done (r.unjam c) [] := by
  simp only [Part.channelReset, channelArg_val hc, due, h, if_true]

end

/-! ### What is due before -/

/-- A channel whose train is put back as it was. -/
theorem Part.modChan_train_self (p : Part) (c : Fin 6) :
    p.modChan c (fun ch => { ch with train := p.pay.chans[c].train }) = p := by
  have same : p.pay.chans.set c p.pay.chans[c] = p.pay.chans := set_self _ c
  exact congrArg (fun chans => ({ p with pay := { p.pay with chans := chans } } : Part)) same

theorem Part.trainless_of_none {p : Part} {c : Fin 6} (h : p.pay.chans[c].train = none) : p.trainless c = p := by
  have self := p.modChan_train_self c
  rwa [h] at self

/-- A posting jams its channel when the tally has no room for it, and leaves it as it was otherwise (R114, R115). -/
theorem Part.posted_jammed (p : Part) (c : Fin 6) (amount : Nat) : (p.posted c amount).pay.chans[c].jammed
    = (decide (4294967295 < p.pay.counted + amount) || p.pay.chans[c].jammed) := by
  unfold Part.posted
  cases p.posting amount with
  | refused full =>
    rw [postedState_refused c (s := { toPart := p, pending := [] }) full, decide_eq_true full]
    exact congrArg Channel.jammed (Vector.getElem_set_self _)
  | credited room k o focus owed =>
    rw [postedState_credited c (s := { toPart := p, pending := [] }) room focus owed, decide_eq_false room]
    rfl
  | pooled room none =>
    rw [postedState_pooled c (s := { toPart := p, pending := [] }) room none, decide_eq_false room]
    rfl

/-- What a posting leaves of the link, the time and the input levels. -/
theorem Part.posted_held (p : Part) (c : Fin 6) (amount : Nat) : (p.posted c amount).lnk = p.lnk
    ∧ (p.posted c amount).now = p.now ∧ (p.posted c amount).pins = p.pins := by
  rw [(p.posted_from c amount).frame]
  exact ⟨rfl, rfl, rfl⟩

/-- A train that is due ends and posts, on a channel with no pulse past its jam point (R112). -/
theorem Part.channelDue_posts {p : Part} {c : Fin 6} {x : Train} {g : Nat} (hw : p.walksIdle)
    (hj : ∀ u, ¬ p.JamDue c u) (he : p.EndDue c x g) : p.channelDue c = (p.trainless c).posted c (x.n * x.value) :=
  (Part.channelDue_ends hj he).trans (Part.endTrain_eq hw he.train)

/-- A pulse past its jam point jams its channel after its open train has posted (R109, R113). -/
theorem Part.channelDue_posts_jams {p : Part} {c : Fin 6} {u : Pulse} {x : Train} (hw : p.walksIdle) (hj : p.JamDue c u)
    (ht : p.pay.chans[c].train = some x) :
    p.channelDue c = ((p.trainless c).posted c (x.n * x.value)).jammedBy c u := by
  obtain ⟨pulse, train⟩ := p.posted_trainless c (x.n * x.value)
  exact Part.channelDue_jams hj (Part.endTrain_eq hw ht) train (pulse.trans hj.pulse)

/-! ### CHANNEL_RESET as a request -/

/-- CHANNEL_RESET of a channel that is JAMMED once what is due on it has happened (R118): the request's LINK, and the channel
cleared. -/
theorem exec_channelReset {s u : State} {c : Fin 6} {ms tag : Nat} {args : List Byte} {rest : List CtrlEntry} {r : Part}
    (h : s.Asks 0x42 tag args rest) (hm : s.svc.mode.serving = true) (hl : args.length = 1) (hc : u8 args 0 = c.val)
    (due : ((s.toPart.dequeue rest).advance ms).channelDue c = r) (hj : r.pay.chans[c].jammed = true)
    (held : r.lnk = (s.toPart.dequeue rest).lnk ∧ r.now = max s.now ms ∧ r.pins = s.pins)
    (hu : u = { s with toPart := r.withLink (s.replying rest tag 0x42 .ok []).lnk }) :
    exec (.channelReset ms) s
      = .next (u.withChan c (u.pay.chans[c].cleared s.pins.pulse[c] (max s.now ms))) := by
  obtain ⟨lnk, now, pins⟩ := held
  have length : exactly 1 args.length = true := by simp [exactly, hl]
  refine (State.serve_admitted h hm (admits := admitAll) length rfl).trans ?_
  rw [Part.channelReset_jammed hc due hj, Part.unjam_eq, now, pins, hu]
  simp only [Part.hold, Served.done, Part.modChan_lnk, lnk]
  rfl

/-- Settles O45: the requests by their checks in order, and CHANNEL_RESET by what was due on the channel before. -/
theorem focusAndChannelRequests : Obligations.FocusAndChannelRequests := by
  unfold Obligations.FocusAndChannelRequests
  intro s tag ms args rest hm before focused
  let p := s.toPart.dequeue rest
  refine ⟨fun asks ht => ?_, fun asks hl ht => ?_, fun asks hl => ⟨fun big => ?_, fun c hc => ?_⟩⟩
  · refine (State.serve_admitted asks hm (admits := admitLive) rfl (admitLive_of_trading ht)).trans ?_
    rw [optOrder_eq]
    rfl
  · have length : exactly 2 args.length = true := by simp [exactly, hl]
    have admitted := admitLive_of_trading ht
    refine ⟨fun unknown => ?_, fun k o hk ho => ?_⟩
    · exact State.serve_refuses asks hm length admitted (Part.focusSet_unknown (p := p) unknown)
    · refine (State.serve_admitted asks hm length admitted).trans ?_
      rw [Part.focusSet_known (p := p) hk ho]
      split <;> rfl
  · have length : exactly 1 args.length = true := by simp [exactly, hl]
    exact State.serve_refuses asks hm (admits := admitAll) length rfl (Part.channelReset_noChannel big)
  · intro ch e now refused at_ posted resets jams ends
    let q : Part := p.advance ms
    let l : Link := (s.replying rest tag 0x42 .ok []).lnk
    have length : exactly 1 args.length = true := by simp [exactly, hl]
    have jamDue {u : Pulse} (h : jams u) : q.JamDue c u :=
      have ⟨enabled, normal, pulse, past⟩ := h
      ⟨enabled, normal, pulse, past⟩
    have noJam (h : ∀ u, ¬ jams u) (u : Pulse) : ¬ q.JamDue c u := fun due =>
      h u ⟨due.enabled, due.normal, due.pulse, due.past⟩
    have noJam_of_jammed (h : ch.jammed = true) (u : Pulse) : ¬ q.JamDue c u := fun due =>
      nomatch h.symm.trans due.normal
    have endDue {x : Train} {g : Nat} (h : ends x g) : q.EndDue c x g :=
      have ⟨train, gap, past⟩ := h
      ⟨train, gap, past⟩
    have noEnd (h : ∀ x g, ¬ ends x g) (x : Train) (g : Nat) : ¬ q.EndDue c x g := fun due =>
      h x g ⟨due.train, due.gap, due.past⟩
    have refuses {r : Part} (due : q.channelDue c = r) (normal : r.pay.chans[c].jammed = false) : refused :=
      State.serve_refuses asks hm (admits := admitAll) length rfl (Part.channelReset_normal (p := p) hc due normal)
    have clears {r : Part} {u : State} (due : q.channelDue c = r) (jammed : r.pay.chans[c].jammed = true)
        (held : r.lnk = q.lnk ∧ r.now = q.now ∧ r.pins = q.pins) (hu : u = { s with toPart := r.withLink l }) : resets u :=
      exec_channelReset asks hm hl hc due jammed held hu
    have trainless : at_ none = { s with toPart := (q.trainless c).withLink l } := rfl
    have posts (x : Train) : posted x = { s with toPart := ((q.trainless c).posted c (x.n * x.value)).withLink l } :=
      postedState_withLink trainless c _
    have jammed_posted (x : Train) : ((q.trainless c).posted c (x.n * x.value)).pay.chans[c].jammed
        = (decide (4294967295 < s.pay.counted + x.n * x.value) || ch.jammed) := by
      rw [Part.posted_jammed, Part.trainless_own]
      rfl
    have held (x : Train) := (q.trainless c).posted_held c (x.n * x.value)
    refine ⟨fun normal hj he => ?_, fun x g normal hj he release => ?_, fun jammed he => ?_,
      fun x g jammed he release => ?_, fun u hj none => ?_, fun u x hj train release => ?_⟩
    · exact refuses (Part.channelDue_rests (noJam hj) (noEnd he)) normal
    · have due := Part.channelDue_posts (p := q) (.inl release) (noJam hj) (endDue he)
      have jammed := jammed_posted x
      split
      next full => exact clears due (by rw [jammed, decide_eq_true full, Bool.true_or]) (held x) (posts x)
      next room => exact refuses due (by rw [jammed, decide_eq_false room, normal, Bool.or_self])
    · refine clears (Part.channelDue_rests (noJam_of_jammed jammed) (noEnd he)) jammed ⟨rfl, rfl, rfl⟩ ?_
      exact congrArg (fun r : Part => ({ s with toPart := r.withLink l } : State)) (q.modChan_train_self c)
    · refine clears (Part.channelDue_posts (p := q) (.inl release) (noJam_of_jammed jammed) (endDue he)) ?_ (held x) (posts x)
      rw [jammed_posted, jammed, Bool.or_true]
    · have due := Part.channelDue_jams (jamDue hj) (Part.endTrain_none (p := q) none) none (jamDue hj).pulse
      refine clears due (by rw [Part.jammedBy_own]) ⟨rfl, rfl, rfl⟩ (jammedState_withLink ?_ c u)
      exact congrArg (fun r : Part => ({ s with toPart := r.withLink l } : State)) (Part.trainless_of_none (p := q) none)
    · have due := Part.channelDue_posts_jams (p := q) (.inl release) (jamDue hj) train
      exact clears due (by rw [Part.jammedBy_own]) (held x) (jammedState_withLink (posts x) c u)

end Sys2Proof.Machine
end

section
/-! PROOFS. The pool, the tally and the inhibit outputs (R117, R121 to R124). -/

set_option Elab.async false

open Sys2Proof Sys2Proof.Machine

namespace Sys2Proof.Machine

/-! ### The inhibit outputs -/

/-- The focus order exists and owes money (R117 condition 2). -/
theorem Part.focusOwes_iff (p : Part) : p.focusOwes = true ↔ ∃ n k o, p.pay.focus = some n ∧ p.orderIdx n = some k
    ∧ p.ord.orders[k] = some o ∧ o.cashIn + o.cardAuth < o.total := by
  have owes (o : Order) : 0 < o.due ↔ o.cashIn + o.cardAuth < o.total := by unfold Order.due; omega
  constructor
  · intro h
    unfold Part.focusOwes Part.focusIdx at h
    split at h
    next k hk =>
      split at h
      next o ho =>
        split at hk
        next n hn => exact ⟨n, k, o, hn, hk, ho, (owes o).mp (of_decide_eq_true h)⟩
        next => cases hk
      next => cases h
    next => cases h
  · rintro ⟨n, k, o, hn, hk, ho, h⟩
    simp only [Part.focusOwes, Part.focusIdx, hn, hk, ho, decide_eq_true ((owes o).mpr h)]

/-- No channel of the group is JAMMED (R117 condition 3). -/
theorem Part.groupJammed_eq_false_iff (p : Part) (g : Group) :
    p.groupJammed g = false ↔ ∀ c : Fin 6, p.pay.table[c].group = g → p.pay.chans[c].jammed = false := by
  simp only [Part.groupJammed, List.any_eq_false, List.mem_finRange, true_implies, Bool.and_eq_true, beq_iff_eq, not_and,
    Bool.not_eq_true]

/-- The inhibit output of a group is deasserted while the three conditions hold (R117). -/
theorem Part.inhibit_eq_false_iff (p : Part) (g : Group) :
    p.inhibit g = false ↔ p.svc.mode = .live
      ∧ (∃ n k o, p.pay.focus = some n ∧ p.orderIdx n = some k ∧ p.ord.orders[k] = some o
        ∧ o.cashIn + o.cardAuth < o.total)
      ∧ ∀ c : Fin 6, p.pay.table[c].group = g → p.pay.chans[c].jammed = false := by
  rw [← p.focusOwes_iff, ← p.groupJammed_eq_false_iff]
  simp only [Part.inhibit, Bool.not_eq_false', Bool.and_eq_true, beq_iff_eq, Bool.not_eq_true', and_assoc]

/-! ### POOL_APPLY -/

/-- A credit to an order while no walk moves an item (R93, R98). -/
theorem Part.creditOrder_funds {p : Part} {k : Fin 32} {o : Order} (hw : p.walksIdle) (ho : p.ord.orders[k] = some o)
    (amount : Nat) : p.creditOrder k amount = { p with
      ord := { p.ord with orders := p.ord.orders.set k (some { o with cashIn := o.cashIn + amount }) }
      svc := if o.state = .committed ∧ o.cancel = false ∧ o.cashIn + o.cardAuth < o.total
          ∧ o.total ≤ o.cashIn + amount + o.cardAuth
        then p.svc.capture .orderFunded else p.svc } := by
  by_cases owes : o.cashIn + o.cardAuth < o.total
  · simp only [Part.creditOrder_eq hw ho owes, owes, true_and]
  · have record : (p.modOrder k fun o => { o with cashIn := o.cashIn + amount }).ord.orders[k]
        = some { o with cashIn := o.cashIn + amount } := by
      rw [Part.modOrder_eq ho]
      exact Vector.getElem_set_self _
    have unchanged : ((p.modOrder k fun o => { o with cashIn := o.cashIn + amount }).orderFunded k && !p.orderFunded k)
        = false := by
      simp only [Part.orderFunded, record, ho, Order.isFunded]
      grind
    simp only [Part.creditOrder, Part.fundedCheck, unchanged, owes, false_and, and_false, if_false, Bool.false_eq_true]
    rw [Part.modOrder_eq ho]
    exact Part.walk_idle hw

section
variable {p : Part} {args : List Byte}

theorem Part.poolApply_unknown (h : p.orderIdx (u16 args 0) = none) : p.poolApply args = .refuse p .badArgument := by
  simp only [Part.poolApply, Part.liveOrder_none h]

variable {k : Fin 32} {o : Order} (hk : p.orderIdx (u16 args 0) = some k) (ho : p.ord.orders[k] = some o)
include hk ho

/-- Only an OPEN or COMMITTED order takes money from the pool (R121). -/
theorem Part.poolApply_wrongState (h : ¬ (o.state = .opened ∨ o.state = .committed)) :
    p.poolApply args = .refuse p .wrongState := by
  rw [← Order.taking_iff, Bool.not_eq_true] at h
  simp only [Part.poolApply, Part.liveOrder_eq hk ho, h, Bool.not_false, if_true]

variable (taking : o.state = .opened ∨ o.state = .committed)
include taking

theorem Part.poolApply_badAmount (h : u32 args 4 = 0 ∨ p.pay.pool < u32 args 4 ∨ 16777215 < o.cashIn + u32 args 4) :
    p.poolApply args = .refuse p .badArgument := by
  simp only [Part.poolApply, Part.liveOrder_eq hk ho, (Order.taking_iff o).mpr taking, Bool.not_true, Bool.false_eq_true,
    if_false]
  by_cases amount : u32 args 4 = 0 ∨ p.pay.pool < u32 args 4
  · rw [if_pos amount]
  · rw [if_neg amount]
    exact if_pos ((or_assoc.mpr h).resolve_left amount)

theorem Part.poolApply_done (positive : 1 ≤ u32 args 4) (covered : u32 args 4 ≤ p.pay.pool)
    (room : o.cashIn + u32 args 4 ≤ 16777215) :
    p.poolApply args = .done
      (Part.creditOrder { p with pay := { p.pay with pool := p.pay.pool - u32 args 4 } } k (u32 args 4))
      (le4 (o.cashIn + u32 args 4) ++ le4 (p.pay.pool - u32 args 4)) := by
  have amount : ¬ (u32 args 4 = 0 ∨ p.pay.pool < u32 args 4) := by omega
  simp only [Part.poolApply, Part.liveOrder_eq hk ho, (Order.taking_iff o).mpr taking, Bool.not_true, Bool.false_eq_true,
    if_false, if_neg amount, if_neg (show ¬ Config.moneyTop < _ from Nat.not_lt.mpr room)]

end

/-! ### POOL_PAYOUT -/

theorem Part.poolPayout_refused {p : Part} {args : List Byte} (h : u32 args 0 = 0 ∨ p.pay.pool < u32 args 0) :
    p.poolPayout args = .refuse p .badArgument := if_pos h

theorem Part.poolPayout_done {p : Part} {args : List Byte} (h : ¬ (u32 args 0 = 0 ∨ p.pay.pool < u32 args 0)) :
    p.poolPayout args =
      let y := { p.pay with counted := p.pay.counted - u32 args 0, pool := p.pay.pool - u32 args 0 }
      .done { p with pay := y } y.tally := if_neg h

/-! ### TALLY_READ -/

/-- The bytes of the channels in the TALLY_READ result (R123, R191). -/
theorem Channel.summary_eq (ch : Channel) :
    ch.summary = [if ch.jammed then 1 else 0, (ch.train.map fun t => byte t.n).getD 0xFF] := by
  rw [Channel.summary]
  cases ch.train <;> rfl

/-- Settles O46: the inhibit outputs by their conditions, and each request by its checks in order. -/
theorem poolAndTallyRequests : Obligations.PoolAndTallyRequests := by
  unfold Obligations.PoolAndTallyRequests
  intro s tag args rest hm release tally paid
  let p := s.toPart.dequeue rest
  refine ⟨fun g => s.toPart.inhibit_eq_false_iff g, fun asks hl ht => ?_, fun asks hl => ?_, fun asks => ?_, fun asks => ?_⟩
  · intro amount refused
    have length : exactly 8 args.length = true := by simp [exactly, hl]
    have admitted := admitLive_of_trading ht
    have refuses {st : Status} (h : p.poolApply args = .refuse p st) : refused st :=
      State.serve_refuses asks hm length admitted h
    refine ⟨fun unknown => refuses (Part.poolApply_unknown unknown), fun k o hk ho => ⟨fun ho' hc => ?_, fun taking =>
      ⟨fun bad => refuses (Part.poolApply_badAmount hk ho taking bad), fun positive covered room => ?_⟩⟩⟩
    · exact refuses (Part.poolApply_wrongState hk ho (not_or.mpr ⟨ho', hc⟩))
    · intro funded t
      refine (State.serve_admitted asks hm length admitted).trans ?_
      let q : Part := { p with pay := { p.pay with pool := p.pay.pool - amount } }
      rw [Part.poolApply_done (p := p) hk ho taking positive covered room,
        Part.creditOrder_funds (p := q) (.inl release) ho]
      by_cases full : funded
      · rw [if_pos full, if_pos (show funded from full)]
        rfl
      · rw [if_neg full, if_neg (show ¬ funded from full)]
        rfl
  · intro amount y
    have length : exactly 4 args.length = true := by simp [exactly, hl]
    refine (State.serve_admitted asks hm (admits := admitAll) length rfl).trans ?_
    by_cases bad : amount = 0 ∨ s.pay.pool < amount
    · rw [Part.poolPayout_refused (p := p) bad, if_pos bad]
      rfl
    · rw [Part.poolPayout_done (p := p) bad, if_neg bad]
      rfl
  · refine (State.serve_admitted asks hm (admits := admitAll) rfl rfl).trans ?_
    have result : p.tallyResult = tally s.pay ++ le2 (s.pay.focus.getD 0)
          ++ s.pay.chans.toList.flatMap (fun ch =>
            [if ch.jammed then 1 else 0, (ch.train.map fun t => byte t.n).getD 0xFF])
          ++ [if s.toPart.inhibit .coin then 1 else 0, if s.toPart.inhibit .bill then 1 else 0] := by
      rw [← funext Channel.summary_eq, ← optOrder_eq]
      rfl
    rw [← result]
    rfl
  · exact State.serve_admitted asks hm (admits := admitAll) rfl rfl

end Sys2Proof.Machine
end

section
/-! PROOFS. CARD_AUTHORIZE and the timer of a cashless operation (R126, R129, R130). -/

set_option Elab.async false

open Sys2Proof Sys2Proof.Machine

namespace Sys2Proof.Machine

/-! ### The checks of CARD_AUTHORIZE (R130) -/

/-- The order takes money and its record has no authorization that stands or runs (R130). -/
def Order.MayAuthorize (o : Order) : Prop :=
  (o.state = .opened ∨ o.state = .committed) ∧ (o.cashless.state = .none ∨ o.cashless.state = .declined)

/-- The amount is positive and no more than what the order still owes (R92, R130). -/
def Order.Owes (o : Order) (amount : Nat) : Prop := 1 ≤ amount ∧ amount + o.cashIn + o.cardAuth ≤ o.total

/-- The order with its record PENDING for an amount (R130). -/
def Order.authorizing (o : Order) (amount : Nat) : Order :=
  { o with cashless := { o.cashless with state := .pending, requested := amount, approved := 0, reason := none } }

/-- The model's test of the order's state is the first condition. -/
theorem Order.authorizeBarred_iff (o : Order) :
    (!o.taking || !(o.cashless.state == .none || o.cashless.state == .declined)) = true ↔ ¬ o.MayAuthorize := by
  rw [← Bool.not_and, Bool.not_eq_true', ← Bool.not_eq_true, Bool.and_eq_true, Order.taking_iff, Bool.or_eq_true,
    beq_iff_eq, beq_iff_eq, Order.MayAuthorize]

/-- The model's test of the amount is the second condition. -/
theorem Order.amountBarred_iff (o : Order) (amount : Nat) : amount = 0 ∨ o.due < amount ↔ ¬ o.Owes amount := by
  unfold Order.due Order.Owes
  omega

/-- The part with the order's record PENDING for an amount (R130). -/
def Part.authorizing (p : Part) (k : Fin 32) (o : Order) (amount : Nat) : Part :=
  { p with ord := { p.ord with orders := p.ord.orders.set k (some (o.authorizing amount)) } }

/-- An accepted authorization writes the order's record, and its operation joins the queue (R130). -/
theorem Part.authorize_eq {p : Part} {k : Fin 32} {o : Order} (ho : p.ord.orders[k] = some o) (ref amount : Nat) :
    p.authorize k ref amount
      = (p.authorizing k o amount).joinOp { kind := .authorize, ref := ref, amount := amount } :=
  congrArg (Part.joinOp · _) (Part.modOrder_eq ho _)

section
variable {p : Part} {args : List Byte}

theorem Part.cardAuthorize_unknown (h : p.orderIdx (u16 args 0) = none) :
    p.cardAuthorize args = .refuse p .badArgument := by
  simp only [Part.cardAuthorize, Part.liveOrder_none h]

variable {k : Fin 32} {o : Order} (hk : p.orderIdx (u16 args 0) = some k) (ho : p.ord.orders[k] = some o)
include hk ho

theorem Part.cardAuthorize_wrongState (h : ¬ o.MayAuthorize) : p.cardAuthorize args = .refuse p .wrongState := by
  simp only [Part.cardAuthorize, Part.liveOrder_eq hk ho, if_pos (o.authorizeBarred_iff.mpr h)]

variable (may : o.MayAuthorize)
include may

/-- What is left to check once the order's state lets an authorization in (R130). -/
theorem Part.cardAuthorize_admitted :
    p.cardAuthorize args =
      if u32 args 4 = 0 ∨ o.due < u32 args 4 then .refuse p .badArgument
      else if 8 ≤ p.clc.queue.length then .refuse p .noRoom
      else .done (p.authorize k (u16 args 0) (u32 args 4))
        [byte (p.clc.queue.length + if p.clc.outstanding.isSome then 1 else 0)] := by
  have admitted := mt o.authorizeBarred_iff.mp (not_not_intro may)
  simp only [Part.cardAuthorize, Part.liveOrder_eq hk ho, if_neg admitted, Part.orderIdx_number hk ho]
  rfl

theorem Part.cardAuthorize_badAmount (h : ¬ o.Owes (u32 args 4)) : p.cardAuthorize args = .refuse p .badArgument := by
  rw [Part.cardAuthorize_admitted hk ho may, if_pos ((o.amountBarred_iff _).mpr h)]

variable (owes : o.Owes (u32 args 4))
include owes

theorem Part.cardAuthorize_full (h : 8 ≤ p.clc.queue.length) : p.cardAuthorize args = .refuse p .noRoom := by
  rw [Part.cardAuthorize_admitted hk ho may, if_neg (mt (o.amountBarred_iff _).mp (not_not_intro owes)), if_pos h]

/-- With room in the queue the request is accepted, and its result counts the operations ahead (R130). -/
theorem Part.cardAuthorize_room (h : p.clc.queue.length < 8) :
    p.cardAuthorize args = .done (p.authorize k (u16 args 0) (u32 args 4))
      [byte (p.clc.queue.length + if p.clc.outstanding.isSome then 1 else 0)] := by
  rw [Part.cardAuthorize_admitted hk ho may, if_neg (mt (o.amountBarred_iff _).mp (not_not_intro owes)), if_neg h.not_ge]

/-- Behind an outstanding operation the new one waits in the queue (R129, R130). -/
theorem Part.cardAuthorize_waits (room : p.clc.queue.length < 8) (busy : p.clc.outstanding ≠ none) :
    p.cardAuthorize args = .done
      { p.authorizing k o (u32 args 4) with clc := { p.clc with
          queue := p.clc.queue ++ [{ kind := .authorize, ref := u16 args 0, amount := u32 args 4 }] } }
      [byte (p.clc.queue.length + 1)] := by
  rw [Part.cardAuthorize_room hk ho may owes room, Part.authorize_eq ho,
    Part.joinOp_waits (p := p.authorizing k o _) busy, if_pos (Option.isSome_iff_ne_none.mpr busy)]
  rfl

/-- On an idle interface the new operation is sent at once (R129, R130). -/
theorem Part.cardAuthorize_sent (empty : p.clc.queue = []) (idle : p.clc.outstanding = none)
    (none_waits : p.ord.waiting = []) (none_late : p.clc.late = []) :
    p.cardAuthorize args = .done
      { p.authorizing k o (u32 args 4) with clc := { p.clc with
          outstanding := some { op := { kind := .authorize, ref := u16 args 0, amount := u32 args 4 }, timer := none } } }
      [byte 0] := by
  have room : p.clc.queue.length < 8 := by simp [empty]
  rw [Part.cardAuthorize_room hk ho may owes room, Part.authorize_eq ho,
    Part.joinOp_sent (p := p.authorizing k o _) empty idle none_waits none_late, empty, idle]
  rfl

end

/-! ### The timer of an operation (R126, R129) -/

theorem CashlessOp.limit_eq (op : CashlessOp) : op.limit = if op.kind = .authorize then 60000 else 15000 := by
  obtain ⟨kind, ref, amount⟩ := op
  cases kind <;> rfl

/-- The message has left: the timer of the operation now outstanding starts toward its limit. -/
theorem Part.messageSent_starts {p : Part} {op : CashlessOp}
    (h : p.clc.outstanding = some { op := op, timer := none }) :
    p.messageSent = { p with clc := { p.clc with outstanding := some { op := op, timer := some op.limit } } } := by
  simp only [Part.messageSent, h, Option.map_some]

/-- Settles O47: the request by its checks in order and by the place its operation finds, the timer by the operation's kind. -/
theorem cardAuthorizeJoinsTheQueue : Obligations.CardAuthorizeJoinsTheQueue := by
  unfold Obligations.CardAuthorizeJoinsTheQueue
  refine ⟨fun s tag args rest asks hl ht => ?_, fun s op hr hx => ?_⟩
  · intro amount refused
    let p := s.toPart.dequeue rest
    have serving := Mode.serving_of_trading ht
    have length : exactly 8 args.length = true := by simp [exactly, hl]
    have admitted := admitLive_of_trading ht
    have refuses {st : Status} (h : p.cardAuthorize args = .refuse p st) : refused st :=
      State.serve_refuses asks serving length admitted h
    have accepts {q : Part} {result : List Byte} (h : p.cardAuthorize args = .done q result) :
        exec .cardAuthorize s = .next { s with toPart := Part.hold tag 0x48 (.done q result) } :=
      h ▸ State.serve_admitted asks serving length admitted
    refine ⟨fun unknown => refuses (Part.cardAuthorize_unknown unknown), fun k o hk ho => ?_⟩
    intro open_ owed op o' asked
    refine ⟨fun barred => refuses (Part.cardAuthorize_wrongState hk ho barred),
      fun may none_owed => refuses (Part.cardAuthorize_badAmount hk ho may none_owed),
      fun may owes full => refuses (Part.cardAuthorize_full hk ho may owes full),
      fun may owes room busy => accepts (Part.cardAuthorize_waits (p := p) hk ho may owes room busy),
      fun may owes empty idle none_waits none_late =>
        accepts (Part.cardAuthorize_sent (p := p) hk ho may owes empty idle none_waits none_late)⟩
  · rw [exec_running (c := .cashlessMessageSent) hr nofun, ← op.limit_eq]
    exact congrArg (fun p => Host.Outcome.next { s with toPart := p }) (Part.messageSent_starts (p := s.toPart) hx)

end Sys2Proof.Machine
end

section
/-! PROOFS. The receiver of the cashless line: its bytes, its discards, and the messages no terminal sends (R127, R136,
R193). -/

set_option Elab.async false

open Sys2Proof Sys2Proof.Machine

namespace Sys2Proof.Machine

/-! ### The receiver byte by byte (R127) -/

section
variable {r : Receiver}

theorem Receiver.take_start (h : r.state = .hunt) :
    r.take 0xA5 = { state := .header, bytes := [], gap := some 50 } := by
  simp only [Receiver.take, h, if_true]
  rfl

theorem Receiver.take_noise (h : r.state = .hunt) {b : Byte} (hb : b ≠ 0xA5) : r.take b = r := by
  simp only [Receiver.take, h, if_neg hb]

theorem Receiver.take_type (h : r.state = .header) (hb : r.bytes = []) (b : Byte) :
    r.take b = { state := .header, bytes := [b], gap := some 50 } := by
  simp only [Receiver.take, h, hb]
  rfl

/-- The body length chooses what comes next: the body, or the check byte when there is none. -/
theorem Receiver.take_length (h : r.state = .header) {type : Byte} (hb : r.bytes = [type]) (b : Byte) :
    r.take b = { state := if b = 0 then .sum else .body, bytes := [type, b], gap := some 50 } := by
  simp only [Receiver.take, h, hb]
  rfl

/-- The body ends with the byte that makes it as long as its length byte says. -/
theorem Receiver.take_body (h : r.state = .body) {type n : Byte} {body : List Byte} (hb : r.bytes = type :: n :: body)
    (b : Byte) :
    r.take b = { state := if body.length + 1 = n.toNat then .sum else .body, bytes := type :: n :: (body ++ [b]),
                 gap := some 50 } := by
  have ends : (type :: n :: (body ++ [b])).length = 2 + n.toNat ↔ body.length + 1 = n.toNat := by
    simp only [List.length_cons, List.length_append, List.length_nil]
    omega
  simp only [Receiver.take, h, hb, List.cons_append]
  rw [show u8 (type :: n :: (body ++ [b])) 1 = n.toNat from rfl]
  simp only [ends]
  rfl

end

/-! ### Discards and stray messages (R127, R136, R193) -/

/-- Outside reset a command answers the state that its function of the part makes. -/
theorem exec_eq_of_runOf {c : Instr} {s t : State} (hr : s.inReset = false) (hc : c ≠ .spoolAccessDone)
    (runs : runOf c s.toPart = t.toPart) (pending : s.pending = t.pending := by rfl) : exec c s = .next t :=
  (exec_running hr hc).trans (next_eq runs pending)

theorem Receiver.ends_iff (r : Receiver) (b : Byte) (good : Bool) :
    r.ends b good = true ↔ r.state = .sum ∧ (b = sum8 r.bytes ↔ good = true) := by
  rw [Receiver.ends, Bool.and_eq_true, beq_iff_eq, beq_iff_eq, Bool.eq_iff_iff, beq_iff_eq]

/-- The messages of the terminal, by type and body length (13.5). -/
theorem terminalBody_eq_some_iff (type n : Byte) : terminalBody type = some n.toNat
    ↔ (type = 0x81 ∧ n = 6) ∨ (type = 0x82 ∧ n = 3) ∨ (type = 0x83 ∧ n = 2) ∨ (type = 0x84 ∧ n = 2) := by
  have len (m : Byte) : some m.toNat = some n.toNat ↔ n = m := by rw [Option.some_inj, ← BitVec.toNat_eq, eq_comm]
  unfold terminalBody
  split
  · simpa using len 6
  · simpa using len 3
  · simpa using len 2
  · simpa using len 2
  next approved declined captured released =>
    refine iff_of_false nofun ?_
    rintro (⟨h, -⟩ | ⟨h, -⟩ | ⟨h, -⟩ | ⟨h, -⟩)
    · exact approved h
    · exact declined h
    · exact captured h
    · exact released h

/-- A whole message of a type or a body length the terminal does not send (R193). -/
theorem Receiver.isUnknown_of {r : Receiver} {type n b : Byte} {body : List Byte} (h : r.state = .sum)
    (hb : r.bytes = type :: n :: body) (check : b = sum8 r.bytes) (foreign : terminalBody type ≠ some n.toNat) :
    r.isUnknown b = true := by
  have whole : r.ends b true = true := (r.ends_iff b true).mpr ⟨h, iff_of_true check rfl⟩
  rw [Receiver.isUnknown, whole, hb, Bool.true_and, bne_iff_ne]
  exact foreign

/-- Settles O48: what the receiver does with a byte in each of its states, what discards its message, and what is stray. -/
theorem cashlessBytesAreAssembled : Obligations.CashlessBytesAreAssembled := by
  unfold Obligations.CashlessBytesAreAssembled
  intro s b hr r after hunt taken received
  have takes {x : Receiver} (h : r.take b = x) : received x := h ▸ exec_eq_of_runOf hr nofun rfl
  refine ⟨fun h hb => takes (hb ▸ Receiver.take_start h), fun h hb => takes (Receiver.take_noise h hb),
    fun h hb => takes (Receiver.take_type h hb b), fun type h hb => takes (Receiver.take_length h hb b),
    fun type n body h hb _ => takes (Receiver.take_body h hb b), fun gap => ?_, ?_, fun h bad => ?_,
    fun type n body h hb check no_approved no_declined no_captured no_released => ?_⟩
  · exact exec_eq_of_runOf hr nofun (if_pos (Option.isSome_iff_ne_none.mpr gap))
  · exact exec_eq_of_runOf hr nofun rfl
  · exact exec_eq_of_runOf hr nofun (if_pos ((r.ends_iff b false).mpr ⟨h, iff_of_false bad Bool.false_ne_true⟩))
  · have foreign : terminalBody type ≠ some n.toNat := by
      rw [ne_eq, terminalBody_eq_some_iff, not_or, not_or, not_or]
      exact ⟨no_approved, no_declined, no_captured, no_released⟩
    exact exec_eq_of_runOf hr nofun (if_pos (Receiver.isUnknown_of h hb check foreign))

end Sys2Proof.Machine
end

section
/-! PROOFS. BAND_TAKE (R139 to R141, R147 to R150, R154): the checks of a band, its colours, and its plane writes. -/

set_option Elab.async false

open Sys2Proof Sys2Proof.Machine

namespace Sys2Proof.Machine

/-! ### The checks (R140) -/

/-- Checks 3 to 6: the length of a band follows from its item's width and from whether it carries finish bytes. -/
theorem bandFits_iff (it : Item) (band : List Byte) : bandFits it band = true ↔ u8 band 1 ≤ 1 ∧ u16 band 2 < it.length
    ∧ ((u8 band 4 = 0 ∧ band.length = 6 + 3 * (it.width / 2))
      ∨ (u8 band 4 = 1 ∧ band.length = 6 + 4 * (it.width / 2))) := by
  simp only [bandFits, Bool.and_eq_true, decide_eq_true_eq, and_assoc]
  refine and_congr_right' (and_congr_right' ?_)
  split <;> omega

section
variable {p : Part} {band : List Byte} {id : Fin 64}

theorem Part.bandChecks_unnamed (h : band.length < 6 ∨ 64 ≤ u8 band 0) : p.bandChecks band = none := by
  unfold Part.bandChecks
  split
  · rfl
  next long => simp only [Part.bandItem, itemArg_none (h.resolve_left long)]

theorem Part.bandChecks_unused (hid : u8 band 0 = id.val) (free : p.ord.items[id] = none) : p.bandChecks band = none := by
  simp only [Part.bandChecks, Part.bandItem, itemArg_some hid, free, ite_self]

theorem Part.bandChecks_item {it : Item} (long : 6 ≤ band.length) (hid : u8 band 0 = id.val)
    (hit : p.ord.items[id] = some it) :
    p.bandChecks band
      = if (it.state = .defined ∨ it.state = .receiving) ∧ bandFits it band = true then some (id, it) else none := by
  simp only [Part.bandChecks, Part.bandItem, itemArg_some hid, hit, if_neg (Nat.not_lt.mpr long), Bool.or_eq_true,
    beq_iff_eq]
  by_cases receives : it.state = .defined ∨ it.state = .receiving
  · simp only [receives, if_true, true_and]
  · simp only [receives, if_false, false_and]

end

/-! ### Taking the oldest band (R139) -/

section
variable {s : State} {band : List Byte} {rest : List (List Byte)}

theorem exec_bandTake_discards (hr : s.inReset = false) (idle : s.rin.conv = none) (hq : s.rin.queue = band :: rest)
    (fails : s.toPart.bandChecks band = none) :
    exec .bandTake s = .next { s.captured .bandDiscard with rin := { s.rin with queue := rest } } := by
  have fails_apart (r : RasterIntake) : ({ s.toPart with rin := r } : Part).bandChecks band = none := fails
  refine exec_eq_of_runOf hr nofun ?_
  show s.toPart.takeBand = _
  simp only [Part.takeBand, idle, hq, fails_apart]
  rfl

/-- The finish bytes that a band of an item carries. -/
def Item.ownFinish (it : Item) (band : List Byte) : Option (List Byte) :=
  if u8 band 4 = 1 then some (band.drop (6 + 3 * (it.width / 2))) else none

/-- The plane writes of a band for an item in a region (R150). -/
def RasterIntake.writesOf (r : RasterIntake) (it : Item) (g : Region) (band : List Byte) : List PlaneWrite :=
  planeWrites r.tones[it.tone] it g (u16 band 2) (u8 band 1) (band.drop 6) (it.ownFinish band)

theorem exec_bandTake_accepts {id : Fin 64} {it : Item} (hr : s.inReset = false) (idle : s.rin.conv = none)
    (hq : s.rin.queue = band :: rest) (hit : s.ord.items[id] = some it)
    (holds : s.toPart.bandChecks band = some (id, it)) :
    exec .bandTake s = .next { s.withItem id { it with state := .receiving } with
      rin := { s.rin with
        queue := rest
        conv := some { item := id, row := u16 band 2, half := u8 band 1,
                       writes := s.rin.writesOf it s.spl.regions[it.region] band } } } := by
  have holds_apart (r : RasterIntake) : ({ s.toPart with rin := r } : Part).bandChecks band = some (id, it) := holds
  have received (r : RasterIntake) := Part.modItem_eq (p := { s.toPart with rin := r }) hit
  refine exec_eq_of_runOf hr nofun ?_
  show s.toPart.takeBand = _
  simp only [Part.takeBand, idle, hq, holds_apart, Part.acceptBand, received]
  rfl

end

/-! ### The colour of a dot (R147, R148) -/

section
variable (tone : List Nat) (band : List Byte)

/-- A tone byte of dot `j` of a band, by the mix row and the curve that stand at two indices of the tone set. -/
def dotTone (row curve j : Nat) : Byte :=
  byte (tone.getD (curve + mixed tone row (255 - u8 band (6 + 3 * j)) (255 - u8 band (6 + 3 * j + 1))
    (255 - u8 band (6 + 3 * j + 2))) 0)

/-- A channel is a byte, so that it is inverted without loss. -/
theorem inverted_eq (o : Nat) : ((255 - u8 band o : Nat) : Int) = 255 - ((band.getD o 0).toNat : Int) :=
  Int.ofNat_sub (Nat.le_of_lt_succ (u8_lt band o))

theorem dotTone_eq (row curve j : Nat) : dotTone tone band row curve j =
    let k (i : Nat) : Int := signed16 (tone.getD (row + i) 0)
    let inverted (i : Nat) : Int := 255 - ((band.getD (6 + 3 * j + i) 0).toNat : Int)
    let mix : Int := (k 0 * inverted 0 + k 1 * inverted 1 + k 2 * inverted 2 + 128) / 256
    byte (tone.getD (curve + (max 0 (min 255 mix)).toNat) 0) := by
  simp only [dotTone, mixed, clamp255, inverted_eq, Nat.add_zero]

theorem getD_drop (i o : Nat) : (band.drop i).getD o 0 = band.getD (i + o) 0 := by
  simp only [List.getD_eq_getElem?_getD, List.getElem?_drop]

theorem tripleTones_getElem? {n j : Nat} (h : j < n) : (tripleTones tone (band.drop 6) n)[j]?
    = some (dotTone tone band 0 9 j, dotTone tone band 3 265 j, dotTone tone band 6 521 j) := by
  simp only [tripleTones, List.getElem?_map, List.getElem?_range h, Option.map_some, getD_drop, toneBytes]
  rfl

theorem tripleTones_length (n : Nat) : (tripleTones tone (band.drop 6) n).length = n := by
  rw [tripleTones, List.length_map, List.length_range]

end

/-! ### The finish bytes (R149) -/

/-- The finish byte of a dot for which the band carries `own`, 0 when it carries none. -/
def Finish.byteOf (mode : Finish) (own : Byte) : Byte :=
  match mode with
  | .gloss => 0
  | .matte => 0xFF
  | .pattern => own

section
variable {mode : Finish} {own : Option (List Byte)} {n : Nat}

theorem finishBytes_length (enough : ∀ bs, own = some bs → n ≤ bs.length) : (finishBytes mode own n).length = n := by
  unfold finishBytes
  split
  · exact List.length_replicate
  · exact List.length_replicate
  next bs => exact List.length_take_of_le (enough bs rfl)
  · exact List.length_replicate

theorem finishBytes_getElem? (enough : ∀ bs, own = some bs → n ≤ bs.length) {j : Nat} (h : j < n) :
    (finishBytes mode own n)[j]? = some (mode.byteOf ((own.map fun bs => bs.getD j 0).getD 0)) := by
  have fills (b : Byte) : (List.replicate n b)[j]? = some b := by rw [List.getElem?_replicate, if_pos h]
  cases mode with
  | gloss => exact fills 0
  | matte => exact fills 0xFF
  | pattern =>
    cases own with
    | none => exact fills 0
    | some bs =>
      have inside : j < bs.length := Nat.lt_of_lt_of_le h (enough bs rfl)
      show (bs.take n)[j]? = some (bs.getD j 0)
      rw [List.getElem?_take_of_lt h, List.getElem?_eq_getElem inside, List.getD_eq_getElem _ _ inside]

end

section
variable {it : Item} {band : List Byte}

/-- A band that passes the checks and whose flag is set carries a finish byte for each dot. -/
theorem Item.ownFinish_covers (fits : bandFits it band = true) {bs : List Byte} (own : it.ownFinish band = some bs) :
    it.width / 2 ≤ bs.length := by
  obtain ⟨-, -, length⟩ := (bandFits_iff it band).mp fits
  obtain ⟨flag, carried⟩ := Option.ite_none_right_eq_some.mp own
  cases carried
  rw [List.length_drop]
  omega

theorem Item.ownFinish_getD (it : Item) (band : List Byte) (j : Nat) :
    ((it.ownFinish band).map fun bs => bs.getD j 0).getD 0
      = if u8 band 4 = 1 then band.getD (6 + 3 * (it.width / 2) + j) 0 else 0 := by
  unfold Item.ownFinish
  split
  · exact getD_drop band _ j
  · rfl

end

/-! ### The plane writes (R150, R154) -/

/-- The bytes of a band for each of the four planes: yellow, magenta, cyan and finish. -/
def planeBytes (tone : List Nat) (it : Item) (band : List Byte) (own : Option (List Byte)) (p : Fin 4) : List Byte :=
  let n := it.width / 2
  let dots := tripleTones tone (band.drop 6) n
  match p with
  | 0 => dots.map fun d => d.2.2
  | 1 => dots.map fun d => d.2.1
  | 2 => dots.map fun d => d.1
  | 3 => finishBytes it.finish own n

theorem planeWrites_getElem? (tone : List Nat) (it : Item) (g : Region) (row half : Nat) (band : List Byte)
    (own : Option (List Byte)) (p : Fin 4) :
    (planeWrites tone it g row half (band.drop 6) own)[p.val]?
      = some { addr := g.dotAddr p.val row it.width (half * (it.width / 2)), bytes := planeBytes tone it band own p } :=
  match p with
  | 0 | 1 | 2 | 3 => rfl

section
variable {tone : List Nat} {it : Item} {band : List Byte} {own : Option (List Byte)}

theorem planeBytes_length (enough : ∀ bs, own = some bs → it.width / 2 ≤ bs.length) (p : Fin 4) :
    (planeBytes tone it band own p).length = it.width / 2 :=
  match p with
  | 0 | 1 | 2 => (List.length_map _).trans (tripleTones_length tone band _)
  | 3 => finishBytes_length enough

theorem planeBytes_tone {j : Nat} (h : j < it.width / 2) :
    (planeBytes tone it band own 0)[j]? = some (dotTone tone band 6 521 j)
      ∧ (planeBytes tone it band own 1)[j]? = some (dotTone tone band 3 265 j)
      ∧ (planeBytes tone it band own 2)[j]? = some (dotTone tone band 0 9 j) := by
  simp only [planeBytes, List.getElem?_map, tripleTones_getElem? tone band h, Option.map_some, and_self]

end

/-- Settles O51: the checks of the oldest band, and the plane writes of one that passes, byte by byte. -/
theorem bandsAreConverted : Obligations.BandsAreConverted := by
  unfold Obligations.BandsAreConverted
  intro s band rest hr idle hq discarded passes
  have discards (fails : s.toPart.bandChecks band = none) : exec .bandTake s = .next discarded :=
    exec_bandTake_discards hr idle hq fails
  refine ⟨fun unnamed => discards (Part.bandChecks_unnamed unnamed), fun id long hid =>
    ⟨fun free => discards (Part.bandChecks_unused hid free), fun it hit => ?_⟩⟩
  have checks := Part.bandChecks_item (p := s.toPart) long hid hit
  have passes_iff : passes it ↔ (it.state = .defined ∨ it.state = .receiving) ∧ bandFits it band = true :=
    and_congr_right' (bandFits_iff it band).symm
  refine ⟨fun fails => discards (checks.trans (if_neg (passes_iff.not.mp fails))), fun holds => ?_⟩
  obtain ⟨receives, fits⟩ := passes_iff.mp holds
  have covers : ∀ bs, it.ownFinish band = some bs → it.width / 2 ≤ bs.length := fun _ => Item.ownFinish_covers fits
  refine ⟨s.rin.writesOf it s.spl.regions[it.region] band,
    exec_bandTake_accepts hr idle hq hit (checks.trans (if_pos ⟨receives, fits⟩)), rfl, fun p w hw => ?_⟩
  obtain rfl := Option.some.inj ((planeWrites_getElem? ..).symm.trans hw)
  refine ⟨rfl, planeBytes_length covers p, fun j hj => ?_⟩
  obtain ⟨yellow, magenta, cyan⟩ :=
    planeBytes_tone (tone := s.rin.tones[it.tone]) (band := band) (own := it.ownFinish band) hj
  have finish := finishBytes_getElem? (mode := it.finish) covers hj
  rw [dotTone_eq] at yellow magenta cyan
  rw [Item.ownFinish_getD] at finish
  refine ⟨?_, ?_, ?_, ?_⟩ <;> rintro rfl
  exacts [yellow, magenta, cyan, finish]

end Sys2Proof.Machine
end

section
/-! PROOFS. What a command answers (R153, R155): a next state with the commands that wait as they were, or the one fault. -/

set_option Elab.async false

open Sys2Proof Sys2Proof.Machine

namespace Sys2Proof.Machine

/-- Every command but the completion of an access answers its function of the part; the reset line holds off those that move
no pin (log entry 8). -/
theorem exec_eq_answer {c : Instr} (hc : c ≠ .spoolAccessDone) (s : State) :
    exec c s = if movesAPin c then .next { s with toPart := runOf c s.toPart } else s.answer (runOf c) := by
  cases c with
  | spoolAccessDone => exact absurd rfl hc
  | _ => rfl

/-- A command answers a next state and leaves the commands that wait (log entry 2). -/
def State.Answers (s : State) (outcome : Host.Outcome State Fault Refusal) : Prop :=
  ∃ t, outcome = .next t ∧ t.pending = s.pending

theorem State.answer_answers (s : State) (f : Part → Part) : s.Answers (s.answer f) := ⟨_, rfl, rfl⟩

theorem exec_answers {c : Instr} (hc : c ≠ .spoolAccessDone) (s : State) : s.Answers (exec c s) := by
  rw [exec_eq_answer hc]
  split
  · exact ⟨_, rfl, rfl⟩
  · exact s.answer_answers _

/-- An access that does not lie in the spool reaches beyond its 256 MiB (R153). -/
theorem Access.beyond_of_not_inSpool {a : Access} (h : ¬ a.inSpool = true) :
    268435456 < a.addr + max a.len a.bytes.length :=
  Nat.not_le.mp (mt decide_eq_true h)

/-- The completion of an access: a next state, unless the access reaches beyond the spool (R153, log entry 10). -/
theorem execSpoolAccessDone_answers (s : State) : s.Answers (execSpoolAccessDone s)
    ∨ (execSpoolAccessDone s = .fault .spoolAddress
      ∧ ∃ a, s.spl.port = some a ∧ 268435456 < a.addr + max a.len a.bytes.length) := by
  unfold execSpoolAccessDone
  split
  next a _ port =>
    split
    next => exact .inl (s.answer_answers _)
    next outside => exact .inr ⟨rfl, a, port, Access.beyond_of_not_inSpool outside⟩
  next => exact .inl ⟨s, rfl, rfl⟩

/-- Settles O2: only the completion of an access has a branch that answers no next state. -/
theorem onlyAnAccessBeyondTheSpoolStops : Obligations.OnlyAnAccessBeyondTheSpoolStops := by
  unfold Obligations.OnlyAnAccessBeyondTheSpoolStops
  intro c s
  by_cases access : c = .spoolAccessDone
  · subst access
    exact (execSpoolAccessDone_answers s).imp_right fun stops => ⟨rfl, stops⟩
  · exact .inl (exec_answers access s)

end Sys2Proof.Machine
end

section
/-! PROOFS. REGION_OPEN and REGION_CLOSE (R153, R155, R156): their checks in order, each as one equation of the request. -/

set_option Elab.async false

open Sys2Proof Sys2Proof.Machine

namespace Sys2Proof.Machine

/-! ### The answers -/

/-- A request refused with a result: all else is as it was (R8). -/
theorem State.serve_refuses_with {s : State} {code : Byte} {tag : Nat} {args : List Byte} {rest : List CtrlEntry}
    (h : s.Asks code tag args rest) (hm : s.svc.mode.serving = true) {lengthOk : Nat → Bool}
    {admits : Mode → Option Status} {run : Part → Nat → List Byte → Served} (hl : lengthOk args.length = true)
    (ha : admits s.svc.mode = none) {st : Status} {result : List Byte}
    (hrun : run (s.toPart.dequeue rest) tag args = { Served.refuse (s.toPart.dequeue rest) st with result := result }) :
    s.answer (fun p => p.serve code lengthOk admits run) = .next (s.replying rest tag code st result) := by
  rw [State.serve_admitted h hm hl ha, hrun]
  rfl

/-! ### Regions that a block meets -/

theorem Region.meets_iff (g : Region) (base size : Nat) : g.meets base size = true
    ↔ g.valid = true ∧ g.base < base + size * Config.mib ∧ base < g.base + g.size * Config.mib := by
  simp only [Region.meets, Bool.and_eq_true, decide_eq_true_eq, and_assoc]

section
variable {p : Part} {base size : Nat}

/-- Check 6 of R155 reports the lowest region that the new one would meet. -/
theorem Part.overlapped_eq_some {q : Fin 16} (hits : p.spl.regions[q].meets base size = true)
    (lowest : ∀ q' : Fin 16, q' < q → ¬ p.spl.regions[q'].meets base size = true) : p.overlapped base size = some q := by
  rw [Part.overlapped, ← Fin.find?_eq_find?_finRange, Fin.find?_eq_some_iff]
  exact ⟨hits, fun q' below => Bool.eq_false_iff.mpr (lowest q' below)⟩

theorem Part.overlapped_eq_none (h : ∀ q : Fin 16, ¬ p.spl.regions[q].meets base size = true) :
    p.overlapped base size = none := by
  rw [Part.overlapped, ← Fin.find?_eq_find?_finRange, Fin.find?_eq_none_iff]
  exact fun q => Bool.eq_false_iff.mpr (h q)

end

/-! ### The checks of REGION_OPEN -/

theorem regionSizes_contains (size : Nat) : regionSizes.contains size = true ↔ size ∈ [4, 8, 16, 32, 64] :=
  List.contains_iff_mem

theorem Part.regionOpen_badArgument {p : Part} {args : List Byte}
    (h : 16 ≤ u8 args 0 ∨ u8 args 1 ∉ [4, 8, 16, 32, 64]) : p.regionOpen args = .refuse p .badArgument := by
  by_cases index : 16 ≤ u8 args 0
  · simp only [Part.regionOpen, regionArg_none index]
  · have size : regionSizes.contains (u8 args 1) = false :=
      Bool.eq_false_iff.mpr (mt (regionSizes_contains _).mp (h.resolve_left index))
    simp only [Part.regionOpen, regionArg_some (r := ⟨u8 args 0, Nat.not_le.mp index⟩) rfl, size, Bool.not_false, if_true]

section
variable {p : Part} {args : List Byte} {r : Fin 16} (hr : u8 args 0 = r.val) (hs : u8 args 1 ∈ [4, 8, 16, 32, 64])
include hr hs

/-- The checks that are left once the index and the size have passed (R155). -/
theorem Part.regionOpen_sized : p.regionOpen args =
    if u32 args 4 % (u8 args 1 * 1048576) ≠ 0 then .refuse p .misaligned
    else if 268435456 < u32 args 4 + u8 args 1 * 1048576 then .refuse p .outOfRange
    else if p.spl.regions[r].valid then { Served.refuse p .inUse with result := p.spl.regions[r].extent }
    else
      let g : Region := { valid := true, base := u32 args 4, size := u8 args 1, holder := none }
      (p.overlapped (u32 args 4) (u8 args 1)).elim (.done (p.modRegion r fun _ => g) (byte r.val :: g.extent))
        fun q => { Served.refuse p .overlap with result := [byte q.val] } := by
  simp only [Part.regionOpen, regionArg_some hr, (regionSizes_contains _).mpr hs, Bool.not_true, Bool.false_eq_true, if_false]
  cases p.overlapped (u32 args 4) (u8 args 1) <;> rfl

theorem Part.regionOpen_misaligned (h : u32 args 4 % (u8 args 1 * 1048576) ≠ 0) :
    p.regionOpen args = .refuse p .misaligned := by
  rw [Part.regionOpen_sized hr hs, if_pos h]

variable (aligned : u32 args 4 % (u8 args 1 * 1048576) = 0)
include aligned

theorem Part.regionOpen_outOfRange (h : 268435456 < u32 args 4 + u8 args 1 * 1048576) :
    p.regionOpen args = .refuse p .outOfRange := by
  rw [Part.regionOpen_sized hr hs, if_neg (not_not.mpr aligned), if_pos h]

variable (inside : u32 args 4 + u8 args 1 * 1048576 ≤ 268435456)
include inside

theorem Part.regionOpen_inUse (h : p.spl.regions[r].valid = true) :
    p.regionOpen args = { Served.refuse p .inUse with result := p.spl.regions[r].extent } := by
  rw [Part.regionOpen_sized hr hs, if_neg (not_not.mpr aligned), if_neg (Nat.not_lt.mpr inside), if_pos h]

variable (free : p.spl.regions[r].valid = false)
include free

theorem Part.regionOpen_overlap {q : Fin 16} (h : p.overlapped (u32 args 4) (u8 args 1) = some q) :
    p.regionOpen args = { Served.refuse p .overlap with result := [byte q.val] } := by
  rw [Part.regionOpen_sized hr hs, if_neg (not_not.mpr aligned), if_neg (Nat.not_lt.mpr inside),
    if_neg (ne_true_of_eq_false free), h, Option.elim_some]

theorem Part.regionOpen_done (h : p.overlapped (u32 args 4) (u8 args 1) = none) :
    p.regionOpen args =
      let g : Region := { valid := true, base := u32 args 4, size := u8 args 1, holder := none }
      .done (p.modRegion r fun _ => g) (byte r.val :: g.extent) := by
  rw [Part.regionOpen_sized hr hs, if_neg (not_not.mpr aligned), if_neg (Nat.not_lt.mpr inside),
    if_neg (ne_true_of_eq_false free), h, Option.elim_none]

end

/-! ### The checks of REGION_CLOSE -/

theorem Part.regionClose_badArgument {p : Part} {args : List Byte} (h : 16 ≤ u8 args 0) :
    p.regionClose args = .refuse p .badArgument := by
  simp only [Part.regionClose, regionArg_none h]

section
variable {p : Part} {args : List Byte} {r : Fin 16} (hr : u8 args 0 = r.val)
include hr

theorem Part.regionClose_wrongState (h : p.spl.regions[r].valid = false) :
    p.regionClose args = .refuse p .wrongState := by
  simp only [Part.regionClose, regionArg_some hr, h, Bool.not_false, if_true]

variable (opened : p.spl.regions[r].valid = true)
include opened

theorem Part.regionClose_inUse {id : Fin 64} (h : p.spl.regions[r].holder = some id) :
    p.regionClose args = { Served.refuse p .inUse with result := [byte id.val] } := by
  simp only [Part.regionClose, regionArg_some hr, opened, h, Bool.not_true, Bool.false_eq_true, if_false]

theorem Part.regionClose_done (h : p.spl.regions[r].holder = none) :
    p.regionClose args = .done (p.modRegion r fun g => { g with valid := false }) p.spl.regions[r].extent := by
  simp only [Part.regionClose, regionArg_some hr, opened, h, Bool.not_true, Bool.false_eq_true, if_false]

end

/-- Settles O52: the checks of the two requests one after the other, and the region that each changes. -/
theorem regionsOpenAndClose : Obligations.RegionsOpenAndClose := by
  unfold Obligations.RegionsOpenAndClose
  intro s tag args rest hm region extent
  let p := s.toPart.dequeue rest
  refine ⟨fun asks hl => ?_, fun asks hl => ?_⟩
  · intro answered size base covers
    have length : exactly 8 args.length = true := by simp [exactly, hl]
    have refuses {st : Status} (h : p.regionOpen args = .refuse p st) : answered st [] :=
      State.serve_refuses asks hm (admits := admitAll) length rfl h
    have refuses_with {st : Status} {result : List Byte}
        (h : p.regionOpen args = { Served.refuse p st with result := result }) : answered st result :=
      State.serve_refuses_with asks hm (admits := admitAll) length rfl h
    have meets (q : Fin 16) : p.spl.regions[q].meets base size = true ↔ covers q := Region.meets_iff _ _ _
    refine ⟨fun bad => refuses (Part.regionOpen_badArgument bad), fun r hr hs =>
      ⟨fun h => refuses (Part.regionOpen_misaligned hr hs h), fun aligned =>
        ⟨fun h => refuses (Part.regionOpen_outOfRange hr hs aligned h), fun inside => ⟨fun valid => ?_,
          fun free q hits lowest => ?_, fun free apart => ?_⟩⟩⟩⟩
    · exact refuses_with (Part.regionOpen_inUse (p := p) hr hs aligned inside valid)
    · have first : p.overlapped base size = some q :=
        Part.overlapped_eq_some ((meets q).mpr hits) fun q' below => mt (meets q').mp (lowest q' below)
      exact refuses_with (Part.regionOpen_overlap (p := p) hr hs aligned inside free first)
    · have none_met : p.overlapped base size = none := Part.overlapped_eq_none fun q => mt (meets q).mp (apart q)
      refine (State.serve_admitted asks hm (admits := admitAll) length rfl).trans ?_
      rw [Part.regionOpen_done (p := p) hr hs aligned inside free none_met]
      rfl
  · intro answered
    have length : exactly 1 args.length = true := by simp [exactly, hl]
    have refuses {st : Status} (h : p.regionClose args = .refuse p st) : answered st [] :=
      State.serve_refuses asks hm (admits := admitAll) length rfl h
    refine ⟨fun big => refuses (Part.regionClose_badArgument big), fun r hr =>
      ⟨fun closed => refuses (Part.regionClose_wrongState hr closed), fun id opened held => ?_, fun opened free => ?_⟩⟩
    · exact State.serve_refuses_with asks hm (admits := admitAll) length rfl
        (Part.regionClose_inUse (p := p) hr opened held)
    · refine (State.serve_admitted asks hm (admits := admitAll) length rfl).trans ?_
      rw [Part.regionClose_done (p := p) hr opened free]
      rfl

end Sys2Proof.Machine
end

section
/-! PROOFS. The stores of the part, which are the spool's bytes, the tone sets and the energy tables (R145, R153, R180): what
leaves them as they were, operation by operation and request by request. -/

set_option Elab.async false

open Sys2Proof Sys2Proof.Machine

namespace Sys2Proof.Machine

/-! ### The stores -/

/-- The spool's bytes (R153), the tone sets (R145) and the energy tables of the two engines (R180). -/
structure Stores where
  mem : List Host.Cell
  tones : Vector (List Nat) 4
  energyA : List Nat
  energyB : List Nat

/-- The stores are among the fields that no shared operation touches. -/
def Fixed.stores (x : Fixed) : Stores := { mem := x.mem, tones := x.tones, energyA := x.energyA, energyB := x.energyB }

def Part.stores (p : Part) : Stores := p.fixed.stores

theorem Part.stores_of_fixed {p q : Part} (h : q.fixed = p.fixed) : q.stores = p.stores := congrArg Fixed.stores h

theorem foldl_stores {α : Type} {f : Part → α → Part} (h : ∀ p x, (f p x).stores = p.stores) (l : List α) (p : Part) :
    (l.foldl f p).stores = p.stores := foldl_reads h l p

theorem Part.feed_stores (p : Part) : p.feed.stores = p.stores := Part.stores_of_fixed p.feed_fixed

/-! ### Waking (R24, R28 to R30) -/

theorem Part.wakeToLive_stores (p : Part) : p.wakeToLive.stores = p.stores :=
  (congrArg Fixed.stores p.wakeToLive_fixed).trans rfl

theorem Part.wakeCondition_stores (p : Part) (w : WakeSource) : (p.wakeCondition w).stores = p.stores := by
  unfold Part.wakeCondition
  split
  case h_2 | h_4 => exact p.wakeToLive_stores
  all_goals rfl

theorem Part.raiseWake_stores (p : Part) (w : WakeSource) : (p.raiseWake w).stores = p.stores := by
  simp only [Part.raiseWake]
  split
  · exact Part.wakeCondition_stores _ w
  · rfl

theorem Part.controlArrival_stores (p : Part) : p.controlArrival.stores = p.stores := by
  unfold Part.controlArrival
  split
  case h_2 | h_3 => exact p.wakeToLive_stores
  all_goals rfl

theorem Part.failDebounce_stores (p : Part) (w : WakeSource) : (p.failDebounce w).stores = p.stores := by
  unfold Part.failDebounce
  split
  · split <;> rfl
  · rfl

/-! ### Postings (R112 to R116) -/

theorem Part.post_stores (p : Part) (c : Fin 6) (amount : Nat) : (p.post c amount).stores = p.stores := by
  unfold Part.post
  split
  · rfl
  · split
    · dsimp only
      split
      · rfl
      · exact (Part.stores_of_fixed (Part.creditOrder_fixed _ _ amount)).trans rfl
    · rfl

theorem Part.endTrain_stores (p : Part) (c : Fin 6) : (p.endTrain c).stores = p.stores := by
  unfold Part.endTrain
  split
  · exact Part.post_stores _ c _
  · rfl

theorem Part.endDueTrain_stores (p : Part) (c : Fin 6) : (p.endDueTrain c).stores = p.stores := by
  unfold Part.endDueTrain
  split
  · split
    · exact p.endTrain_stores c
    · rfl
  · rfl

theorem Part.jamByPulse_stores (p : Part) (c : Fin 6) : (p.jamByPulse c).stores = p.stores := p.endTrain_stores c

theorem Part.channelDue_stores (p : Part) (c : Fin 6) : (p.channelDue c).stores = p.stores := by
  simp only [Part.channelDue]
  refine (Part.endDueTrain_stores _ c).trans ?_
  split
  · split
    · exact p.jamByPulse_stores c
    · rfl
  · rfl

/-! ### Requests of the service controller -/

theorem Part.tableRead_stores (p : Part) (args : List Byte) : (p.tableRead args).part.stores = p.stores := by
  simp only [Part.tableRead]
  split
  · rfl
  · split <;> rfl

theorem Part.statusRead_stores (p : Part) (args : List Byte) : (p.statusRead args).part.stores = p.stores := by
  simp only [Part.statusRead]
  split <;> rfl

theorem Part.setMask_stores (p : Part) (args : List Byte) : (p.setMask args).part.stores = p.stores := by
  simp only [Part.setMask]
  split <;> rfl

theorem Part.checkLive_stores (p : Part) (args : List Byte) : (p.checkLive args).part.stores = p.stores := by
  simp only [Part.checkLive]
  split <;> rfl

theorem Part.askPark_stores (p : Part) : p.askPark.part.stores = p.stores := by
  simp only [Part.askPark]
  split
  · rfl
  · split <;> rfl

theorem Part.wakeSet_stores (p : Part) (args : List Byte) : (p.wakeSet args).part.stores = p.stores := by
  simp only [Part.wakeSet]
  split <;> rfl

/-! ### Requests of the card slots -/

theorem Part.slotUnbind_stores (p : Part) (args : List Byte) : (p.slotUnbind args).part.stores = p.stores := by
  simp only [Part.slotUnbind]
  split
  · rfl
  · split
    · rfl
    · split
      · rfl
      · exact Part.stores_of_fixed (p.dropBinding_fixed _)

theorem Part.sectorRead_stores (p : Part) (tag : Nat) (args : List Byte) :
    (p.sectorRead tag args).part.stores = p.stores := by
  have accept (i : Fin 4) (first count : Nat) : (p.acceptRead i tag first count).part.stores = p.stores :=
    Part.stores_of_fixed (Part.beginTurn_fixed _)
  simp only [Part.sectorRead]
  split
  · rfl
  · repeat (split; · rfl)
    exact accept _ _ _

theorem Part.readCancel_stores (p : Part) (args : List Byte) : (p.readCancel args).part.stores = p.stores := by
  have cancel (i : Fin 4) (r : ReadReq) : (p.cancelRead i r).stores = p.stores := by
    unfold Part.cancelRead
    split
    · split
      · rfl
      · exact Part.stores_of_fixed (by simp)
    · exact Part.stores_of_fixed (by simp)
  simp only [Part.readCancel]
  split
  · rfl
  · split
    · rfl
    · exact cancel _ _

/-! ### Requests of orders and items -/

theorem Part.orderOpen_stores (p : Part) (args : List Byte) : (p.orderOpen args).part.stores = p.stores := by
  have opens (k : Fin 32) (number : Nat) (funding : Funding) (slot : Option (Fin 4)) :
      (p.openOrder k number funding slot).part.stores = p.stores := by cases slot <;> rfl
  simp only [Part.orderOpen]
  split
  · repeat (split; · rfl)
    split
    · exact opens _ _ _ _
    · rfl
  · rfl

theorem Part.itemAdd_stores (p : Part) (args : List Byte) : (p.itemAdd args).part.stores = p.stores := by
  simp only [Part.itemAdd]
  split
  · rfl
  · split
    · rfl
    · split
      · rfl
      · split
        · rfl
        · repeat (split; · rfl)
          rfl

theorem Part.itemWithdraw_stores (p : Part) (args : List Byte) : (p.itemWithdraw args).part.stores = p.stores := by
  have withdraws (id : Fin 64) (it : Item) : ((p.withdrawWithWalk id).checkSettling it.order).stores = p.stores :=
    Part.stores_of_fixed ((Part.checkSettling_fixed _ _).trans (p.withdrawWithWalk_fixed id))
  simp only [Part.itemWithdraw]
  split
  · rfl
  · split
    · rfl
    · split
      case h_6 | h_7 | h_8 | h_5 => exact withdraws _ _
      all_goals rfl

theorem Part.orderCommit_stores (p : Part) (args : List Byte) : (p.orderCommit args).part.stores = p.stores := by
  simp only [Part.orderCommit]
  split
  · rfl
  · split
    · rfl
    · exact Part.stores_of_fixed (by simp)

theorem Part.orderCancel_stores (p : Part) (args : List Byte) : (p.orderCancel args).part.stores = p.stores := by
  simp only [Part.orderCancel]
  split
  · rfl
  · split
    · rfl
    · split
      · rfl
      · exact Part.stores_of_fixed (p.cancelOrder_fixed _ _)

theorem Part.orderResume_stores (p : Part) (args : List Byte) : (p.orderResume args).part.stores = p.stores := by
  simp only [Part.orderResume]
  split
  · rfl
  · split <;> rfl

theorem Part.orderRead_stores (p : Part) (args : List Byte) : (p.orderRead args).part.stores = p.stores := by
  simp only [Part.orderRead]
  split <;> rfl

theorem Part.orderRelease_stores (p : Part) (args : List Byte) : (p.orderRelease args).part.stores = p.stores := by
  simp only [Part.orderRelease]
  split
  · rfl
  next k o _ =>
    split
    · exact foldl_stores (f := Part.freeItemEntry) (fun _ _ => rfl) o.items p
    · rfl

/-! ### Requests of the payment unit -/

theorem Part.focusSet_stores (p : Part) (args : List Byte) : (p.focusSet args).part.stores = p.stores := by
  simp only [Part.focusSet]
  split
  · rfl
  · split <;> rfl

theorem Part.channelReset_stores (p : Part) (ms : Nat) (args : List Byte) :
    (p.channelReset ms args).part.stores = p.stores := by
  have reset (q : Part) (c : Fin 6) : (q.unjam c).stores = q.stores := by
    unfold Part.unjam
    dsimp only
    split <;> rfl
  simp only [Part.channelReset]
  split
  · rfl
  · split
    · exact (reset _ _).trans (Part.channelDue_stores _ _)
    · rfl

theorem Part.poolApply_stores (p : Part) (args : List Byte) : (p.poolApply args).part.stores = p.stores := by
  simp only [Part.poolApply]
  split
  · rfl
  · repeat (split; · rfl)
    exact (Part.stores_of_fixed (Part.creditOrder_fixed _ _ _)).trans rfl

theorem Part.poolPayout_stores (p : Part) (args : List Byte) : (p.poolPayout args).part.stores = p.stores := by
  simp only [Part.poolPayout]
  split <;> rfl

theorem Part.cardAuthorize_stores (p : Part) (args : List Byte) : (p.cardAuthorize args).part.stores = p.stores := by
  simp only [Part.cardAuthorize]
  split
  · rfl
  · repeat (split; · rfl)
    exact Part.stores_of_fixed (Part.joinOp_fixed _ _)

/-! ### Requests of the spool and the engines -/

theorem Part.regionOpen_stores (p : Part) (args : List Byte) : (p.regionOpen args).part.stores = p.stores := by
  simp only [Part.regionOpen]
  split
  · rfl
  · repeat (split; · rfl)
    rfl

theorem Part.regionClose_stores (p : Part) (args : List Byte) : (p.regionClose args).part.stores = p.stores := by
  simp only [Part.regionClose]
  split
  · rfl
  · split
    · rfl
    · split <;> rfl

theorem Part.engineOnline_stores (p : Part) (args : List Byte) : (p.engineOnline args).part.stores = p.stores := by
  simp only [Part.engineOnline]
  split
  · rfl
  · split
    · rfl
    · exact Part.stores_of_fixed (by simp)
    all_goals
      split
      · exact Part.stores_of_fixed (by simp [Part.modEng_fixed])
      · rfl

theorem Part.engineOffline_stores (p : Part) (args : List Byte) : (p.engineOffline args).part.stores = p.stores := by
  simp only [Part.engineOffline]
  split
  · rfl
  · split
    · rfl
    · rfl
    all_goals exact Part.stores_of_fixed (by simp [Part.modEng_fixed])

theorem Part.engineClear_stores (p : Part) (args : List Byte) : (p.engineClear args).part.stores = p.stores := by
  simp only [Part.engineClear]
  split
  · rfl
  · split
    · split
      · rfl
      · exact Part.stores_of_fixed (p.clearFault_fixed _)
    · rfl

theorem Part.mediaSet_stores (p : Part) (args : List Byte) : (p.mediaSet args).part.stores = p.stores := by
  simp only [Part.mediaSet]
  split
  · rfl
  · repeat (split; · rfl)
    exact Part.stores_of_fixed ((Part.walk_fixed _).trans (p.loadMedia_fixed _ _ _))

end Sys2Proof.Machine
end

section
/-! PROOFS. The form of the stores (R153, log entry 9, 13.4), and what the events leave of the stores: the form is kept by a
table write, by a write to the spool inside its addresses, and by the reset, and every other command leaves the stores. -/

set_option Elab.async false

open Sys2Proof Sys2Proof.Machine

namespace Sys2Proof.Machine

/-! ### The form of the stores -/

/-- The tone sets and the energy tables have their numbers of words (13.4). -/
def Stores.Sized (x : Stores) : Prop :=
  (∀ k : Fin 4, x.tones[k].length = 777) ∧ x.energyA.length = 1024 ∧ x.energyB.length = 1024

theorem State.tablesSized_iff (s : State) : s.tablesSized ↔ s.toPart.stores.Sized := by
  constructor
  · rintro ⟨tones, energy⟩
    exact ⟨tones, energy .A, energy .B⟩
  · rintro ⟨tones, energyA, energyB⟩
    exact ⟨tones, fun e => match e with
      | .A => energyA
      | .B => energyB⟩

/-- Where the spool's bytes of `p` are in their canonical form, so are those of `q`, and likewise the sizes of the tables. -/
def Part.KeepsForm (p q : Part) : Prop :=
  (Memory.wf p.stores.mem = true → Memory.wf q.stores.mem = true) ∧ (p.stores.Sized → q.stores.Sized)

theorem Part.KeepsForm.of_stores {p q : Part} (h : q.stores = p.stores) : p.KeepsForm q := by
  unfold Part.KeepsForm
  rw [h]
  exact ⟨id, id⟩

theorem Part.KeepsForm.of_fixed {p q : Part} (h : q.fixed = p.fixed) : p.KeepsForm q := .of_stores (stores_of_fixed h)

theorem Part.KeepsForm.refl (p : Part) : p.KeepsForm p := .of_stores rfl

theorem Part.KeepsForm.trans {p q r : Part} (h : p.KeepsForm q) (h' : q.KeepsForm r) : p.KeepsForm r :=
  ⟨fun form => h'.1 (h.1 form), fun sized => h'.2 (h.2 sized)⟩

/-! ### Requests that the handler takes -/

theorem Part.takeRequest_stores (p : Part) (rest : List CtrlEntry) : (p.takeRequest rest).stores = p.stores := by
  unfold Part.takeRequest
  split <;> rfl

/-- A request that the handler takes keeps the form where its owning block does (R8). -/
theorem Part.serve_keepsForm (p : Part) (code : Byte) (lengthOk : Nat → Bool) (admits : Mode → Option Status)
    {run : Part → Nat → List Byte → Served} (h : ∀ (q : Part) tag args, q.KeepsForm (run q tag args).part) :
    p.KeepsForm (p.serve code lengthOk admits run) := by
  unfold Part.serve
  split
  next e rest _ _ =>
    split
    · refine .trans (.of_stores (p.takeRequest_stores rest)) ?_
      show KeepsForm _ (Part.checked _ lengthOk admits e.payload _).part
      unfold Part.checked
      split
      · split
        · split
          · exact .refl _
          · exact h _ _ _
        · exact .refl _
      · exact .refl _
    · exact .refl p
  next => exact .refl p

/-- The same of a request whose owning block leaves the stores. -/
theorem Part.serve_of_stores (p : Part) (code : Byte) (lengthOk : Nat → Bool) (admits : Mode → Option Status)
    {run : Part → Nat → List Byte → Served} (h : ∀ (q : Part) tag args, (run q tag args).part.stores = q.stores) :
    p.KeepsForm (p.serve code lengthOk admits run) :=
  p.serve_keepsForm code lengthOk admits fun q tag args => .of_stores (h q tag args)

/-! ### TABLE_WRITE (R13) -/

theorem spliceWords_length (old : List Nat) (first count : Nat) (bytes : List Byte) :
    (spliceWords old first count bytes).length = old.length := by
  rw [spliceWords, List.length_map, List.length_zipIdx]

/-- The words of a table are replaced one for one. -/
theorem Part.storeTable_keepsForm (p : Part) (T : TableId) (first count : Nat) (bytes : List Byte) :
    p.KeepsForm (p.storeTable T first count bytes) := by
  have spliced {old : List Nat} {n : Nat} (h : old.length = n) : (spliceWords old first count bytes).length = n :=
    (spliceWords_length ..).trans h
  cases T with
  | tone k =>
    refine ⟨id, fun ⟨tones, energy⟩ => ⟨fun j => ?_, energy⟩⟩
    show (p.rin.tones.set k (spliceWords p.rin.tones[k] first count bytes))[j].length = 777
    by_cases own : j = k
    · subst own
      exact (congrArg List.length (Vector.getElem_set_self j.isLt)).trans (spliced (tones j))
    · have apart : k.val ≠ j.val := fun same => own (Fin.ext same.symm)
      exact (congrArg List.length (Vector.getElem_set_ne k.isLt j.isLt apart)).trans (tones j)
  | energy e =>
    cases e with
    | A => exact ⟨id, fun ⟨tones, energyA, energyB⟩ => ⟨tones, spliced energyA, energyB⟩⟩
    | B => exact ⟨id, fun ⟨tones, energyA, energyB⟩ => ⟨tones, energyA, spliced energyB⟩⟩
  | params e => cases e <;> exact .of_stores rfl
  | product | priceKey | channels | slotParams => exact .of_stores rfl

theorem Part.writeTable_keepsForm (p : Part) (T : TableId) (ms first count : Nat) (bytes : List Byte) :
    p.KeepsForm (p.writeTable T ms first count bytes) := by
  unfold Part.writeTable
  split
  · have before := foldl_stores Part.channelDue_stores
      (((List.finRange 6).filter fun c => first ≤ c.val && c.val < first + count).foldr p.insertByDue []) (p.advance ms)
    exact (KeepsForm.of_stores before).trans
      ((Part.storeTable_keepsForm _ .channels first count bytes).trans (.of_stores (foldl_stores Part.channelDue_stores _ _)))
  · exact p.storeTable_keepsForm _ first count bytes

theorem Part.tableWrite_keepsForm (p : Part) (ms : Nat) (args : List Byte) : p.KeepsForm (p.tableWrite ms args).part := by
  simp only [Part.tableWrite]
  split
  · exact .refl p
  · split
    · exact .refl p
    · split
      · exact .refl p
      · exact p.writeTable_keepsForm _ ms _ _ _

/-! ### SPOOL_ACCESS_DONE (R159) -/

/-- Of the stores, a write changes the spool's bytes, by its own. -/
theorem Part.writeDone_stores (p : Part) (a : Access) :
    (p.writeDone a).stores = { p.stores with mem := memWriteRun p.stores.mem a.addr a.bytes } := by
  simp only [Part.writeDone]
  split
  · split
    · exact Part.stores_of_fixed (Part.bandWritten_fixed _ _)
    · rfl
  · rfl

theorem Part.readDone_stores (p : Part) (a : Access) (e : EngineId) : (p.readDone a e).stores = p.stores := by
  simp only [Part.readDone]
  split
  · exact Part.stores_of_fixed (Part.lineReceived_fixed _ e _)
  · rfl

/-- An access inside the spool writes no address beyond it (R153). -/
theorem Part.accessDone_keepsForm (p : Part) {a : Access} (inside : a.inSpool = true) : p.KeepsForm (p.accessDone a) := by
  unfold Part.accessDone
  split
  · have bytes_inside : a.addr + a.bytes.length ≤ Config.spoolBytes :=
      (Nat.add_le_add_left (Nat.le_max_right ..) _).trans (of_decide_eq_true inside)
    unfold Part.KeepsForm
    rw [Part.writeDone_stores]
    exact ⟨fun form => memWf_memWriteRun bytes_inside form, id⟩
  · exact .of_stores (p.readDone_stores a _)

/-! ### The link -/

theorem Part.headerTaken_stores (p : Part) (b : Byte) : (p.headerTaken b).stores = p.stores := by
  simp only [Part.headerTaken]
  split
  · split
    · rfl
    · split <;> rfl
  · rfl

theorem Part.linkGapExpires_stores (p : Part) : p.linkGapExpires.stores = p.stores := by
  unfold Part.linkGapExpires
  split <;> rfl

theorem Part.frameTaken_stores (p : Part) (b : Byte) : (p.frameTaken b).stores = p.stores := by
  have ctrl (q : Part) (tag : Nat) (payload : List Byte) : (q.offerCtrl tag payload).stores = q.stores := by
    unfold Part.offerCtrl
    split
    · rfl
    · split
      · exact Part.stores_of_fixed (q.pushReply_fixed _)
      · rfl
  have band (q : Part) (payload : List Byte) : (q.offerBand payload).stores = q.stores := by
    unfold Part.offerBand
    split <;> rfl
  have dispatched (q : Part) (bytes : List Byte) : (q.dispatch bytes).stores = q.stores := by
    unfold Part.dispatch
    split
    · exact (ctrl _ _ _).trans q.controlArrival_stores
    · split
      · exact band q _
      · rfl
  simp only [Part.frameTaken]
  split
  · split
    · exact dispatched _ _
    · rfl
  · rfl

theorem Part.refuseUnknown_stores (p : Part) : p.refuseUnknown.stores = p.stores := by
  unfold Part.refuseUnknown
  split
  · split
    · exact p.takeRequest_stores _
    · rfl
  · rfl

theorem Part.handOver_stores (p : Part) : p.handOver.stores = p.stores := by
  have apply (h : Handover) : (p.applyHandover h).stores = p.stores := by cases h <;> rfl
  unfold Part.handOver
  split
  · split
    · exact (Part.stores_of_fixed (Part.pushReply_fixed _ _)).trans (apply _)
    · rfl
  all_goals rfl

theorem Part.transmitDone_stores (p : Part) : p.transmitDone.stores = p.stores := by
  unfold Part.transmitDone
  split
  · rfl
  · exact (Part.feed_stores _).trans rfl

/-! ### Debounces and the lines of the key and the slots -/

theorem Part.graceExpires_stores (p : Part) : p.graceExpires.stores = p.stores := by
  have parks : p.enterParked.stores = p.stores := by
    simp only [Part.enterParked]
    split
    · exact Part.wakeCondition_stores _ .pulse
    · exact foldl_stores Part.wakeCondition_stores _ _
  unfold Part.graceExpires
  split
  · split
    · exact parks
    · rfl
  · rfl

theorem Part.debounceExpires_stores (p : Part) (t : Fin 5) : (p.debounceExpires t).stores = p.stores := by
  unfold Part.debounceExpires
  split
  · split
    · exact p.wakeToLive_stores
    · exact p.failDebounce_stores _
  · rfl

theorem Part.keyRises_stores (p : Part) : p.keyRises.stores = p.stores := by
  unfold Part.keyRises
  split
  · rfl
  · dsimp only
    split
    · rfl
    · exact Part.raiseWake_stores _ .key

theorem Part.keyFalls_stores (p : Part) : p.keyFalls.stores = p.stores := by
  unfold Part.keyFalls
  split
  · dsimp only
    split
    · rfl
    · exact Part.failDebounce_stores _ .key
  · rfl

theorem Part.detectAssert_stores (p : Part) (i : Fin 4) : (p.detectAssert i).stores = p.stores := by
  simp only [Part.detectAssert]
  split
  · exact Part.raiseWake_stores _ _
  all_goals rfl

theorem Part.detectRises_stores (p : Part) (i : Fin 4) : (p.detectRises i).stores = p.stores := by
  unfold Part.detectRises
  split
  · rfl
  · dsimp only
    split
    · rfl
    · exact Part.detectAssert_stores _ i

theorem Part.detectFalls_stores (p : Part) (i : Fin 4) : (p.detectFalls i).stores = p.stores := by
  unfold Part.detectFalls
  split
  · dsimp only
    split
    · rfl
    · refine (Part.failDebounce_stores _ _).trans ?_
      split
      · exact (Part.stores_of_fixed (Part.removeCard_fixed _ i)).trans rfl
      · rfl
  · rfl

theorem Part.settled_stores (p : Part) (i : Fin 4) : (p.settled i).stores = p.stores := by
  unfold Part.settled
  split
  · split <;> rfl
  · rfl

/-! ### Pulses -/

theorem Part.pulseRises_stores (p : Part) (c : Fin 6) (ms : Nat) : (p.pulseRises c ms).stores = p.stores := by
  unfold Part.pulseRises
  split
  · rfl
  · dsimp only
    split
    · rfl
    · exact Part.endDueTrain_stores _ c

theorem Part.classify_stores (p : Part) (c : Fin 6) (w : Nat) (jammer : Bool) :
    (p.classify c w jammer).stores = p.stores := by
  have bill (value : Nat) : (p.billPulse c value).stores = p.stores := by
    unfold Part.billPulse
    split
    · rfl
    · dsimp only
      split
      · exact Part.endTrain_stores _ c
      · rfl
  have valid : (p.validPulse c).stores = p.stores := by
    refine (Part.raiseWake_stores _ .pulse).trans ?_
    split
    · exact p.post_stores c _
    · exact bill _
  simp only [Part.classify]
  split
  · split
    · exact p.endTrain_stores c
    · split
      · rfl
      · exact valid
  · split <;> rfl

theorem Part.pulseFalls_stores (p : Part) (c : Fin 6) (ms : Nat) : (p.pulseFalls c ms).stores = p.stores := by
  unfold Part.pulseFalls
  split
  · dsimp only
    split
    · rfl
    · split
      · exact Part.classify_stores _ c _ _
      · rfl
  · rfl

theorem Part.pulseJams_stores (p : Part) (c : Fin 6) : (p.pulseJams c).stores = p.stores := by
  simp only [Part.pulseJams]
  split
  · exact Part.jamByPulse_stores _ c
  · rfl

theorem Part.gapExpires_stores (p : Part) (c : Fin 6) : (p.gapExpires c).stores = p.stores := by
  unfold Part.gapExpires
  split
  · exact Part.endTrain_stores _ c
  · rfl

/-! ### Sensors and resets -/

theorem Part.sensorChange_stores (p : Part) (e : EngineId) (report : SensorReport) :
    (p.sensorChange e report).stores = p.stores := by
  have sensed (x : Sensors) : (p.setSensors e x).stores = p.stores := by cases e <;> rfl
  simp only [Part.sensorChange]
  split
  · split
    · exact (Part.stores_of_fixed (Part.faultPrinting_fixed _ e _)).trans (sensed _)
    · exact sensed _
  · exact sensed _

/-- The spool's bytes stay, and each table has the values of the reset (R145, R160, R180). -/
theorem Part.powerOnReset_keepsForm (p : Part) : p.KeepsForm p.powerOnReset := by
  refine ⟨id, fun _ => ⟨fun k => ?_, List.length_replicate, List.length_replicate⟩⟩
  exact (congrArg List.length (Vector.getElem_replicate k.isLt)).trans toneReset_shape.1

theorem Part.resetRelease_stores (p : Part) (ms : Nat) (strap : Strap) (tempA tempB : Int) :
    (p.resetRelease ms strap tempA tempB).stores = p.stores := by
  have latched (q : Part) : (q.latch strap tempA tempB).stores = q.stores := by cases strap <;> rfl
  have slotLine (q : Part) (i : Fin 4) : (q.releaseSlotLine i).stores = q.stores := by
    unfold Part.releaseSlotLine
    split
    · exact q.detectAssert_stores i
    · rfl
  have pulseLine (q : Part) (c : Fin 6) : (q.releasePulseLine c).stores = q.stores := by
    unfold Part.releasePulseLine
    split <;> rfl
  unfold Part.resetRelease
  split
  · exact (foldl_stores pulseLine _ _).trans ((foldl_stores slotLine _ _).trans (latched (p.advance ms)))
  · rfl

theorem Part.pathResetEffects_stores (p : Part) : p.pathResetEffects.stores = p.stores := by
  have blocks : p.pathResetBlocks.stores = p.stores := (congrArg Fixed.stores p.pathResetBlocks_fixed).trans rfl
  have sent (q : Part) : (Part.feed { q with lnk := { q.lnk with tx := none } }).stores = q.stores := Part.feed_stores _
  unfold Part.pathResetEffects
  split
  · exact (Part.feed_stores _).trans blocks
  · split
    · exact (sent _).trans blocks
    · rfl
  · rfl

/-! ### Every step -/

/-- Command by command, what each does to the form of the stores; an access that completes lies in the spool. -/
theorem runOf_keepsForm (c : Instr) (p : Part)
    (inside : c = .spoolAccessDone → ∀ a, p.spl.port = some a → a.inSpool = true) : p.KeepsForm (runOf c p) := by
  cases c with simp only [runOf]
  | powerOnReset => exact p.powerOnReset_keepsForm
  | resetRelease ms strap tempA tempB => exact .of_stores (p.resetRelease_stores ms strap tempA tempB)
  | frameHeaderTaken b => exact .of_stores (p.headerTaken_stores b)
  | frameTaken b => exact .of_stores (p.frameTaken_stores b)
  | linkGapExpiry => exact .of_stores p.linkGapExpires_stores
  | unknownRequest => exact .of_stores p.refuseUnknown_stores
  | replyHandover => exact .of_stores p.handOver_stores
  | frameTransmitDone => exact .of_stores p.transmitDone_stores
  | tableWrite ms => exact p.serve_keepsForm _ _ _ fun q _ args => q.tableWrite_keepsForm ms args
  | tableRead => exact p.serve_of_stores _ _ _ fun q _ args => q.tableRead_stores args
  | statusRead => exact p.serve_of_stores _ _ _ fun q _ args => q.statusRead_stores args
  | eventMask => exact p.serve_of_stores _ _ _ fun q _ args => q.setMask_stores args
  | goLive => exact p.serve_of_stores _ _ _ fun q _ args => q.checkLive_stores args
  | park => exact p.serve_of_stores _ _ _ fun q _ _ => q.askPark_stores
  | wakeSet => exact p.serve_of_stores _ _ _ fun q _ args => q.wakeSet_stores args
  | drain | resume | pathReset | focusClear | tallyRead | tallyClear => exact p.serve_of_stores _ _ _ fun _ _ _ => rfl
  | pathResetEffects => exact .of_stores p.pathResetEffects_stores
  | graceExpiry => exact .of_stores p.graceExpires_stores
  | serviceKeyAssert => exact .of_stores p.keyRises_stores
  | serviceKeyDeassert => exact .of_stores p.keyFalls_stores
  | debounceExpiry src => exact .of_stores (p.debounceExpires_stores src)
  | cardDetectAssert i => exact .of_stores (p.detectRises_stores i)
  | cardRemoval i => exact .of_stores (p.detectFalls_stores i)
  | settlingExpiry i => exact .of_stores (p.settled_stores i)
  | identifyResponse i status data check => exact .of_fixed (p.identifyResponse_fixed i status data check)
  | identifyLimitExpiry i => exact .of_fixed (p.identifyExpired_fixed i)
  | cardResponseTimeout i => exact .of_fixed (p.responseTimeout_fixed i)
  | busyRetryExpiry i => exact .of_fixed (p.busyRetry_fixed i)
  | readBlockResponse i status check => exact .of_fixed (p.readBlockResponse_fixed i status check)
  | dataPhaseComplete i data check => exact .of_fixed (p.dataComplete_fixed i data check)
  | dataPhaseTimeout i => exact .of_fixed (p.dataTimeout_fixed i)
  | readBusyLimit i => exact .of_fixed (p.readBusyExpired_fixed i)
  | stopResponse i status check => exact .of_fixed (p.stopResponse_fixed i status check)
  | stopBusyLimit i => exact .of_fixed (p.stopBusyExpired_fixed i)
  | slotUnbind => exact p.serve_of_stores _ _ _ fun q _ args => q.slotUnbind_stores args
  | sectorRead => exact p.serve_of_stores _ _ _ fun q tag args => q.sectorRead_stores tag args
  | readCancel => exact p.serve_of_stores _ _ _ fun q _ args => q.readCancel_stores args
  | sectorAttemptStart => exact .of_fixed p.beginSector_fixed
  | orderOpen => exact p.serve_of_stores _ _ _ fun q _ args => q.orderOpen_stores args
  | itemAdd => exact p.serve_of_stores _ _ _ fun q _ args => q.itemAdd_stores args
  | itemWithdraw => exact p.serve_of_stores _ _ _ fun q _ args => q.itemWithdraw_stores args
  | orderCommit => exact p.serve_of_stores _ _ _ fun q _ args => q.orderCommit_stores args
  | orderCancel => exact p.serve_of_stores _ _ _ fun q _ args => q.orderCancel_stores args
  | orderResume => exact p.serve_of_stores _ _ _ fun q _ args => q.orderResume_stores args
  | orderRead => exact p.serve_of_stores _ _ _ fun q _ args => q.orderRead_stores args
  | orderRelease => exact p.serve_of_stores _ _ _ fun q _ args => q.orderRelease_stores args
  | pulseAssert ch ms => exact .of_stores (p.pulseRises_stores ch ms)
  | pulseEnd ch ms => exact .of_stores (p.pulseFalls_stores ch ms)
  | pulseJam ch => exact .of_stores (p.pulseJams_stores ch)
  | trainGapExpiry ch => exact .of_stores (p.gapExpires_stores ch)
  | focusSet => exact p.serve_of_stores _ _ _ fun q _ args => q.focusSet_stores args
  | channelReset ms => exact p.serve_of_stores _ _ _ fun q _ args => q.channelReset_stores ms args
  | poolApply => exact p.serve_of_stores _ _ _ fun q _ args => q.poolApply_stores args
  | poolPayout => exact p.serve_of_stores _ _ _ fun q _ args => q.poolPayout_stores args
  | cardAuthorize => exact p.serve_of_stores _ _ _ fun q _ args => q.cardAuthorize_stores args
  | cashlessMessageSent => exact .of_stores rfl
  | approved b =>
    split
    · exact .of_fixed (Part.takeApproved_fixed _ _ _)
    · exact .refl p
  | declined b =>
    split
    · exact .of_fixed (Part.takeDeclined_fixed _ _ _)
    · exact .refl p
  | captured b =>
    split
    · exact .of_fixed (Part.takeCaptured_fixed _ _)
    · exact .refl p
  | released b =>
    split
    · exact .of_fixed (Part.takeReleased_fixed _ _)
    · exact .refl p
  | unknownTerminalMessage b | cashlessCheckDiscard b => split <;> exact .of_stores rfl
  | cashlessGapExpiry => split <;> exact .of_stores rfl
  | cashlessStopBitError => exact .of_stores rfl
  | authorizeTimeout =>
    split
    · exact .of_fixed (p.authTimesOut_fixed _)
    · exact .refl p
  | settlementOpTimeout =>
    split
    · exact .of_fixed (p.settlementEnds_fixed ..)
    · exact .of_fixed (p.settlementEnds_fixed ..)
    · exact .refl p
  | lateReleaseTimeout =>
    split
    · exact .of_fixed p.endOp_fixed
    · exact .refl p
  | bandTake => exact .of_fixed p.takeBand_fixed
  | regionOpen => exact p.serve_of_stores _ _ _ fun q _ args => q.regionOpen_stores args
  | regionClose => exact p.serve_of_stores _ _ _ fun q _ args => q.regionClose_stores args
  | spoolGrant pick => exact .of_fixed (p.grant_fixed pick)
  | spoolAccessDone =>
    split
    next a port => exact p.accessDone_keepsForm (inside rfl a port)
    next => exact .refl p
  | engineOnline => exact p.serve_of_stores _ _ _ fun q _ args => q.engineOnline_stores args
  | engineOffline => exact p.serve_of_stores _ _ _ fun q _ args => q.engineOffline_stores args
  | engineClear => exact p.serve_of_stores _ _ _ fun q _ args => q.engineClear_stores args
  | mediaSet => exact p.serve_of_stores _ _ _ fun q _ args => q.mediaSet_stores args
  | drawComplete e =>
    split
    · exact .of_fixed (p.panelStart_fixed e .Y)
    · exact .refl p
  | panelMotionComplete e panelTemp lineTemp =>
    split
    · exact .of_fixed (p.panelReady_fixed e _ panelTemp lineTemp)
    · exact .refl p
  | motionTimeout e =>
    split
    · exact .of_fixed (p.faultPrinting_fixed e .paperJam)
    · exact .refl p
  | sensorFaultCondition e report => exact .of_stores (p.sensorChange_stores e report)
  | thermistorSample e temp => exact .of_fixed (p.sample_fixed e temp)
  | strobePassDone e lineTemp => exact .of_fixed (p.passDone_fixed e lineTemp)
  | ejectComplete e =>
    split
    · exact .of_fixed (p.copyEjected_fixed e _)
    · exact .refl p
  | linkByteReceived b => exact .of_stores rfl
  | cashlessByteReceived b => exact .of_stores rfl
  | abortEjectComplete e =>
    split
    · exact .of_fixed ((Part.walkIf_fixed _).trans (p.afterEject_fixed e))
    · exact .refl p

/-- A step keeps the form of the stores: it idles, is held off, or carries a command out. -/
theorem step_keepsForm {s t : State} (h : step s = .next t) : s.toPart.KeepsForm t.toPart := by
  unfold step at h
  split at h
  · cases h
    exact .refl _
  · obtain ⟨rfl, -, inside⟩ | ⟨rfl, -, -⟩ := exec_next h
    · exact runOf_keepsForm _ s.toPart inside
    · exact .refl _

/-- Settles O60: the form of the spool's bytes and the sizes of the tables, each as every step keeps it. -/
theorem storesKeepTheirForm : Obligations.StoresKeepTheirForm := by
  unfold Obligations.StoresKeepTheirForm
  refine ⟨fun s t form stepped => ?_, fun s t sized stepped => ?_⟩
  · obtain ⟨bytes, -⟩ := step_keepsForm stepped
    exact bytes form
  · obtain ⟨-, tables⟩ := step_keepsForm stepped
    exact t.tablesSized_iff.mpr (tables (s.tablesSized_iff.mp sized))

end Sys2Proof.Machine
end

section
/-! PROOFS. The four engine requests (R174 to R177) and the entry to IDLE that three of them make (R163, R165 to R167,
R171). -/

set_option Elab.async false

open Sys2Proof Sys2Proof.Machine

namespace Sys2Proof.Machine

/-! ### The entry to IDLE -/

/-- What an entry to IDLE makes of the engine record `x`, whose queue holds one item at most (R163, R165 to R167, R171): the
engine rests, or begins a copy, or is in FAULT by a condition that its sensors report. -/
def State.Enters (s : State) (e : EngineId) (x : Engine) (t : State) : Prop :=
  ((s.toPart.sensors e).condition = none ∧ x.queue = [] ∧ t = s.withEngine e x.idled)
    ∨ (∃ id it, (s.toPart.sensors e).condition = none ∧ x.queue = [id] ∧ s.ord.items[id] = some it
      ∧ (it.state = .queued ∨ it.state = .printing) ∧ t = (s.withEngine e x.idled).copyBegun e id it)
    ∨ ∃ k, (s.toPart.sensors e).condition = some k
      ∧ (x.queue = [] ∨ ∃ id it, x.queue = [id] ∧ s.ord.items[id] = some it ∧ it.state = .printing)
      ∧ t = { (s.withEngine e (x.faulted k)).captured .engineFault with
          spl := { s.spl with port := disowned s.spl.port (.engine e) } }

/-- An engine's only item in progress is not QUEUED. -/
theorem Part.noneQueued_of_printing {p : Part} {queue : List (Fin 64)}
    (h : queue = [] ∨ ∃ id it, queue = [id] ∧ p.ord.items[id] = some it ∧ it.state = .printing) :
    queue.filter p.isQueued = [] := by
  obtain rfl | ⟨id, it, rfl, item, printing⟩ := h
  · rfl
  · have apart : p.isQueued id = false := by rw [Part.isQueued, item, Option.map_some, printing]; rfl
    simp only [List.filter_cons, apart, Bool.false_eq_true, if_false, List.filter_nil]

section
variable {s t : State} {e : EngineId} {x : Engine} (h : s.Enters e x t)
include h

/-- The entry to IDLE of the model is that of the statements (R165, R166). -/
theorem State.Enters.enterIdle (awake : s.svc.mode.dark = false) :
    ({ s with toPart := ((s.withEngine e x).toPart.enterIdle e).1 } : State) = t := by
  let u := s.withEngine e x.idled
  have own : u.eng e = x.idled := s.withEngine_eng e _
  have idled : (s.withEngine e x).toPart.modEng e Engine.idled = u.toPart := by
    rw [State.modEng_part, State.withEngine_eng, State.withEngine_twice]
  have sensors := s.withEngine_sensors e x
  obtain ⟨clear, queue, rfl⟩ | ⟨id, it, clear, queue, item, waits, rfl⟩ | ⟨k, reported, queue, rfl⟩ := h
  · rw [Part.enterIdle_clear (by rw [sensors]; exact clear), idled,
      Part.beginCopy_empty (show (u.eng e).queue = [] by rw [own]; exact queue)]
    exact s.withEngine_of rfl
  · rw [Part.enterIdle_clear (by rw [sensors]; exact clear), idled]
    have idle : (u.eng e).state = .idle := by rw [own]; rfl
    have dark : u.svc.mode.dark = false := by rw [s.withEngine_svc]; exact awake
    have uqueue : (u.eng e).queue = [id] := by rw [own]; exact queue
    have uitem : u.ord.items[id] = some it := by rw [s.withEngine_ord]; exact item
    have begun := waits.elim (State.beginCopy_eq idle dark uqueue uitem) (State.beginCopy_again idle dark uqueue uitem)
    refine Eq.trans ?_ begun
    cases e <;> rfl
  · have uqueue : (u.eng e).queue = x.queue := by rw [own]; rfl
    have uord : u.ord = s.ord := s.withEngine_ord e _
    have noneQueued : (u.eng e).queue.filter u.toPart.isQueued = [] :=
      Part.noneQueued_of_printing (by rw [uqueue, uord]; exact queue)
    rw [Part.enterIdle_reported (by rw [sensors]; exact reported), idled, Part.faultCore_noneQueued noneQueued]
    refine (?_ : _ = ({ u with toPart := u.toPart.enterFault e k } : State)).trans ((u.enterFault_eq e k).trans ?_)
    · cases e <;> rfl
    · rw [own, State.withEngine_twice]
      cases e <;> rfl

/-- An entry to IDLE does not look at the link. -/
theorem State.Enters.lnk (l : Link) : State.Enters { s with lnk := l } e x { t with lnk := l } := by
  have sensors : ({ s with lnk := l } : State).toPart.sensors e = s.toPart.sensors e := by cases e <;> rfl
  unfold State.Enters
  rw [sensors]
  obtain ⟨clear, queue, rfl⟩ | ⟨id, it, clear, queue, item, waits, rfl⟩ | ⟨k, reported, queue, rfl⟩ := h
  · refine .inl ⟨clear, queue, ?_⟩
    cases e <;> rfl
  · refine .inr (.inl ⟨id, it, clear, queue, item, waits, ?_⟩)
    rw [← State.copyBegun_lnk]
    cases e <;> rfl
  · refine .inr (.inr ⟨k, reported, queue, ?_⟩)
    cases e <;> rfl

theorem State.Enters.release : t.ord.release = s.ord.release := by
  obtain ⟨-, -, rfl⟩ | ⟨id, it, -, -, -, -, rfl⟩ | ⟨k, -, -, rfl⟩ := h
  · rw [State.withEngine_ord]
  · rw [State.copyBegun_release, State.withEngine_ord]
  · cases e <;> rfl

end

/-! ### After an eject -/

/-- An offline request is honoured where an engine would enter IDLE (R170). -/
theorem Part.afterEject_offlined {p : Part} {e : EngineId} (h : (p.eng e).offlinePending = true) :
    p.afterEject e = (p.modEng e Engine.offlined, false) :=
  if_pos h

/-- An engine without an offline request enters IDLE (R170). -/
theorem Part.afterEject_enters {p : Part} {e : EngineId} (h : (p.eng e).offlinePending = false) :
    p.afterEject e = p.enterIdle e :=
  if_neg (ne_true_of_eq_false h)

/-! ### The media record -/

/-- An engine whose media record takes a kind and a count (R176). -/
def Engine.loaded (kind count : Nat) (en : Engine) : Engine := { en with mediaKind := kind, prints := count }

section
variable {p : Part} {e : EngineId} (kind count : Nat)

/-- Outside NEEDS_MEDIA the media record alone changes (R176). -/
theorem Part.loadMedia_rests (h : (p.eng e).state ≠ .needsMedia) :
    p.loadMedia e kind count = p.modEng e (Engine.loaded kind count) := by
  simp only [Part.loadMedia, beq_iff_eq, if_neg h]
  rfl

/-- Out of NEEDS_MEDIA an engine that waits to go OFFLINE does so (R176). -/
theorem Part.loadMedia_offlined (h : (p.eng e).state = .needsMedia) (pending : (p.eng e).offlinePending = true) :
    p.loadMedia e kind count = p.modEng e fun en => (en.loaded kind count).offlined := by
  simp only [Part.loadMedia, h, beq_self_eq_true, if_true]
  rw [Part.afterEject_offlined (by rw [Part.modEng_same]; exact pending), Part.modEng_modEng]
  rfl

/-- Out of NEEDS_MEDIA an engine enters IDLE (R176). -/
theorem Part.loadMedia_enters (h : (p.eng e).state = .needsMedia) (stays : (p.eng e).offlinePending = false) :
    p.loadMedia e kind count = ((p.modEng e (Engine.loaded kind count)).enterIdle e).1 := by
  simp only [Part.loadMedia, h, beq_self_eq_true, if_true]
  rw [Part.afterEject_enters (by rw [Part.modEng_same]; exact stays)]
  rfl

end

/-! ### The engine argument -/

theorem engineArg_engineCode (e : EngineId) : engineArg (engineCode e) = some e := by cases e <;> rfl

theorem engineArg_none {n : Nat} (h : 2 ≤ n) : engineArg n = none := by
  match n with
  | _ + 2 => rfl

/-- The states in which MEDIA_SET may load (R176). -/
theorem EngineState.resting {st : EngineState} (h : st ∈ [.offline, .idle, .needsMedia, .fault]) :
    st.printing = false ∧ (st == .absent) = false := by
  revert st
  decide

/-! ### The checks of ENGINE_CLEAR in their order (R177) -/

section
variable {p : Part} {e : EngineId}

theorem Part.clearCheck_jam (jam : (p.sensors e).paperJam = true) : p.clearCheck e = some 0 := if_pos jam

variable (jam : (p.sensors e).paperJam = false)
include jam

theorem Part.clearCheck_ribbon (ribbon : (p.sensors e).ribbonBreak = true) : p.clearCheck e = some 1 := by
  simp only [Part.clearCheck, jam, ribbon, Bool.false_eq_true, if_false, if_true]

variable (ribbon : (p.sensors e).ribbonBreak = false)
include ribbon

theorem Part.clearCheck_door (door : (p.sensors e).doorOpen = true) : p.clearCheck e = some 2 := by
  simp only [Part.clearCheck, jam, ribbon, door, Bool.false_eq_true, if_false, if_true]

variable (door : (p.sensors e).doorOpen = false)
include door

theorem Part.clearCheck_media (other : (p.sensors e).media.val ≠ (p.eng e).mediaKind) : p.clearCheck e = some 3 := by
  simp only [Part.clearCheck, jam, ribbon, door, Bool.false_eq_true, if_false, if_pos other]

variable (same : (p.sensors e).media.val = (p.eng e).mediaKind)
include same

theorem Part.clearCheck_hot (hot : ¬ (p.eng e).temperature < (p.eng e).params.stop) : p.clearCheck e = some 4 := by
  simp only [Part.clearCheck, jam, ribbon, door, Bool.false_eq_true, if_false, ne_eq, same, not_true_eq_false,
    if_pos (Int.not_lt.mp hot)]

theorem Part.clearCheck_passed (cool : (p.eng e).temperature < (p.eng e).params.stop) : p.clearCheck e = none := by
  simp only [Part.clearCheck, jam, ribbon, door, Bool.false_eq_true, if_false, ne_eq, same, not_true_eq_false,
    if_neg (Int.not_le.mpr cool)]

end

/-! ### The checks and effects of the requests -/

section
variable {p : Part} {args : List Byte} {e : EngineId} (arg : engineArg (u8 args 0) = some e)
include arg

/-- ENGINE_ONLINE of an OFFLINE engine (R174). -/
theorem Part.engineOnline_enters (offline : (p.eng e).state = .offline) :
    p.engineOnline args = .engineDone (p.enterIdle e).1.walk e [] := by
  simp only [Part.engineOnline, arg, offline]

/-- ENGINE_ONLINE of an engine that is not fitted, or is not OFFLINE and waits for nothing (R174). -/
theorem Part.engineOnline_refused
    (h : (p.eng e).state = .absent ∨ ((p.eng e).state ≠ .offline ∧ (p.eng e).offlinePending = false)) :
    p.engineOnline args = .engineRefuse p e .wrongState := by
  obtain absent | ⟨running, stays⟩ := h
  · simp only [Part.engineOnline, arg, absent]
  · cases state : (p.eng e).state with
    | absent => simp only [Part.engineOnline, arg, state]
    | offline => exact absurd state running
    | idle | loading | panel | heatHold | ejecting | needsMedia | fault =>
      simp only [Part.engineOnline, arg, state, stays, Bool.false_eq_true, if_false]

/-- ENGINE_ONLINE takes an offline request back (R174). -/
theorem Part.engineOnline_stays (fitted : (p.eng e).state ≠ .absent) (running : (p.eng e).state ≠ .offline)
    (pending : (p.eng e).offlinePending = true) (release : p.ord.release = []) :
    p.engineOnline args = .engineDone (p.modEng e fun en => { en with offlinePending := false }) e [] := by
  have still : (p.modEng e fun en => { en with offlinePending := false }).walk
      = p.modEng e fun en => { en with offlinePending := false } :=
    Part.walk_nil (by rw [Part.modEng_ord]; exact release)
  cases state : (p.eng e).state with
  | absent => exact absurd state fitted
  | offline => exact absurd state running
  | idle | loading | panel | heatHold | ejecting | needsMedia | fault =>
    simp only [Part.engineOnline, arg, state, pending, if_true, still]

/-- ENGINE_OFFLINE of an engine that is not fitted (R175). -/
theorem Part.engineOffline_absent (absent : (p.eng e).state = .absent) :
    p.engineOffline args = .engineRefuse p e .wrongState := by
  simp only [Part.engineOffline, arg, absent]

/-- ENGINE_OFFLINE of an engine that is OFFLINE already (R175). -/
theorem Part.engineOffline_again (offline : (p.eng e).state = .offline) : p.engineOffline args = .engineDone p e [] := by
  simp only [Part.engineOffline, arg, offline]

/-- ENGINE_OFFLINE of an engine that does nothing (R175). -/
theorem Part.engineOffline_now (h : (p.eng e).state = .idle ∨ (p.eng e).state = .needsMedia) :
    p.engineOffline args = .engineDone (p.modEng e fun en => { en with state := .offline }) e [] := by
  obtain idle | empty := h
  · simp only [Part.engineOffline, arg, idle]
  · simp only [Part.engineOffline, arg, empty]

/-- ENGINE_OFFLINE of an engine that prints or is in FAULT waits (R175). -/
theorem Part.engineOffline_later (h : (p.eng e).state.printing = true ∨ (p.eng e).state = .fault) :
    p.engineOffline args = .engineDone (p.modEng e fun en => { en with offlinePending := true }) e [] := by
  cases state : (p.eng e).state with
  | absent | offline | idle | needsMedia => exact absurd (state ▸ h) (by decide)
  | loading | panel | heatHold | ejecting | fault => simp only [Part.engineOffline, arg, state]

/-- ENGINE_CLEAR of an engine that is not in FAULT (R177). -/
theorem Part.engineClear_refused (running : (p.eng e).state ≠ .fault) :
    p.engineClear args = .engineRefuse p e .wrongState := by
  simp only [Part.engineClear, arg, beq_iff_eq, if_neg running]

section
variable (fault : (p.eng e).state = .fault)
include fault

/-- ENGINE_CLEAR names the first check that fails (R177). -/
theorem Part.engineClear_fails {k : Nat} (check : p.clearCheck e = some k) :
    p.engineClear args = ⟨p, .wrongState, [EngineState.fault.code, byte k], .plain⟩ := by
  simp only [Part.engineClear, arg, fault, beq_self_eq_true, if_true, check]
  rfl

/-- ENGINE_CLEAR of an engine that waits to go OFFLINE (R177). -/
theorem Part.engineClear_offlined (passed : p.clearCheck e = none) (pending : (p.eng e).offlinePending = true) :
    p.engineClear args = .engineDone (p.modEng e fun en => Engine.offlined { en with fault := none }) e [] := by
  simp only [Part.engineClear, arg, fault, beq_self_eq_true, if_true, passed, Part.clearFault, pending]
  rw [Part.afterEject_offlined (by rw [Part.modEng_same]; exact pending), Part.modEng_modEng]

/-- ENGINE_CLEAR of an engine that enters IDLE (R177). -/
theorem Part.engineClear_enters (passed : p.clearCheck e = none) (stays : (p.eng e).offlinePending = false) :
    p.engineClear args
      = .engineDone ((p.modEng e fun en => { en with fault := none }).enterIdle e).1.walk e [] := by
  simp only [Part.engineClear, arg, fault, beq_self_eq_true, if_true, passed, Part.clearFault, stays, Bool.false_eq_true,
    if_false]
  rw [Part.afterEject_enters (by rw [Part.modEng_same]; exact stays)]

end

/-- MEDIA_SET with a kind or a count out of range (R176). -/
theorem Part.mediaSet_badArgument (h : 15 < u8 args 1 ∨ 1000 < u16 args 2) :
    p.mediaSet args = .engineRefuse p e .badArgument := by
  simp only [Part.mediaSet, arg, if_pos h]

section
variable (inRange : ¬ (15 < u8 args 1 ∨ 1000 < u16 args 2))
include inRange

/-- MEDIA_SET of a printing engine (R176). -/
theorem Part.mediaSet_busy (printing : (p.eng e).state.printing = true) :
    p.mediaSet args = .engineRefuse p e .busy := by
  simp only [Part.mediaSet, arg, if_neg inRange, printing, if_true]

/-- MEDIA_SET of an engine that is not fitted (R176). -/
theorem Part.mediaSet_absent (absent : (p.eng e).state = .absent) :
    p.mediaSet args = .engineRefuse p e .wrongState := by
  simp only [Part.mediaSet, arg, if_neg inRange, absent, EngineState.printing, Bool.false_eq_true, if_false,
    beq_self_eq_true, if_true]

section
variable (rests : (p.eng e).state ∈ [.offline, .idle, .needsMedia, .fault])
include rests

/-- MEDIA_SET changes no kind under the items of a queue (R176). -/
theorem Part.mediaSet_queued (other : u8 args 1 ≠ (p.eng e).mediaKind) (queue : (p.eng e).queue ≠ []) :
    p.mediaSet args = .engineRefuse p e .wrongState := by
  have waits : ¬ (p.eng e).queue.isEmpty = true := by rwa [List.isEmpty_iff]
  obtain ⟨printing, absent⟩ := EngineState.resting rests
  simp only [Part.mediaSet, arg, if_neg inRange, printing, absent, if_pos (And.intro other waits), Bool.false_eq_true,
    if_false]

/-- MEDIA_SET replaces the media record (R176). -/
theorem Part.mediaSet_loads (same : u8 args 1 = (p.eng e).mediaKind ∨ (p.eng e).queue = []) :
    p.mediaSet args = .engineDone (p.loadMedia e (u8 args 1) (u16 args 2)).walk e
      (byte (p.eng e).mediaKind :: le2 (p.eng e).prints) := by
  have fits : ¬ (u8 args 1 ≠ (p.eng e).mediaKind ∧ ¬ (p.eng e).queue.isEmpty = true) := by
    rw [List.isEmpty_iff]
    tauto
  obtain ⟨printing, absent⟩ := EngineState.resting rests
  simp only [Part.mediaSet, arg, if_neg inRange, if_neg fits, printing, absent, Bool.false_eq_true, if_false]

/-- MEDIA_SET by which no engine enters IDLE, no item waiting in the release list (R86, R176). -/
theorem Part.mediaSet_sets (same : u8 args 1 = (p.eng e).mediaKind ∨ (p.eng e).queue = []) (release : p.ord.release = [])
    {f : Engine → Engine} (loads : p.loadMedia e (u8 args 1) (u16 args 2) = p.modEng e f) :
    p.mediaSet args = .engineDone (p.modEng e f) e (byte (p.eng e).mediaKind :: le2 (p.eng e).prints) := by
  rw [Part.mediaSet_loads arg inRange rests same, loads, Part.walk_nil (by rw [Part.modEng_ord]; exact release)]

end

end

end

/-! ### The answers of the requests -/

/-- A command is the engine request of a code, with one length and the effect `run`, and every serving mode lets it in
(R19). -/
def ServesEngine (c : Instr) (code : Byte) (n : Nat) (run : Part → List Byte → Served) : Prop :=
  ∀ s, exec c s = s.answer fun p => p.serve code (exactly n) admitAll fun p _ args => run p args

theorem servesEngine_online : ServesEngine .engineOnline 0x60 1 Part.engineOnline := fun _ => rfl
theorem servesEngine_offline : ServesEngine .engineOffline 0x61 1 Part.engineOffline := fun _ => rfl
theorem servesEngine_clear : ServesEngine .engineClear 0x62 1 Part.engineClear := fun _ => rfl
theorem servesEngine_mediaSet : ServesEngine .mediaSet 0x63 4 Part.mediaSet := fun _ => rfl

section
variable {c : Instr} {code : Byte} {n : Nat} {run : Part → List Byte → Served} (hc : ServesEngine c code n run)
  {s : State} {tag : Nat} {args : List Byte} {rest : List CtrlEntry} (serving : s.svc.mode.serving = true)
  (h : s.Asks code tag args rest) (hl : args.length = n)
include hc serving h hl

/-- What an engine request makes of the part, its REPLY held for the hand-over (R8, R10). -/
theorem ServesEngine.serves :
    exec c s = .next { s with toPart := Part.hold tag code (run (s.toPart.dequeue rest) args) } := by
  rw [hc, State.serve_admitted h serving (by simp [exactly, hl]) rfl]

/-- An engine request that changes nothing. -/
theorem ServesEngine.replies {st : Status} {result : List Byte}
    (hrun : run (s.toPart.dequeue rest) args = ⟨s.toPart.dequeue rest, st, result, .plain⟩) :
    exec c s = .next (s.replying rest tag code st result) := by
  rw [hc.serves serving h hl, hrun]
  rfl

/-- An engine request that changes the engine's record alone. -/
theorem ServesEngine.sets {e : EngineId} {f : Engine → Engine} {more : List Byte}
    (hrun : run (s.toPart.dequeue rest) args = .engineDone ((s.toPart.dequeue rest).modEng e f) e more) :
    exec c s = .next ((s.replying rest tag code .ok ((f (s.eng e)).state.code :: more)).withEngine e (f (s.eng e))) := by
  rw [hc.serves serving h hl, hrun]
  cases e <;> rfl

/-- An engine request by which the engine enters IDLE, no item waiting in the release list (R86). -/
theorem ServesEngine.enters {e : EngineId} {x : Engine} {q : Part} {t : State} {more : List Byte}
    (release : s.ord.release = [])
    (hrun : run (s.toPart.dequeue rest) args = .engineDone (q.enterIdle e).1.walk e more)
    (hq : q = (State.withEngine { s with toPart := s.toPart.dequeue rest } e x).toPart) (ht : s.Enters e x t) :
    exec c s = .next { t with lnk := (s.replying rest tag code .ok ((t.eng e).state.code :: more)).lnk } := by
  have entered := (ht.lnk (s.toPart.dequeue rest).lnk).enterIdle (Mode.serving_not_dark serving)
  have listed := (ht.lnk (s.toPart.dequeue rest).lnk).release.trans release
  have part : (q.enterIdle e).1 = { t.toPart with lnk := (s.toPart.dequeue rest).lnk } := by
    rw [hq]
    exact congrArg State.toPart entered
  have pending : s.pending = t.pending := (congrArg State.pending entered :)
  have still : (q.enterIdle e).1.walk = (q.enterIdle e).1 := Part.walk_nil (by rw [part]; exact listed)
  rw [hc.serves serving h hl, hrun, still, part, pending]
  cases e <;> rfl

end

/-- Settles O54: each request by its checks in their order, and the entry to IDLE as one lemma. -/
theorem engineRequestsChangeTheState : Obligations.EngineRequestsChangeTheState := by
  unfold Obligations.EngineRequestsChangeTheState
  refine ⟨fun s c code n tag args rest hrow h hl serving other => ?_, ?_⟩
  · have unknown := engineArg_none other
    simp only [List.mem_cons, Prod.mk.injEq, List.not_mem_nil, or_false] at hrow
    obtain ⟨rfl, rfl, rfl⟩ | ⟨rfl, rfl, rfl⟩ | ⟨rfl, rfl, rfl⟩ | ⟨rfl, rfl, rfl⟩ := hrow
    · exact servesEngine_online.replies serving h hl (by simp only [Part.engineOnline, unknown]; rfl)
    · exact servesEngine_offline.replies serving h hl (by simp only [Part.engineOffline, unknown]; rfl)
    · exact servesEngine_clear.replies serving h hl (by simp only [Part.engineClear, unknown]; rfl)
    · exact servesEngine_mediaSet.replies serving h hl (by simp only [Part.mediaSet, unknown]; rfl)
  intro s tag args rest e serving argument release en sensors quiet answer rested enters answered
  have arg : engineArg (u8 args 0) = some e := argument ▸ engineArg_engineCode e
  let p := s.toPart.dequeue rest
  refine ⟨fun h hl => ⟨fun offline t ht => ?_, fun refused => ?_, fun fitted running pending => ?_⟩,
    fun h hl => ⟨fun absent => ?_, fun offline => ?_, fun rests => ?_, fun works => ?_⟩, fun h hl => ?_, fun h hl => ?_⟩
  · exact servesEngine_online.enters serving h hl (x := en) release (Part.engineOnline_enters (p := p) arg offline)
      (by cases e <;> rfl) ht
  · exact servesEngine_online.replies serving h hl (Part.engineOnline_refused (p := p) arg refused)
  · exact servesEngine_online.sets serving h hl (Part.engineOnline_stays (p := p) arg fitted running pending release)
  · exact servesEngine_offline.replies serving h hl (Part.engineOffline_absent (p := p) arg absent)
  · exact servesEngine_offline.replies serving h hl (Part.engineOffline_again (p := p) arg offline)
  · exact servesEngine_offline.sets serving h hl (Part.engineOffline_now (p := p) arg rests)
  · exact servesEngine_offline.sets serving h hl (Part.engineOffline_later (p := p) arg works)
  · intro cool failed
    refine ⟨fun running => servesEngine_clear.replies serving h hl (Part.engineClear_refused (p := p) arg running),
      fun fault => ?_⟩
    have fails {k : Nat} (check : p.clearCheck e = some k) : failed (byte k) :=
      servesEngine_clear.replies serving h hl (Part.engineClear_fails (p := p) arg fault check)
    have passes : quiet → sensors.media.val = en.mediaKind → cool → p.clearCheck e = none :=
      fun ⟨jam, ribbon, door⟩ same cool => Part.clearCheck_passed (p := p) jam ribbon door same cool
    refine ⟨fun jam => fails (Part.clearCheck_jam (p := p) jam),
      fun jam ribbon => fails (Part.clearCheck_ribbon (p := p) jam ribbon),
      fun jam ribbon door => fails (Part.clearCheck_door (p := p) jam ribbon door),
      fun ⟨jam, ribbon, door⟩ other => fails (Part.clearCheck_media (p := p) jam ribbon door other),
      fun ⟨jam, ribbon, door⟩ same hot => fails (Part.clearCheck_hot (p := p) jam ribbon door same hot),
      fun clear same cool => ⟨fun pending => ?_, fun stays t ht => ?_⟩⟩
    · exact servesEngine_clear.sets serving h hl
        (Part.engineClear_offlined (p := p) arg fault (passes clear same cool) pending)
    · exact servesEngine_clear.enters serving h hl release
        (Part.engineClear_enters (p := p) arg fault (passes clear same cool) stays)
        (State.modEng_part { s with toPart := p } e _) ht
  · intro kind count before loaded refused
    refine ⟨fun wrong => ?_, fun hkind hcount => ?_⟩
    · exact servesEngine_mediaSet.replies serving h hl (Part.mediaSet_badArgument (p := p) arg wrong)
    have inRange : ¬ (15 < kind ∨ 1000 < count) := by omega
    refine ⟨fun printing => ?_, fun absent => ?_, fun rests other queue => ?_,
      fun fits => ⟨fun rests => ?_, fun empty pending => ?_, fun empty stays t ht => ?_⟩⟩
    · exact servesEngine_mediaSet.replies serving h hl (Part.mediaSet_busy (p := p) arg inRange printing)
    · exact servesEngine_mediaSet.replies serving h hl (Part.mediaSet_absent (p := p) arg inRange absent)
    · exact servesEngine_mediaSet.replies serving h hl (Part.mediaSet_queued (p := p) arg inRange rests other queue)
    · have member : en.state ∈ [.offline, .idle, .needsMedia, .fault] ∧ en.state ≠ .needsMedia := by
        obtain state | state | state := rests <;> rw [state] <;> decide
      obtain ⟨resting, apart⟩ := member
      exact servesEngine_mediaSet.sets serving h hl (Part.mediaSet_sets (p := p) arg inRange resting fits release
        (Part.loadMedia_rests kind count apart))
    all_goals have resting : en.state ∈ [.offline, .idle, .needsMedia, .fault] := by rw [empty]; decide
    · exact servesEngine_mediaSet.sets serving h hl (Part.mediaSet_sets (p := p) arg inRange resting fits release
        (Part.loadMedia_offlined kind count empty pending))
    · refine servesEngine_mediaSet.enters serving h hl release ?_
        (State.modEng_part { s with toPart := p } e (Engine.loaded kind count)) ht
      exact (Part.mediaSet_loads (p := p) arg inRange resting fits).trans
        (congrArg (fun q : Part => Served.engineDone q.walk e _) (Part.loadMedia_enters kind count empty stays))

end Sys2Proof.Machine
end

section
/-! PROOFS. One step (log entry 2): the front command of the queue, or idling. -/

set_option Elab.async false

open Sys2Proof Sys2Proof.Machine

namespace Sys2Proof.Machine

theorem step_cons {c : Instr} {s : State} {rest : List Instr} (h : s.pending = c :: rest) :
    step s = exec c { s with pending := rest } := by rw [step, h]

theorem step_nil {s : State} (h : s.pending = []) : step s = .next s := by rw [step, h]

/-- Settles O1, by the two forms of the command queue. -/
theorem stepCarriesOutTheFrontCommand : Obligations.StepCarriesOutTheFrontCommand :=
  ⟨fun _ _ _ h => step_cons h, fun _ h => step_nil h⟩

end Sys2Proof.Machine
end

section
/-! PROOFS. The codes of a line: the temperature and the heat history (R184, R185), the groups (R186) and the clip (R187). -/

set_option Elab.async false

open Sys2Proof Sys2Proof.Machine

namespace Sys2Proof.Machine

/-! ### The codes before the groups (R184, R185) -/

/-- The edge dots stand in for the missing neighbours: the indices are cut off at both ends of the line. -/
theorem heatHistory_eq (prev : List Nat) {w i : Nat} (h : i < w) :
    heatHistory prev w i
      = (prev.getD (i - 1) 0 + 2 * prev.getD i 0 + prev.getD (min (i + 1) (w - 1)) 0) / 4 := by
  have left : (if i = 0 then prev.getD 0 0 else prev.getD (i - 1) 0) = prev.getD (i - 1) 0 := by
    split
    next first => rw [first]
    next => rfl
  have right : (if i + 1 = w then prev.getD i 0 else prev.getD (i + 1) 0) = prev.getD (min (i + 1) (w - 1)) 0 := by
    split
    next last => rw [show min (i + 1) (w - 1) = i by omega]
    next inner => rw [show min (i + 1) (w - 1) = i + 1 by omega]
  rw [heatHistory, left, right]

section
variable (energy : List Nat) (q : EngineParams) (panel : Panel) (t : Int) (prev : List Nat) (row : List Byte)

theorem lineCodes_length : (lineCodes energy q panel t prev row).length = row.length := by simp [lineCodes]

theorem lineCodes_getD {i : Nat} (h : i < row.length) :
    (lineCodes energy q panel t prev row).getD i 0
      = min 1023 (correctedEnergy energy q panel t (row.getD i 0) - q.kH * heatHistory prev row.length i / 256) := by
  have tone : byte ((row.map BitVec.toNat).getD i 0) = row.getD i 0 := by simp [byte, h]
  rw [lineCodes, List.getD_eq_getElem _ _ (by simpa using h), List.getElem_map, List.getElem_range, dotCode, tone]
  rfl
end

/-! ### Group sums and the group count (R186) -/

section
variable (codes : List Nat) (budget : Nat)

/-- A list walked with its indices is the walk of its indices. -/
theorem map_zipIdx_eq_map_range (f : Nat → Nat → Nat) :
    (codes.zipIdx.map fun x => f x.1 x.2) = (List.range codes.length).map fun i => f (codes.getD i 0) i :=
  List.ext_getElem (by simp) fun i _ inside => by
    have inside : i < codes.length := by simpa using inside
    simp [inside]

theorem groupSum_eq (g k : Nat) :
    groupSum codes g k
      = ((List.range codes.length).map fun i => if i % g = k then codes.getD i 0 else 0).sum :=
  congrArg List.sum (map_zipIdx_eq_map_range codes fun c i => if i % g = k then c else 0)

theorem groupsFit_iff (g : Nat) : groupsFit codes budget g = true ↔ ∀ k, k < g → groupSum codes g k ≤ budget := by
  simp [groupsFit]

/-- Sums compare, up to a factor on each side, as the codes of the group do. -/
theorem mul_groupSum_le {codes line : List Nat} {a b g k : Nat} (same : line.length = codes.length)
    (each : ∀ i, i < codes.length → i % g = k → a * line.getD i 0 ≤ b * codes.getD i 0) :
    a * groupSum line g k ≤ b * groupSum codes g k := by
  rw [groupSum_eq, groupSum_eq, same, ← List.sum_map_mul_left, ← List.sum_map_mul_left]
  refine List.sum_le_sum fun i inside => ?_
  split
  next own => exact each i (List.mem_range.mp inside) own
  next => simp

/-! ### The clip (R187) -/

/-- A code of a group with the given sum, once the clip has been made where it is due (R187). -/
def clippedCode (budget sum code : Nat) : Nat := if budget < sum then code * budget / sum else code

theorem clippedCode_le (sum code : Nat) : clippedCode budget sum code ≤ code := by
  unfold clippedCode
  split
  next exceeds => exact Nat.div_le_of_le_mul (by rw [Nat.mul_comm sum]; exact Nat.mul_le_mul_left _ exceeds.le)
  next => exact le_rfl

theorem finalCodes_of_fits (h : groupsFit codes budget 1 ∨ groupsFit codes budget 2 ∨ groupsFit codes budget 4) :
    finalCodes codes budget = codes := by
  have whole : lineClipped codes budget = false := by
    obtain h | h | h := h <;> simp [lineClipped, h]
  simp [finalCodes, whole]

theorem finalCodes_of_clipped (h : lineClipped codes budget = true) :
    finalCodes codes budget
      = (List.range codes.length).map fun i => clippedCode budget (groupSum codes 4 (i % 4)) (codes.getD i 0) := by
  rw [finalCodes, if_pos h]
  exact map_zipIdx_eq_map_range codes fun c i => clippedCode budget (groupSum codes 4 (i % 4)) c

theorem lineClipped_iff :
    lineClipped codes budget = true
      ↔ ¬ (groupsFit codes budget 1 ∨ groupsFit codes budget 2 ∨ groupsFit codes budget 4) := by
  simp [lineClipped, and_assoc]

theorem finalCodes_length : (finalCodes codes budget).length = codes.length := by
  unfold finalCodes
  split <;> simp

theorem finalCodes_getD_of_clipped (h : lineClipped codes budget = true) {i : Nat} (inside : i < codes.length) :
    (finalCodes codes budget).getD i 0
      = clippedCode budget (groupSum codes 4 (i % 4)) (codes.getD i 0) := by
  simp [finalCodes_of_clipped codes budget h, inside]

theorem finalCodes_getD_le {i : Nat} (inside : i < codes.length) :
    (finalCodes codes budget).getD i 0 ≤ codes.getD i 0 := by
  by_cases clipped : lineClipped codes budget = true
  · rw [finalCodes_getD_of_clipped codes budget clipped inside]
    exact clippedCode_le ..
  · rw [finalCodes_of_fits codes budget (not_not.mp (mt (lineClipped_iff codes budget).mpr clipped))]

/-- Rounding down each `code * budget / sum` of a group over the budget leaves the group within the budget. -/
theorem groupSum_clipped_le (h : lineClipped codes budget = true) (k : Nat) :
    groupSum (finalCodes codes budget) 4 k ≤ budget := by
  have same := finalCodes_length codes budget
  by_cases exceeds : budget < groupSum codes 4 k
  · have scaled : groupSum codes 4 k * groupSum (finalCodes codes budget) 4 k ≤ budget * groupSum codes 4 k :=
      mul_groupSum_le same fun i inside own => by
        rw [finalCodes_getD_of_clipped codes budget h inside, own, clippedCode, if_pos exceeds, Nat.mul_comm budget]
        exact Nat.mul_div_le _ _
    exact Nat.le_of_mul_le_mul_left (scaled.trans_eq (Nat.mul_comm ..)) (by omega)
  · have smaller : 1 * groupSum (finalCodes codes budget) 4 k ≤ 1 * groupSum codes 4 k :=
      mul_groupSum_le same fun i inside _ => Nat.mul_le_mul_left 1 (finalCodes_getD_le codes budget inside)
    omega

/-- The group count in use fits the final codes to the budget: by its choice, or else by the clip. -/
theorem groupSum_finalCodes_le {k : Nat} (hk : k < groupCount codes budget) :
    groupSum (finalCodes codes budget) (groupCount codes budget) k ≤ budget := by
  have chosen {g : Nat} (fits : groupsFit codes budget g = true) (hk : k < g) : groupSum codes g k ≤ budget :=
    (groupsFit_iff codes budget g).mp fits k hk
  unfold groupCount at hk ⊢
  split at hk
  next one =>
    rw [if_pos one, finalCodes_of_fits codes budget (.inl one)]
    exact chosen one hk
  next notOne =>
    rw [if_neg notOne]
    split at hk
    next two =>
      rw [if_pos two, finalCodes_of_fits codes budget (.inr (.inl two))]
      exact chosen two hk
    next notTwo =>
      rw [if_neg notTwo]
      by_cases four : groupsFit codes budget 4 = true
      · rw [finalCodes_of_fits codes budget (.inr (.inr four))]
        exact chosen four hk
      · exact groupSum_clipped_le codes budget ((lineClipped_iff codes budget).mpr (by tauto)) k

end

/-- Settles O57: the dots by R184 and R185, then the groups and the clip as facts of any list of codes. -/
theorem strobeCodesKeepTheBudget : Obligations.StrobeCodesKeepTheBudget := by
  unfold Obligations.StrobeCodesKeepTheBudget
  intro energy q panel t prev row w codes final g f sum fits
  have width : codes.length = w := lineCodes_length energy q panel t prev row
  have finalWidth : final.length = w := (finalCodes_length codes q.budget).trans width
  have sum_eq {line : List Nat} (same : line.length = w) (g k : Nat) : sum line g k = groupSum line g k := by
    rw [groupSum_eq, same]
  have fits_iff (g : Nat) : fits g ↔ groupsFit codes q.budget g = true := by
    simp only [fits, sum_eq width, groupsFit_iff]
  have dot {i : Nat} (hi : i < w) : codes.getD i 0 = _ := lineCodes_getD energy q panel t prev row hi
  simp only [fits_iff, sum_eq width]
  refine ⟨width, finalWidth, fun i hi => ?_, fun one => if_pos one,
    fun notOne two => (if_neg notOne).trans (if_pos two), fun notOne notTwo => (if_neg notOne).trans (if_neg notTwo),
    finalCodes_of_fits codes q.budget, fun notOne notTwo notFour i hi => ?_, fun i hi => ?_, fun k hk => ?_⟩
  · rw [dot hi, heatHistory_eq prev hi]
    rfl
  · exact finalCodes_getD_of_clipped codes q.budget ((lineClipped_iff codes q.budget).mpr (by tauto)) (width ▸ hi)
  · have lower : final.getD i 0 ≤ codes.getD i 0 := finalCodes_getD_le codes q.budget (width ▸ hi)
    exact ⟨lower.trans (dot hi ▸ Nat.min_le_left ..), lower⟩
  · exact (sum_eq finalWidth g k).trans_le (groupSum_finalCodes_le codes q.budget hk)

end Sys2Proof.Machine
end
